-- ==== Sys2Proof/Word.lean ====
section
/-! DEFINITION. The widths the Seat Link carries (R192) and the numbers of the part's numbered things (00_scope). -/

namespace Sys2Proof

/-- One byte on the Seat Link (R174). -/
abbrev Byte := BitVec 8

/-- A two-byte field of a payload, carried high byte first (R192). -/
abbrev Half := BitVec 16

/-- The number of an axis, 0–11 (00_scope, Capacities). -/
abbrev AxisNo := Fin 12

/-- The number of a drive channel, 0–3 (R84). -/
abbrev ChanNo := Fin 4

/-- The number of a runner, 0–2 (R152). -/
abbrev RunnerNo := Fin 3

/-- The number of a keep-out entry, 0–23 (R118). -/
abbrev EntryNo := Fin 24

/-- The number of a plan slot, 0–7 (R140). -/
abbrev SlotNo := Fin 8

/-- The number of a mark, 0–7 (R148). -/
abbrev MarkNo := Fin 8

end Sys2Proof
end

