-- ==== Sys2Proof/Config.lean ====
section
/-! DEFINITION. What the part fixes (its identity and its timings' limits) and the free values: what the spec leaves open.
A free value is a constant without a body, applied to a counter that State holds (log 2). -/

namespace Sys2Proof.Config

/-- FREE VALUE (log 2, DESIGN CHOICE): what heat rises by in a 10 ms interval in which the duty was not constant.
R47 says heat rises by "the effective duty, in percent, applied during that interval" and gives no rule for an interval
with several duties. The arguments are the counter of free values, the least duty and the greatest duty applied. -/
opaque intervalDuty : Nat → Nat → Nat → Nat

/-- FREE VALUE (log 2, DESIGN CHOICE): which of several retired channels of an axis's reach a NO_CHANNEL raised at a join
names. R61 says "the retired channel" and does not say which. The arguments are the counter of free values and how many
retired channels there are to choose from. -/
opaque retiredPick : Nat → Nat → Nat

/-- The identity the part answers to IDENT, in the order of R188 and under the widths of R192. -/
def identity : List (BitVec 8) := [0x3C, 0x11, 0x02, 0xC8, 1, 12, 4, 3, 64, 8, 24, 16]

/-- How many reports the report queue holds (R182). -/
def reportQueueSize : Nat := 16

/-- How many frames the intake buffer holds (R177). -/
def intakeSize : Nat := 4

/-- The greatest payload of a frame, in bytes (section 10.1). -/
def maxPayload : Nat := 60

/-- The jog window of a JOG HOLD, in milliseconds (R50). -/
def jogWindow : Nat := 150

/-- A channel's cooldown after a short trip, in milliseconds (R84, R94). -/
def cooldown : Nat := 1000

/-- The duty of a winding-test pulse, in percent (R67). -/
def checkDuty : Nat := 25

/-- The current below which a pulse found nothing, in mA: 0.2 A (R68). -/
def openCurrent : Nat := 200

/-- The remaining distance below which a move that reaches its heat limit goes on, in counts (R48). -/
def heatFinish : Nat := 200

/-- The heat an axis loses in a 10 ms interval in which it is not driven (R47). -/
def cooling : Nat := 20

/-- The heat an axis loses for each second of sleep (R47, R200). -/
def sleepCredit : Nat := 2000

/-- The value at which the sleep time counter stops (R198). -/
def maxSleepTime : Nat := 65535

/-- The value at which the elapsed time of a run stops (R169). -/
def maxElapsed : Nat := 4294967295

end Sys2Proof.Config
end

