-- ==== Sys2Proof/Syntax.lean ====
section
/-! DEFINITION. The commands of the part: one constructor per row of spec/opcode_table.json.
A request carries its tag and its payload's fields as the wire carries them (R179, R192), before any check of the owning
block: a field may hold a value outside its range. An event carries what it is an event of. -/

namespace Sys2Proof

/-- A direction on an axis: toward LOW is toward position 0, toward HIGH toward the travel (00_scope, Directions).
It also names the end of travel that lies that way. -/
inductive Dir where
  | low
  | high
  deriving DecidableEq, Repr

/-- A Hall edge (R7): a step to a neighbouring combination is one count, a step in which both channels change is illegal. -/
inductive HallStep where
  | count (d : Dir)
  | illegal
  deriving DecidableEq, Repr

/-- What can wake the part (R199). `line` carries the WAKE line's new level: it is level-sensitive, so its level matters
at the moment the part enters SLEEP too. -/
inductive WakeSource where
  | rxEdge
  | line (asserted : Bool)
  | hand
  deriving DecidableEq, Repr

/-- The fields of an AXIS_SET payload after the axis number (R192, AXIS_SET payload). -/
structure AxisArgs where
  travel : Half
  refEnd : Byte
  lash : Byte
  endZone : Byte
  stop0 : Half
  stop1 : Half
  stop2 : Half
  stop3 : Half
  draw : Byte
  stallWindow : Half
  scaleGroup : Byte
  reach : Byte
  partner : Byte
  skewLimit : Byte
  pinchPresent : Byte
  pinchLo : Half
  pinchHi : Half
  pinchDir : Byte
  backoff : Half
  handMovable : Byte
  heatLimit : Byte
  deriving DecidableEq, Repr

/-- The ten values of a PROFILE_WRITE payload (section 2.2, R192). -/
structure ProfileArgs where
  startDuty : Byte
  cruiseDuty : Byte
  rampUp : Half
  creepDuty : Byte
  creepZone : Half
  coast : Byte
  tolerance : Byte
  minSpeed : Half
  obstruction : Byte
  blanking : Half
  deriving DecidableEq, Repr

/-- The contents of a KEEPOUT_SET payload after the entry number and the presence byte (R118, R192). -/
structure KeepoutArgs where
  enabled : Byte
  axisA : Byte
  loA : Half
  hiA : Half
  axisB : Byte
  loB : Half
  hiB : Half
  guard : Byte
  deriving DecidableEq, Repr

/-- A gate of a move entry, four bytes (R192, Move entry). -/
structure GateArgs where
  kind : Byte
  a : Byte
  b : Half
  deriving DecidableEq, Repr

/-- A move entry as PLAN_WRITE carries it: six bytes and its gates (R192, Move entry). `packed` is byte 4: the profile in
bits 0–3, the priority in bits 4–5, the gate count in bits 6–7. -/
structure EntryArgs where
  axis : Byte
  kind : Byte
  value : Half
  packed : Byte
  setMark : Byte
  gates : List GateArgs
  deriving DecidableEq, Repr

/-- The commands, one constructor per row of spec/opcode_table.json, in its order. -/
inductive Instr where
  /-- IDENT (R188). -/
  | ident (tag : Byte)
  /-- STATUS (R189). -/
  | status (tag : Byte)
  /-- SETUP (R187): supervision window and report cadence in ms, block timeout in s, idle dwell in 0.1 s. -/
  | setup (tag : Byte) (window cadence : Half) (blockTimeout : Byte) (dwell : Half)
  /-- RESET (R201). -/
  | reset (tag : Byte)
  /-- AXIS_SET (R1). -/
  | axisSet (tag axis : Byte) (args : AxisArgs)
  /-- AXIS_GET (R6): the configuration form carries an axis, the runtime form one byte more. -/
  | axisGet (tag axis : Byte) (form : Option Byte)
  /-- ACK (R65). -/
  | ack (tag axis : Byte)
  /-- JOG (R49): direction, mode (0 COUNTS, 1 HOLD), distance. -/
  | jog (tag axis dir mode : Byte) (counts : Half)
  /-- HOME (R15). -/
  | home (tag axis : Byte)
  /-- CHECK (R66). -/
  | check (tag axis : Byte)
  /-- PROFILE_WRITE (R25). -/
  | profileWrite (tag bank index : Byte) (vals : ProfileArgs)
  /-- PROFILE_READ (R26). -/
  | profileRead (tag bank index : Byte)
  /-- PROFILE_SWAP (R27). -/
  | profileSwap (tag : Byte)
  /-- SCALE_SET (R28). -/
  | scaleSet (tag group factor : Byte)
  /-- KEEPOUT_SET (R119): `present` is the presence byte, 0 for the empty form. -/
  | keepoutSet (tag entry present : Byte) (args : KeepoutArgs)
  /-- KEEPOUT_GET (R120). -/
  | keepoutGet (tag entry : Byte)
  /-- PLAN_WRITE (R137): the start index, the declared entry count, the entries. -/
  | planWrite (tag start count : Byte) (entries : List EntryArgs)
  /-- PLAN_READ (R139): the entry form carries a start and a count, the slot form a slot. -/
  | planRead (tag first : Byte) (count : Option Byte)
  /-- PLAN_DEFINE (R140). -/
  | planDefine (tag slot start length clearMarks timeout : Byte)
  /-- RUN (R154). -/
  | run (tag slot : Byte)
  /-- PAUSE (R166). -/
  | pause (tag runner : Byte)
  /-- RESUME (R167). -/
  | resume (tag runner : Byte)
  /-- HALT (R168). -/
  | halt (tag runner : Byte)
  /-- MARK (R149): action 0 SET, 1 CLEAR. -/
  | mark (tag mark action : Byte)
  /-- RUN_GET (R190): the long form carries a first move index. -/
  | runGet (tag runner : Byte) (first : Option Byte)
  /-- BUDGET_SET (R105), in 0.1 A. -/
  | budgetSet (tag : Byte) (budget : Half)
  /-- POWER (R197): mode (0 SLEEP), watch, wake-on-hand, quick. -/
  | power (tag mode watch wakeOnHand quick : Byte)
  /-- UNKNOWN_KIND (R179): a taken frame whose kind is no request kind. -/
  | unknownKind (tag kind : Byte) (payload : List Byte)
  /-- BYTE_RECEIVED (R174), with whether the byte has a framing error. -/
  | byteReceived (value : Byte) (framingError : Bool)
  /-- INTER_BYTE_GAP (R174). -/
  | interByteGap
  /-- TRANSMIT_END (R181). -/
  | transmitEnd
  /-- CADENCE_EXPIRY (R184). -/
  | cadenceExpiry
  /-- SUPERVISION_LAPSE (R185). -/
  | supervisionLapse
  /-- HALL_EDGE (R7). -/
  | hallEdge (axis : AxisNo) (step : HallStep)
  /-- HAND_MOVE_REST (R18). -/
  | handMoveRest (axis : AxisNo)
  /-- BLANKING_END (R53). -/
  | blankingEnd (axis : AxisNo)
  /-- OBSTRUCTION_CURRENT (R54). -/
  | obstructionCurrent (axis : AxisNo)
  /-- STALL (R55). -/
  | stall (axis : AxisNo)
  /-- CONTROLLED_STOP_RAMP_END (R40). -/
  | controlledStopRampEnd (axis : AxisNo)
  /-- STANDSTILL (R39). -/
  | standstill (axis : AxisNo)
  /-- CHECK_PULSE_END (R67), with the highest channel current measured in the pulse, in mA. -/
  | checkPulseEnd (axis : AxisNo) (peak : Nat)
  /-- ESCALATION (R38). -/
  | escalation (axis : AxisNo)
  /-- HEAT_TICK (R47): 10 ms have passed. -/
  | heatTick
  /-- JOG_WINDOW_EXPIRY (R50). -/
  | jogWindowExpiry (axis : AxisNo)
  /-- BLOCK_TIMEOUT (R130). -/
  | blockTimeout (axis : AxisNo)
  /-- SETTLE_CLOSE_END (R86). -/
  | settleCloseEnd (chan : ChanNo)
  /-- SETTLE_OPEN_END (R87). -/
  | settleOpenEnd (chan : ChanNo)
  /-- SHORT_TRIP (R94). -/
  | shortTrip (chan : ChanNo)
  /-- COOLDOWN_END (R95). -/
  | cooldownEnd (chan : ChanNo)
  /-- AFTER_DELAY_EXPIRY (R143): the gate's place in the move's gate list. -/
  | afterDelayExpiry (runner : RunnerNo) (move gate : Nat)
  /-- RUN_TIMEOUT (R169). -/
  | runTimeout (runner : RunnerNo)
  /-- RUNNER_PAUSED (R165). -/
  | runnerPaused (runner : RunnerNo)
  /-- HALTING_END (R168). -/
  | haltingEnd (runner : RunnerNo)
  /-- SUPPLY_SAMPLE (R101): the filtered supply voltage in mV and the die temperature in 0.1 °C. -/
  | supplySample (millivolts : Nat) (deciCelsius : Int)
  /-- SHARE_REQ_CHANGE (R114): the level taken. -/
  | shareReqChange (asserted : Bool)
  /-- SHARE_YIELD (R114). -/
  | shareYield
  /-- INHIBIT_CHANGE (R170): the level taken. -/
  | inhibitChange (asserted : Bool)
  /-- IDLE_DWELL_EXPIRY (R195). -/
  | idleDwellExpiry
  /-- DRIVE_STAGE_READY (R193). -/
  | driveStageReady
  /-- SLEEP_ENTRY (R197). -/
  | sleepEntry
  /-- WAKE_EVENT (R199). -/
  | wakeEvent (source : WakeSource)
  /-- WAKE_TIME_END (R200). -/
  | wakeTimeEnd
  /-- POWER_ON_RESET (R194): the supply is below 6.0 V. -/
  | powerOnReset
  /-- INIT_END (R194). -/
  | initEnd
  /-- RESETTING_COMPLETE (R202). -/
  | resettingComplete
  /-- INIT_START (R194): the supply is at or above 6.0 V again. -/
  | initStart
  deriving DecidableEq, Repr

end Sys2Proof
end

