-- ==== Sys2Proof/WellFormed.lean ====
section
/-! DEFINITION. Which commands a sender can send at all. Fields of fixed width are well formed by their types; what is left
to check are the forms whose parts must agree with one another (R136, R179, R192). A command that is not well formed still
has a meaning: the part answers it as the frame it would be. -/

namespace Sys2Proof

/-- How many gates byte 4 of an entry declares: bits 6–7 (R192, Move entry). -/
def EntryArgs.gateCount (e : EntryArgs) : Nat := (e.packed.extractLsb' 6 2).toNat

/-- The bytes a move entry takes: six, and four for each gate its byte 4 declares (R192). -/
def EntryArgs.size (e : EntryArgs) : Nat := 6 + 4 * e.gateCount

/-- The declared gate count is the number of gates carried. -/
def EntryArgs.consistent (e : EntryArgs) : Bool := e.gateCount == e.gates.length

/-- The payload bytes of a list of entries (R192). -/
def entriesSize (es : List EntryArgs) : Nat := (es.map EntryArgs.size).sum

/-- A PLAN_WRITE's declared counts agree with its length, and it fits a payload of 60 bytes (R179, R192). -/
def planWriteFits (count : Byte) (es : List EntryArgs) : Bool :=
  count.toNat == es.length && es.all EntryArgs.consistent && decide (2 + entriesSize es ≤ 60)

/-- The request kinds of the catalogue, section 10.8. -/
def requestKinds : List Byte :=
  [0x01, 0x02, 0x03, 0x04, 0x10, 0x11, 0x12, 0x13, 0x14, 0x15, 0x18, 0x19, 0x1A, 0x1B, 0x20, 0x21, 0x28, 0x29, 0x2A,
   0x30, 0x31, 0x32, 0x33, 0x34, 0x35, 0x38, 0x3A]

/-- The command is one a sender can send: a frame's parts agree, an unknown kind is unknown and its payload fits a frame,
and a gate of an AFTER_DELAY_EXPIRY is one that a plan can have (a plan has at most 32 moves of at most 3 gates, R135, R140). -/
def Instr.wellFormed : Instr → Bool
  | .planWrite _ _ count es => planWriteFits count es
  | .unknownKind _ kind payload => !requestKinds.contains kind && decide (payload.length ≤ 60)
  | .afterDelayExpiry _ move gate => decide (move < 32) && decide (gate < 3)
  | .ident .. | .status .. | .setup .. | .reset .. | .axisSet .. | .axisGet .. | .ack .. | .jog .. | .home .. | .check ..
  | .profileWrite .. | .profileRead .. | .profileSwap .. | .scaleSet .. | .keepoutSet .. | .keepoutGet .. | .planRead ..
  | .planDefine .. | .run .. | .pause .. | .resume .. | .halt .. | .mark .. | .runGet .. | .budgetSet .. | .power ..
  | .byteReceived .. | .interByteGap | .transmitEnd | .cadenceExpiry | .supervisionLapse | .hallEdge .. | .handMoveRest ..
  | .blankingEnd .. | .obstructionCurrent .. | .stall .. | .controlledStopRampEnd .. | .standstill .. | .checkPulseEnd ..
  | .escalation .. | .heatTick | .jogWindowExpiry .. | .blockTimeout .. | .settleCloseEnd .. | .settleOpenEnd ..
  | .shortTrip .. | .cooldownEnd .. | .runTimeout .. | .runnerPaused .. | .haltingEnd .. | .supplySample ..
  | .shareReqChange .. | .shareYield | .inhibitChange .. | .idleDwellExpiry | .driveStageReady | .sleepEntry
  | .wakeEvent .. | .wakeTimeEnd | .powerOnReset | .initEnd | .resettingComplete | .initStart => true

end Sys2Proof
end

