-- ==== Sys2Proof/Decode.lean ====
section
/-! DEFINITION. The wire forms of requests: frames and their CRC (R174, R176), the decoding of a frame into a command under
the two link checks (R179, R192), and the frame a request command is. No row of spec/opcode_table.json gives bits, so
`decodeTableWord` answers none. -/

namespace Sys2Proof

/-- No row of spec/opcode_table.json gives bits: no word spells a command. -/
def decodeTableWord (_nbits _w : Nat) : Option Instr := none

/-! ### Bytes and numbers (R192) -/

/-- The byte of a number, modulo 256. -/
def byteOf (n : Nat) : Byte := BitVec.ofNat 8 n

/-- The high byte of a two-byte field. -/
def hiByte (h : Half) : Byte := h.extractLsb' 8 8

/-- The low byte of a two-byte field. -/
def loByte (h : Half) : Byte := h.extractLsb' 0 8

/-- A two-byte field from its bytes, high byte first (R192). -/
def half (hi lo : Byte) : Half := hi ++ lo

/-- The bytes of a two-byte field, high byte first (R192). -/
def halfBytes (h : Half) : List Byte := [hiByte h, loByte h]

/-! ### The CRC (R176) -/

/-- One bit of the CRC: polynomial 0x1021, most significant bit first, not reflected. -/
def crcBit (c : Half) : Half := if c.msb then (c <<< 1) ^^^ 0x1021#16 else c <<< 1

/-- `n` bits of the CRC. -/
def crcBits : Nat → Half → Half
  | 0, c => c
  | n + 1, c => crcBits n (crcBit c)

/-- One byte of the CRC. -/
def crcByte (c : Half) (b : Byte) : Half := crcBits 8 (c ^^^ half b 0)

/-- The CRC over a list of bytes, from the initial value 0xFFFF, with no final inversion (R176). -/
def crc (bytes : List Byte) : Half := bytes.foldl crcByte 0xFFFF#16

/-! ### Frames -/

/-- A frame's kind, tag and payload (section 10.1). -/
structure Frame where
  kind : Byte
  tag : Byte
  payload : List Byte
  deriving DecidableEq, Repr

/-- The bytes a frame's CRC is computed over: length, kind, tag, payload (R176). The length byte counts the kind, the tag
and the payload. -/
def Frame.body (f : Frame) : List Byte := byteOf (f.payload.length + 2) :: f.kind :: f.tag :: f.payload

/-- A frame as it stands on the line: sync, length, kind, tag, payload, CRC high byte first (R192, Frame). -/
def Frame.bytes (f : Frame) : List Byte := 0x5A :: (f.body ++ halfBytes (crc f.body))

/-! ### Decoding a request (R179) -/

/-- What the two link checks make of a taken frame: a request, an unknown kind, or a payload length that does not fit. -/
inductive Decoded where
  | request (i : Instr)
  | unknownKind
  | badLength
  deriving DecidableEq, Repr

/-- `n` gates from the front of a payload, with the rest (R192). -/
def takeGates : Nat → List Byte → Option (List GateArgs × List Byte)
  | 0, bs => some ([], bs)
  | n + 1, k :: a :: hi :: lo :: bs =>
    match takeGates n bs with
    | some (gs, rest) => some (⟨k, a, half hi lo⟩ :: gs, rest)
    | none => none
  | _ + 1, _ => none

/-- `n` entries that end exactly at the end of the payload: the length check of PLAN_WRITE (R179, R192). -/
def takeEntries : Nat → List Byte → Option (List EntryArgs)
  | 0, [] => some []
  | n + 1, ax :: k :: hi :: lo :: packed :: mark :: bs =>
    match takeGates (packed.extractLsb' 6 2).toNat bs with
    | some (gs, rest) =>
      match takeEntries n rest with
      | some es => some (⟨ax, k, half hi lo, packed, mark, gs⟩ :: es)
      | none => none
    | none => none
  | _, _ => none

/-- The configuration fields of an AXIS_SET payload after the axis number: 30 bytes (R192). -/
def decodeAxisArgs : List Byte → Option AxisArgs
  | [t1, t0, re, la, ez, a1, a0, b1, b0, c1, c0, d1, d0, dr, w1, w0, sg, rs, gp, sk, pp, l1, l0, h1, h0, pd, k1, k0, hm,
      hl] =>
    some ⟨half t1 t0, re, la, ez, half a1 a0, half b1 b0, half c1 c0, half d1 d0, dr, half w1 w0, sg, rs, gp, sk, pp,
      half l1 l0, half h1 h0, pd, half k1 k0, hm, hl⟩
  | _ => none

/-- The ten values of a PROFILE_WRITE payload: 14 bytes (section 2.2, R192). -/
def decodeProfileArgs : List Byte → Option ProfileArgs
  | [sd, cd, r1, r0, cr, z1, z0, co, tol, m1, m0, ob, b1, b0] =>
    some ⟨sd, cd, half r1 r0, cr, half z1 z0, co, tol, half m1 m0, ob, half b1 b0⟩
  | _ => none

/-- The contents of a KEEPOUT_SET payload after the presence byte: 12 bytes (R118, R192). -/
def decodeKeepoutArgs : List Byte → Option KeepoutArgs
  | [en, aa, a1, a0, a3, a2, bb, b1, b0, b3, b2, g] =>
    some ⟨en, aa, half a1 a0, half a3 a2, bb, half b1 b0, half b3 b2, g⟩
  | _ => none

/-- A payload of a kind with one allowed form: the request, or a bad length. -/
def orBadLength : Option Instr → Decoded
  | some i => .request i
  | none => .badLength

/-- The payload of each request kind, by the lengths of section 10.8; none where the length does not fit. -/
def decodePayload (kind tag : Byte) (p : List Byte) : Option Instr :=
  if kind = 0x01 then (match p with | [] => some (.ident tag) | _ => none)
  else if kind = 0x02 then (match p with | [] => some (.status tag) | _ => none)
  else if kind = 0x03 then
    (match p with
      | [w1, w0, c1, c0, bt, d1, d0] => some (.setup tag (half w1 w0) (half c1 c0) bt (half d1 d0))
      | _ => none)
  else if kind = 0x04 then (match p with | [] => some (.reset tag) | _ => none)
  else if kind = 0x10 then
    (match p with
      | a :: rest => (decodeAxisArgs rest).map (Instr.axisSet tag a)
      | _ => none)
  else if kind = 0x11 then
    (match p with
      | [a] => some (.axisGet tag a none)
      | [a, f] => some (.axisGet tag a (some f))
      | _ => none)
  else if kind = 0x12 then (match p with | [a] => some (.ack tag a) | _ => none)
  else if kind = 0x13 then
    (match p with | [a, d, m, n1, n0] => some (.jog tag a d m (half n1 n0)) | _ => none)
  else if kind = 0x14 then (match p with | [a] => some (.home tag a) | _ => none)
  else if kind = 0x15 then (match p with | [a] => some (.check tag a) | _ => none)
  else if kind = 0x18 then
    (match p with
      | b :: i :: rest => (decodeProfileArgs rest).map (Instr.profileWrite tag b i)
      | _ => none)
  else if kind = 0x19 then (match p with | [b, i] => some (.profileRead tag b i) | _ => none)
  else if kind = 0x1A then (match p with | [] => some (.profileSwap tag) | _ => none)
  else if kind = 0x1B then (match p with | [g, f] => some (.scaleSet tag g f) | _ => none)
  else if kind = 0x20 then
    (match p with
      | e :: pr :: rest => (decodeKeepoutArgs rest).map (Instr.keepoutSet tag e pr)
      | _ => none)
  else if kind = 0x21 then (match p with | [e] => some (.keepoutGet tag e) | _ => none)
  else if kind = 0x28 then
    (match p with
      | st :: n :: rest => (takeEntries n.toNat rest).map (Instr.planWrite tag st n)
      | _ => none)
  else if kind = 0x29 then
    (match p with
      | [a] => some (.planRead tag a none)
      | [a, n] => some (.planRead tag a (some n))
      | _ => none)
  else if kind = 0x2A then
    (match p with | [s, st, l, cm, t] => some (.planDefine tag s st l cm t) | _ => none)
  else if kind = 0x30 then (match p with | [s] => some (.run tag s) | _ => none)
  else if kind = 0x31 then (match p with | [r] => some (.pause tag r) | _ => none)
  else if kind = 0x32 then (match p with | [r] => some (.resume tag r) | _ => none)
  else if kind = 0x33 then (match p with | [r] => some (.halt tag r) | _ => none)
  else if kind = 0x34 then (match p with | [m, a] => some (.mark tag m a) | _ => none)
  else if kind = 0x35 then
    (match p with
      | [r] => some (.runGet tag r none)
      | [r, f] => some (.runGet tag r (some f))
      | _ => none)
  else if kind = 0x38 then (match p with | [b1, b0] => some (.budgetSet tag (half b1 b0)) | _ => none)
  else if kind = 0x3A then (match p with | [m, w, h, q] => some (.power tag m w h q) | _ => none)
  else none

/-- The two link checks of R179: the kind, then the length. -/
def Frame.decode (f : Frame) : Decoded :=
  if requestKinds.contains f.kind then orBadLength (decodePayload f.kind f.tag f.payload) else .unknownKind

/-! ### The frame of a request -/

/-- The bytes of a gate (R192). -/
def GateArgs.bytes (g : GateArgs) : List Byte := g.kind :: g.a :: halfBytes g.b

/-- The bytes of a move entry and its gates (R192). -/
def EntryArgs.bytes (e : EntryArgs) : List Byte :=
  e.axis :: e.kind :: (halfBytes e.value ++ e.packed :: e.setMark :: e.gates.flatMap GateArgs.bytes)

/-- The bytes of an AXIS_SET payload after the axis number (R192). -/
def AxisArgs.bytes (c : AxisArgs) : List Byte :=
  halfBytes c.travel ++ [c.refEnd, c.lash, c.endZone] ++ halfBytes c.stop0 ++ halfBytes c.stop1 ++ halfBytes c.stop2 ++
  halfBytes c.stop3 ++ [c.draw] ++ halfBytes c.stallWindow ++
  [c.scaleGroup, c.reach, c.partner, c.skewLimit, c.pinchPresent] ++ halfBytes c.pinchLo ++ halfBytes c.pinchHi ++
  [c.pinchDir] ++ halfBytes c.backoff ++ [c.handMovable, c.heatLimit]

/-- The bytes of a PROFILE_WRITE payload after bank and index (R192). -/
def ProfileArgs.bytes (p : ProfileArgs) : List Byte :=
  [p.startDuty, p.cruiseDuty] ++ halfBytes p.rampUp ++ [p.creepDuty] ++ halfBytes p.creepZone ++ [p.coast, p.tolerance] ++
  halfBytes p.minSpeed ++ [p.obstruction] ++ halfBytes p.blanking

/-- The bytes of a KEEPOUT_SET payload after the presence byte (R192). -/
def KeepoutArgs.bytes (k : KeepoutArgs) : List Byte :=
  [k.enabled, k.axisA] ++ halfBytes k.loA ++ halfBytes k.hiA ++ [k.axisB] ++ halfBytes k.loB ++ halfBytes k.hiB ++ [k.guard]

/-- The bytes of an optional last field: the field that chooses a request's longer form (R179). -/
def optByte : Option Byte → List Byte
  | none => []
  | some b => [b]

/-- The frame that a request command is (sections 10.8 and 10.9); none for an event. -/
def Instr.frame? : Instr → Option Frame
  | .ident tag => some ⟨0x01, tag, []⟩
  | .status tag => some ⟨0x02, tag, []⟩
  | .setup tag w c bt d => some ⟨0x03, tag, halfBytes w ++ halfBytes c ++ [bt] ++ halfBytes d⟩
  | .reset tag => some ⟨0x04, tag, []⟩
  | .axisSet tag a c => some ⟨0x10, tag, a :: c.bytes⟩
  | .axisGet tag a f => some ⟨0x11, tag, a :: optByte f⟩
  | .ack tag a => some ⟨0x12, tag, [a]⟩
  | .jog tag a d m n => some ⟨0x13, tag, [a, d, m] ++ halfBytes n⟩
  | .home tag a => some ⟨0x14, tag, [a]⟩
  | .check tag a => some ⟨0x15, tag, [a]⟩
  | .profileWrite tag b i v => some ⟨0x18, tag, b :: i :: v.bytes⟩
  | .profileRead tag b i => some ⟨0x19, tag, [b, i]⟩
  | .profileSwap tag => some ⟨0x1A, tag, []⟩
  | .scaleSet tag g f => some ⟨0x1B, tag, [g, f]⟩
  | .keepoutSet tag e p k => some ⟨0x20, tag, e :: p :: k.bytes⟩
  | .keepoutGet tag e => some ⟨0x21, tag, [e]⟩
  | .planWrite tag st n es => some ⟨0x28, tag, st :: n :: es.flatMap EntryArgs.bytes⟩
  | .planRead tag a n => some ⟨0x29, tag, a :: optByte n⟩
  | .planDefine tag s st l cm t => some ⟨0x2A, tag, [s, st, l, cm, t]⟩
  | .run tag s => some ⟨0x30, tag, [s]⟩
  | .pause tag r => some ⟨0x31, tag, [r]⟩
  | .resume tag r => some ⟨0x32, tag, [r]⟩
  | .halt tag r => some ⟨0x33, tag, [r]⟩
  | .mark tag m a => some ⟨0x34, tag, [m, a]⟩
  | .runGet tag r f => some ⟨0x35, tag, r :: optByte f⟩
  | .budgetSet tag b => some ⟨0x38, tag, halfBytes b⟩
  | .power tag m w h q => some ⟨0x3A, tag, [m, w, h, q]⟩
  | .unknownKind tag kind p => some ⟨kind, tag, p⟩
  | .byteReceived .. | .interByteGap | .transmitEnd | .cadenceExpiry | .supervisionLapse | .hallEdge .. | .handMoveRest ..
  | .blankingEnd .. | .obstructionCurrent .. | .stall .. | .controlledStopRampEnd .. | .standstill .. | .checkPulseEnd ..
  | .escalation .. | .heatTick | .jogWindowExpiry .. | .blockTimeout .. | .settleCloseEnd .. | .settleOpenEnd ..
  | .shortTrip .. | .cooldownEnd .. | .afterDelayExpiry .. | .runTimeout .. | .runnerPaused .. | .haltingEnd ..
  | .supplySample .. | .shareReqChange .. | .shareYield | .inhibitChange .. | .idleDwellExpiry | .driveStageReady
  | .sleepEntry | .wakeEvent .. | .wakeTimeEnd | .powerOnReset | .initEnd | .resettingComplete | .initStart => none

end Sys2Proof
end

