-- ==== Sys2Proof/Machine/State.lean ====
section
/-! DEFINITION. The state of the part, all of it plain data, and the state right after reset: the start of INIT (R194).
Each field's rule and reset value stand in INVENTORY.md under '## State'. -/

namespace Sys2Proof.Machine

/-! ### Why a step stops -/

/-- The machine faults. There are none: the manual has no event that stops the part. A fault of an axis (R61) is a record in
the state, and a request turned away (R180) is a result code in its reply. -/
inductive Fault where
  deriving DecidableEq, Repr

/-- Why the model refuses a command. No meaning raises it. -/
inductive Refusal where
  /-- A command without a meaning yet: raised by a refused arm of `exec` only. Safe: nothing is claimed about it. -/
  | notModelled (mnemonic : String)
  deriving DecidableEq, Repr

/-! ### Axes (01, 02, 03) -/

/-- The reference state of an axis (section 1.4). -/
inductive Ref where
  | unknown
  | suspect
  | valid
  deriving DecidableEq, Repr

/-- The motion states (section 2.1). -/
inductive Motion where
  | idle
  | queued
  | engaging
  | driving
  | stopping
  | backoff
  | blocked
  | fault
  | checking
  deriving DecidableEq, Repr

/-- The drive phases (R35). -/
inductive Phase where
  | ramp
  | cruise
  | creep
  | correct
  deriving DecidableEq, Repr

/-- The outcomes of a move or a direct operation, in the order of their codes (R192). -/
inductive MoveOutcome where
  | done
  | near
  | atEnd
  | endEarly
  | already
  | released
  | fault
  | inhibited
  | linkSilent
  deriving DecidableEq, Repr

/-- The kinds of axis fault (R61). -/
inductive FaultKind where
  | obstruction
  | noStop
  | skew
  | short
  | opened
  | keepoutBreach
  | keepoutDeadlock
  | blockTimeout
  | overheat
  | noChannel
  deriving DecidableEq, Repr

/-- The cause detail of a fault, by kind (R61). -/
inductive Cause where
  | current
  | stall
  | overrun
  | search
  | skew (counts : Nat)
  | channel (c : ChanNo)
  | partner (a : AxisNo)
  | remaining (counts : Option Nat)
  deriving DecidableEq, Repr

/-- The backoff outcome of a fault record (R61). -/
inductive BackoffOutcome where
  | none
  | done
  | cutShort
  deriving DecidableEq, Repr

/-- The fault record of an axis (R61). -/
structure FaultRec where
  kind : FaultKind
  cause : Cause
  pos : Option Nat
  backoff : BackoffOutcome
  entry : Option EntryNo
  further : Bool
  deriving DecidableEq, Repr

/-- The results of a winding test (R68). -/
inductive CheckResult where
  | ok
  | opened
  | short
  deriving DecidableEq, Repr

/-- The pinch zone of a configuration record (R1). -/
structure Pinch where
  lo : Nat
  hi : Nat
  dir : Dir
  distance : Nat
  deriving DecidableEq, Repr

/-- The axis configuration record (section 1.1). Currents are in 0.1 A, the reach set has channel n at bit n. -/
structure AxisConfig where
  travel : Nat
  refEnd : Dir
  lash : Nat
  endZone : Nat
  stops : Vector (Option Nat) 4
  draw : Nat
  stallWindow : Nat
  scaleGroup : Fin 3
  reach : BitVec 4
  partner : Option AxisNo
  skewLimit : Nat
  pinch : Option Pinch
  handMovable : Bool
  heatLimit : Nat
  deriving DecidableEq, Repr

/-- The two banks of the profile store (section 2.2). -/
inductive Bank where
  | a
  | b
  deriving DecidableEq, Repr

/-- A motion profile (section 2.2). -/
structure Profile where
  startDuty : Nat
  cruiseDuty : Nat
  rampUp : Nat
  creepDuty : Nat
  creepZone : Nat
  coast : Nat
  tolerance : Nat
  minSpeed : Nat
  obstruction : Nat
  blanking : Nat
  deriving DecidableEq, Repr

/-- The current move record (R24). `named` is the axis the move names; `reversed` says that a JOG reversal replaced the
target while the axis was ENGAGING, so that the question of R51 is asked at the end of the settle. -/
structure MoveRec where
  named : AxisNo
  target : Nat
  endFlag : Bool
  priority : Nat
  bank : Bank
  index : Fin 8
  profile : Profile
  forcedCreep : Bool
  corrections : Nat
  stamp : Nat
  reversed : Bool
  deriving DecidableEq, Repr

/-- What a standstill evaluation does where it would start a correction (R43, R44). -/
inductive Corr where
  | correct
  | held
  | blocked (entry : EntryNo) (partner : AxisNo)
  deriving DecidableEq, Repr

/-- The destination of a stop (R39): `idle keep` keeps the move record on a pause; `reversal` is that of R51, `checkDone`
the completion of a winding test (R67). -/
inductive Dest where
  | completion (corr : Corr)
  | idle (keep : Bool)
  | held
  | blocked (entry : EntryNo) (partner : AxisNo)
  | fault
  | reversal
  | checkDone
  deriving DecidableEq, Repr

/-- How a stop is made: by a duty ramp (R40), by braking (R41), or with the output merely off (R35, R45, R94). -/
inductive StopMode where
  | controlled
  | quick
  | coast
  deriving DecidableEq, Repr

/-- A stop under way, or the destination recorded for an axis in ENGAGING (R39, R42). `rampFrom` is the effective duty at
the request of a controlled stop, `rampTicks` the 10 ms intervals since; `revoked` says that a revocation has ended the
charge (R106); `arrived` that standstill is reached while a gang partner is still under way (R72). -/
structure Stop where
  dest : Dest
  mode : StopMode
  rampFrom : Nat
  ramping : Bool
  rampTicks : Nat
  revoked : Bool
  arrived : Bool
  deriving DecidableEq, Repr

/-- The steps of a backoff (R57). -/
inductive BackoffStep where
  | brake
  | reverse
  | finish
  deriving DecidableEq, Repr

/-- A backoff in progress (R57, R77). `dir` is the direction of the reversal; `faulted` marks the axis whose obstruction
began it; `rest` says that the axis is at standstill in BRAKE or FINISH. -/
structure Backoff where
  step : BackoffStep
  dir : Dir
  distance : Nat
  count : Int
  faulted : Bool
  rest : Bool
  deriving DecidableEq, Repr

/-- A winding test: its place in the grant queue (R66), the pulse being applied, and the highest current of each pulse in
mA (R67). -/
structure CheckRec where
  stamp : Nat
  pulse : Option Dir
  peakHigh : Nat
  peakLow : Nat
  deriving DecidableEq, Repr

/-- An open hand-move episode (R18). `rested` says that 500 ms without an edge have passed in SLEEP (R19). -/
structure Episode where
  net : Int
  rested : Bool
  deriving DecidableEq, Repr

/-- The direct operations of the link, in the order R6 first lists them. -/
inductive OpKind where
  | jog
  | home
  | check
  deriving DecidableEq, Repr

/-- A link operation (R15, R49, R66). `hold`, `dir` and `window` are the mode, direction and open jog window of a JOG (R50);
`result` is the decided end, with the kind of a fault (R52, R64). -/
structure LinkOp where
  kind : OpKind
  named : AxisNo
  hold : Bool
  dir : Dir
  window : Option Nat
  result : Option (MoveOutcome × Option FaultKind)
  deriving DecidableEq, Repr

/-- The owner of an axis (R155). -/
inductive Owner where
  | none
  | runner (r : RunnerNo)
  | link (op : LinkOp)
  deriving DecidableEq, Repr

/-- The blocked-by link of a BLOCKED axis, whether it is a copy of a gang partner's, and its block timer in ms (R125, R130). -/
structure BlockLink where
  entry : EntryNo
  partner : AxisNo
  copy : Bool
  timer : Nat
  deriving DecidableEq, Repr

/-- An axis unit: its configuration record and its runtime record (sections 1.1 and 1.2). -/
structure Axis where
  config : Option AxisConfig
  motion : Motion
  phase : Option Phase
  held : Bool
  ref : Ref
  pos : Option Nat
  overrun : Nat
  lashDir : Dir
  lashRem : Nat
  episode : Option Episode
  owner : Owner
  move : Option MoveRec
  driveDir : Dir
  rampCounts : Nat
  blanking : Bool
  stop : Option Stop
  backoff : Option Backoff
  search : Int
  check : Option CheckRec
  noted : Option MoveOutcome
  noStop : Bool
  stalled : Bool
  skewRaised : Bool
  heat : Nat
  lockout : Bool
  dutyLo : Nat
  dutyHi : Nat
  escalated : Bool
  fault : Option FaultRec
  link : Option BlockLink
  lastCheck : Option CheckResult
  grantStamp : Nat
  deriving DecidableEq, Repr

/-! ### Profiles, channels, supply (02, 05, 06) -/

/-- The profile store and the scale groups (sections 2.2 and 2.3). -/
structure Store where
  bankA : Vector Profile 8
  bankB : Vector Profile 8
  active : Bank
  scales : Vector Nat 3
  deriving DecidableEq, Repr

/-- The states of a drive channel (R84). -/
inductive ChanState where
  | free
  | settling
  | granted
  | tripped
  | retired
  deriving DecidableEq, Repr

/-- A drive channel (R84). `closing` is the settle direction, present while SETTLING; `opening` says that the relay of a
TRIPPED channel is opening (R87). -/
structure Channel where
  state : ChanState
  closing : Option Bool
  axis : Option AxisNo
  trips : Nat
  cooldown : Option Nat
  opening : Bool
  deriving DecidableEq, Repr

/-- A request of the grant queue (R88): one axis, or the lower- and the higher-numbered axis of a gang. -/
structure GrantRequest where
  axis : AxisNo
  partner : Option AxisNo
  priority : Nat
  stamp : Nat
  draw : Nat
  held : Bool
  deriving DecidableEq, Repr

/-- The supply bands (R102). -/
inductive Band where
  | normal
  | reduced
  | hold
  deriving DecidableEq, Repr

/-- The thermal states (R103). -/
inductive Thermal where
  | cool
  | warm
  | hot
  deriving DecidableEq, Repr

/-- The handshake states (R113). -/
inductive Handshake where
  | quiet
  | draining
  | yielded
  deriving DecidableEq, Repr

/-- The supply monitor (R100). `fallDeep` and `heatDeep` say that every sample of the present run of falling (heating)
samples lay beyond the second threshold too. SHARE_REQ is the level as taken. -/
structure Supply where
  band : Band
  falling : Nat
  rising : Nat
  fallDeep : Bool
  thermal : Thermal
  heating : Nat
  cooling : Nat
  heatDeep : Bool
  base : Nat
  avail : Nat
  grantCounter : Nat
  handshake : Handshake
  shareReq : Bool
  shareAck : Bool
  deriving DecidableEq, Repr

/-! ### Keep-out table and plans (07, 08, 09) -/

/-- A keep-out entry with contents (R118). -/
structure KeepoutEntry where
  enabled : Bool
  axisA : AxisNo
  loA : Nat
  hiA : Nat
  axisB : AxisNo
  loB : Nat
  hiB : Nat
  guard : Nat
  deriving DecidableEq, Repr

/-- The target of a move entry (R135). -/
inductive Target where
  | abs (p : Nat)
  | stop (k : Fin 4)
  | endLow
  | endHigh
  | rel (d : Int)
  deriving DecidableEq, Repr

/-- A gate of a move entry (R135). A delay is in 10 ms. -/
inductive Gate where
  | after (move : Nat) (delay : Nat)
  | whenGe (axis : AxisNo) (pos : Nat)
  | whenLe (axis : AxisNo) (pos : Nat)
  | mark (m : MarkNo)
  deriving DecidableEq, Repr

/-- A move entry of the plan store (R135). -/
structure PlanEntry where
  axis : AxisNo
  target : Target
  profile : Fin 8
  priority : Nat
  gates : List Gate
  setMark : Option MarkNo
  deriving DecidableEq, Repr

/-- A plan slot (R140); length 0 is an undefined slot. -/
structure Slot where
  start : Nat
  length : Nat
  clearMarks : BitVec 8
  timeout : Nat
  deriving DecidableEq, Repr

/-- The states of a runner that is not FREE (R152). -/
inductive RunState where
  | running
  | pausing
  | paused
  | halting
  deriving DecidableEq, Repr

/-- The states of a gate in a run (R142): the remaining time of TIMING is in 10 ms. -/
inductive GateState where
  | closed
  | timing (left : Nat)
  | opened
  deriving DecidableEq, Repr

/-- The states of a move in a run (R153). -/
inductive MoveState where
  | pending
  | ready
  | active
  | done (o : MoveOutcome)
  deriving DecidableEq, Repr

/-- A move of a run (R152). -/
structure RunMove where
  state : MoveState
  gates : List GateState
  deriving DecidableEq, Repr

/-- The pause reasons (R152). -/
inductive Reason where
  | host
  | fault
  | inhibit
  | link
  | planError
  deriving DecidableEq, Repr

/-- The set of pause reasons of a runner (R152). -/
structure Reasons where
  host : Bool
  fault : Bool
  inhibit : Bool
  link : Bool
  planError : Bool
  deriving DecidableEq, Repr

/-- The cause of a plan error (R152). -/
inductive PlanCause where
  | badTarget
  | unreferenced
  deriving DecidableEq, Repr

/-- The end kinds of a run, in the order of their codes (R192). -/
inductive EndKind where
  | complete
  | aborted
  | timeout
  | reset
  deriving DecidableEq, Repr

/-- A runner record of a runner that is not FREE (R152). The elapsed time is in 10 ms, the run timeout in s. -/
structure Run where
  state : RunState
  slot : SlotNo
  claim : List AxisNo
  reasons : Reasons
  firstFault : Option (AxisNo × FaultKind)
  planError : Option (Nat × PlanCause)
  endKind : Option EndKind
  elapsed : Nat
  timeout : Nat
  moves : List RunMove
  deriving DecidableEq, Repr

/-! ### Reports and the Seat Link (10) -/

/-- The causes of a WAKE report, in the order of their codes (R192). -/
inductive WakeCause where
  | powerOn
  | softReset
  | link
  | line
  | hand
  deriving DecidableEq, Repr

/-- The sleep options (R197). -/
structure SleepOpts where
  watch : Bool
  wakeOnHand : Bool
  quick : Bool
  deriving DecidableEq, Repr

/-- The causes of a REFERENCE report (R14). -/
inductive RefCause where
  | home
  | resync
  | badEdge
  | noStop
  | overrun
  | config
  | wake
  | skew
  deriving DecidableEq, Repr

/-- The events of a BLOCKED report (R133). -/
inductive BlockEvent where
  | block
  | change
  | clear
  deriving DecidableEq, Repr

/-- The causes of a SUPPLY report (R116). -/
inductive SupplyCause where
  | band
  | thermal
  | share
  | wake
  deriving DecidableEq, Repr

/-- The owner as reports and AXIS_GET carry it: a runner with its move index on the axis, or a link operation. -/
inductive OwnerTag where
  | none
  | runner (r : RunnerNo) (move : Option Nat)
  | link (op : OpKind)
  deriving DecidableEq, Repr

/-- One axis of a POSITIONS report: its number, its phase code, escalated, position and remaining distance (R184, R192). -/
structure PosItem where
  axis : AxisNo
  phase : Nat
  escalated : Bool
  pos : Option Nat
  remaining : Option Nat
  deriving DecidableEq, Repr

/-- An axis with its final position, as MOVE_END and OP_END carry it, with the corrections it used. -/
structure FinalPos where
  axis : AxisNo
  pos : Option Nat
  corrections : Nat
  deriving DecidableEq, Repr

/-- The reports of the catalogue, with the fields their owning rules list. -/
inductive Report where
  /-- WAKE (R194). -/
  | wake (cause : WakeCause) (sleepTime : Nat) (opts : Option SleepOpts)
  /-- POSITIONS (R184). -/
  | positions (items : List PosItem)
  /-- MOVE_END (R160). -/
  | moveEnd (r : RunnerNo) (slot : SlotNo) (move : Nat) (outcome : MoveOutcome) (axes : List FinalPos) (elapsed : Nat)
  /-- RUN_END (R161). -/
  | runEnd (r : RunnerNo) (slot : SlotNo) (kind : EndKind) (elapsed : Nat) (done length : Nat)
      (firstFault : Option (AxisNo × FaultKind))
  /-- RUN_PAUSED (R165). -/
  | runPaused (r : RunnerNo) (slot : SlotNo) (reasons : Reasons) (firstFault : Option (AxisNo × FaultKind))
      (planError : Option (Nat × PlanCause)) (done : Nat) (elapsed : Nat)
  /-- AXIS_FAULT (R64). -/
  | axisFault (a : AxisNo) (further : Bool) (kind : FaultKind) (cause : Cause) (pos : Option Nat) (backoffDue : Bool)
      (entry : Option EntryNo) (owner : OwnerTag)
  /-- BLOCKED (R133). -/
  | blocked (event : BlockEvent) (a : AxisNo) (entry : EntryNo) (partner : AxisNo) (copy : Bool)
      (pos partnerPos : Option Nat) (owner : OwnerTag)
  /-- OP_END (R52, R68). -/
  | opEnd (op : OpKind) (outcome : MoveOutcome) (kind : Option FaultKind) (axes : List FinalPos)
      (results : List (Option CheckResult))
  /-- HAND_MOVED (R19). -/
  | handMoved (a : AxisNo) (net : Int) (pos : Option Nat) (ref : Ref)
  /-- SUPPLY (R116). -/
  | supply (cause : SupplyCause) (band : Band) (thermal : Thermal) (handshake : Handshake) (shareReq shareAck : Bool)
      (avail inUse : Nat)
  /-- REFERENCE (R14). -/
  | reference (a : AxisNo) (old new : Ref) (cause : RefCause) (pos : Option Nat)
  deriving DecidableEq, Repr

/-- The result codes, in the order of their codes (section 10.8). -/
inductive Result where
  | ok
  | unknownKind
  | badLength
  | badArg
  | busy
  | badState
  | claimed
  | noRunner
  | isProtected
  | faultPending
  | lockedOut
  | inhibited
  | badPlan
  | notConfigured
  | noChannel
  | unreferenced
  deriving DecidableEq, Repr

/-- A reply (R180): its kind, tag, result and the data that follow the result code. -/
structure Reply where
  kind : Byte
  tag : Byte
  result : Result
  data : List Byte
  deriving DecidableEq, Repr

/-- The receiver: its receive state with the bytes stored so far (R174). -/
inductive Rx where
  | hunt
  | length
  | body (len : Nat) (stored : List Byte)
  | crc (len : Nat) (stored : List Byte) (hi : Option Byte)
  deriving DecidableEq, Repr

/-- A frame on the wire (R181), and whether it is the reply to a taken POWER, whose end is the entry to SLEEP (R197). -/
structure TxFrame where
  bytes : List Byte
  sleepReply : Bool
  deriving DecidableEq, Repr

/-- The supervision timer (R185): while WATCHING the elapsed ms of the window and the window value in force, which a SETUP
replaces from the next start or restart of the window only. -/
inductive Supervision where
  | off
  | watching (ms window : Nat)
  | lapsed
  deriving DecidableEq, Repr

/-- The setup values (R187): ms, ms, s, 0.1 s. -/
structure Setup where
  window : Nat
  cadence : Nat
  blockTimeout : Nat
  dwell : Nat
  deriving DecidableEq, Repr

/-- The Seat Link controller (chapter 10). -/
structure Link where
  rx : Rx
  intake : List Frame
  slot : Option Reply
  tx : Option TxFrame
  reports : List Report
  overflow : Bool
  cadence : Option Nat
  supervision : Supervision
  setup : Setup
  deriving DecidableEq, Repr

/-! ### Power (11) -/

/-- The power states (R193). -/
inductive PowerState where
  | init
  | active
  | doze
  | sleep
  | resetting
  deriving DecidableEq, Repr

/-- The drive stage (R193). -/
inductive Stage where
  | off
  | waking
  | ready
  deriving DecidableEq, Repr

/-- The power controller (R193). `inReset` says that the supply is below 6.0 V and the part is held in reset (R194); the
idle dwell timer is in ms; `sleepTicks` are the 10 ms of the present second of sleep. -/
structure Power where
  state : PowerState
  inReset : Bool
  stage : Stage
  dwell : Option Nat
  sleepOpts : Option SleepOpts
  sleepTime : Nat
  sleepTicks : Nat
  wakeCause : Option WakeCause
  deriving DecidableEq, Repr

/-! ### The whole state -/

/-- The state of the part: its eight blocks, its lines as taken, and the model's own counter of free values and queue of
waiting commands. -/
structure State where
  axes : Vector Axis 12
  store : Store
  chans : Vector Channel 4
  queue : List GrantRequest
  stamps : Nat
  supply : Supply
  entries : Vector (Option KeepoutEntry) 24
  places : Vector (Option PlanEntry) 64
  slots : Vector Slot 8
  marks : BitVec 8
  runners : Vector (Option Run) 3
  link : Link
  power : Power
  inhibit : Bool
  wakeLine : Bool
  freeIndex : Nat
  pending : List Instr
  deriving DecidableEq, Repr

/-! ### Reset values -/

/-- An axis after a power-on reset (R21, R22; the fields R21 does not name: log 3). -/
def Axis.reset : Axis where
  config := none
  motion := .idle
  phase := none
  held := false
  ref := .unknown
  pos := none
  overrun := 0
  lashDir := .low
  lashRem := 0
  episode := none
  owner := .none
  move := none
  driveDir := .low
  rampCounts := 0
  blanking := false
  stop := none
  backoff := none
  search := 0
  check := none
  noted := none
  noStop := false
  stalled := false
  skewRaised := false
  heat := 0
  lockout := false
  dutyLo := 0
  dutyHi := 0
  escalated := false
  fault := none
  link := none
  lastCheck := none
  grantStamp := 0

/-- The default profile (section 2.2). -/
def Profile.default : Profile := ⟨30, 80, 60, 35, 80, 3, 4, 40, 80, 150⟩

/-- The profile store after a power-on reset and after a soft reset (R29). -/
def Store.reset : Store where
  bankA := .replicate 8 Profile.default
  bankB := .replicate 8 Profile.default
  active := .a
  scales := .replicate 3 100

/-- A channel after a power-on reset (R99). -/
def Channel.reset : Channel := ⟨.free, none, none, 0, none, false⟩

/-- The supply monitor after a power-on reset (R117). -/
def Supply.reset : Supply where
  band := .normal
  falling := 0
  rising := 0
  fallDeep := false
  thermal := .cool
  heating := 0
  cooling := 0
  heatDeep := false
  base := 200
  avail := 200
  grantCounter := 0
  handshake := .quiet
  shareReq := false
  shareAck := false

/-- An undefined slot (R140). -/
def Slot.undefined : Slot := ⟨0, 0, 0, 0⟩

/-- The default setup values (R187). -/
def Setup.default : Setup := ⟨500, 200, 8, 20⟩

/-- The Seat Link controller after a power-on reset (R191). -/
def Link.reset : Link where
  rx := .hunt
  intake := []
  slot := none
  tx := none
  reports := []
  overflow := false
  cadence := none
  supervision := .off
  setup := Setup.default

/-- The power controller at the start of INIT (R194, R203). -/
def Power.reset : Power where
  state := .init
  inReset := false
  stage := .off
  dwell := none
  sleepOpts := none
  sleepTime := 0
  sleepTicks := 0
  wakeCause := none

/-- The machine right after reset: the start of INIT, every block at its power-on values (R194). -/
def State.reset : State where
  axes := .replicate 12 Axis.reset
  store := Store.reset
  chans := .replicate 4 Channel.reset
  queue := []
  stamps := 0
  supply := Supply.reset
  entries := .replicate 24 none
  places := .replicate 64 none
  slots := .replicate 8 Slot.undefined
  marks := 0
  runners := .replicate 3 none
  link := Link.reset
  power := Power.reset
  inhibit := false
  wakeLine := false
  freeIndex := 0
  pending := []

end Sys2Proof.Machine
end

