-- ==== Sys2Proof/Machine/Operands.lean ====
section
/-! DEFINITION. The operand forms: the values of request payloads, with the range checks that their tables give, and the
byte forms of the values the part sends (R192; where R192 leaves a layout to its conventions: log 9). -/

namespace Sys2Proof.Machine

/-! ### The numbered things -/

/-- The axes in increasing number. -/
def allAxes : List AxisNo := [0, 1, 2, 3, 4, 5, 6, 7, 8, 9, 10, 11]

/-- The channels in increasing number. -/
def allChans : List ChanNo := [0, 1, 2, 3]

/-- The runners in increasing number. -/
def allRunners : List RunnerNo := [0, 1, 2]

/-- The keep-out entries in increasing number. -/
def allEntries : List EntryNo :=
  [0, 1, 2, 3, 4, 5, 6, 7, 8, 9, 10, 11, 12, 13, 14, 15, 16, 17, 18, 19, 20, 21, 22, 23]

/-- The scale groups in increasing number. -/
def allGroups : List (Fin 3) := [0, 1, 2]

/-- The marks in increasing number. -/
def allMarks : List MarkNo := [0, 1, 2, 3, 4, 5, 6, 7]

/-- A byte as the number of one of `n` things; none where it names nothing. -/
def finOf (n : Nat) (b : Byte) : Option (Fin n) := if h : b.toNat < n then some ⟨b.toNat, h⟩ else none

/-- The opposite direction. -/
def flip : Dir → Dir
  | .low => .high
  | .high => .low

/-- A direction or an end of travel: 0 LOW, 1 HIGH (R192). -/
def dirOf (b : Byte) : Option Dir := if b = 0 then some .low else if b = 1 then some .high else none

/-- Yes or no: 1 or 0 (R192). -/
def flagOf (b : Byte) : Option Bool := if b = 0 then some false else if b = 1 then some true else none

/-- A bank of the profile store: 0 A, 1 B. -/
def bankOf (b : Byte) : Option Bank := if b = 0 then some .a else if b = 1 then some .b else none

/-- The value when it lies in lo..hi. -/
def inRange (lo hi : Nat) (n : Nat) : Option Nat := if lo ≤ n ∧ n ≤ hi then some n else none

/-- The distance of two positions. -/
def apart (p q : Nat) : Nat := (p - q) + (q - p)

/-! ### AXIS_SET (R1 check 3, R2) -/

/-- A stop: absent as 0xFFFF, or a position in 0..travel. -/
def stopOf (travel : Nat) (h : Half) : Option (Option Nat) :=
  if h = 0xFFFF then some none else (inRange 0 travel h.toNat).map some

/-- The gang partner: absent as 0xFF, or an axis other than the one being set. -/
def partnerOf (a : AxisNo) (b : Byte) : Option (Option AxisNo) :=
  if b = 0xFF then some none
  else match finOf 12 b with
    | some p => if p = a then none else some (some p)
    | none => none

/-- The reach set: a non-empty subset of channels 0–3. -/
def reachOf (b : Byte) : Option (BitVec 4) := if b = 0 ∨ 15 < b.toNat then none else some (b.extractLsb' 0 4)

/-- The pinch zone; its fields are not examined where it is absent (R192). -/
def pinchOf (travel : Nat) (c : AxisArgs) : Option (Option Pinch) :=
  match flagOf c.pinchPresent with
  | none => none
  | some false => some none
  | some true =>
    match inRange 0 travel c.pinchLo.toNat, inRange 0 travel c.pinchHi.toNat, dirOf c.pinchDir,
      inRange 0 400 c.backoff.toNat with
    | some lo, some hi, some d, some n => if lo ≤ hi then some (some ⟨lo, hi, d, n⟩) else none
    | _, _, _, _ => none

/-- The configuration record of an AXIS_SET, when every field lies in its range and the field checks of R2 pass. -/
def configOf (a : AxisNo) (c : AxisArgs) : Option AxisConfig := do
  let travel ← inRange 200 16000 c.travel.toNat
  let refEnd ← dirOf c.refEnd
  let lash ← inRange 0 63 c.lash.toNat
  let endZone ← inRange 8 200 c.endZone.toNat
  let s0 ← stopOf travel c.stop0
  let s1 ← stopOf travel c.stop1
  let s2 ← stopOf travel c.stop2
  let s3 ← stopOf travel c.stop3
  let draw ← inRange 5 150 c.draw.toNat
  let stallWindow ← inRange 20 500 c.stallWindow.toNat
  let scaleGroup ← finOf 3 c.scaleGroup
  let reach ← reachOf c.reach
  let partner ← partnerOf a c.partner
  let skewLimit ← inRange 2 200 c.skewLimit.toNat
  let pinch ← pinchOf travel c
  let handMovable ← flagOf c.handMovable
  let heatLimit ← inRange 5 120 c.heatLimit.toNat
  some ⟨travel, refEnd, lash, endZone, #v[s0, s1, s2, s3], draw, stallWindow, scaleGroup, reach, partner, skewLimit, pinch,
    handMovable, heatLimit⟩

/-! ### PROFILE_WRITE (R25 check 2) -/

/-- The ten values of a profile, when each lies in its range (section 2.2). -/
def profileOf (v : ProfileArgs) : Option Profile := do
  let startDuty ← inRange 10 100 v.startDuty.toNat
  let cruiseDuty ← inRange 20 100 v.cruiseDuty.toNat
  let rampUp ← inRange 0 500 v.rampUp.toNat
  let creepDuty ← inRange 10 60 v.creepDuty.toNat
  let creepZone ← inRange 0 500 v.creepZone.toNat
  let coast ← inRange 0 30 v.coast.toNat
  let tolerance ← inRange 1 20 v.tolerance.toNat
  let minSpeed ← inRange 5 500 v.minSpeed.toNat
  let obstruction ← inRange 5 200 v.obstruction.toNat
  let blanking ← inRange 50 500 v.blanking.toNat
  some ⟨startDuty, cruiseDuty, rampUp, creepDuty, creepZone, coast, tolerance, minSpeed, obstruction, blanking⟩

/-! ### KEEPOUT_SET (R119 check 3) -/

/-- The contents of a KEEPOUT_SET, when check 3 of R119 passes. -/
def keepoutOf (k : KeepoutArgs) : Option KeepoutEntry := do
  let enabled ← flagOf k.enabled
  let a ← finOf 12 k.axisA
  let b ← finOf 12 k.axisB
  let guard ← inRange 5 200 k.guard.toNat
  if a ≠ b ∧ k.loA.toNat ≤ k.hiA.toNat ∧ k.loB.toNat ≤ k.hiB.toNat then
    some ⟨enabled, a, k.loA.toNat, k.hiA.toNat, b, k.loB.toNat, k.hiB.toNat, guard⟩
  else none

/-! ### Move entries (R136) -/

/-- The target of an entry (R135, R136). -/
def targetOf (kind : Byte) (value : Half) : Option Target :=
  if kind = 0 then (inRange 0 16000 value.toNat).map .abs
  else if kind = 1 then (if h : value.toNat < 4 then some (.stop ⟨value.toNat, h⟩) else none)
  else if kind = 2 then (if value = 0 then some .endLow else none)
  else if kind = 3 then (if value = 0 then some .endHigh else none)
  else if kind = 4 then (if -16000 ≤ value.toInt ∧ value.toInt ≤ 16000 then some (.rel value.toInt) else none)
  else none

/-- A gate of an entry (R136). -/
def gateOf (g : GateArgs) : Option Gate :=
  if g.kind = 1 then (if g.a.toNat < 32 ∧ g.b.toNat ≤ 1000 then some (.after g.a.toNat g.b.toNat) else none)
  else if g.kind = 2 then
    (match finOf 12 g.a with | some a => (inRange 0 16000 g.b.toNat).map (Gate.whenGe a) | none => none)
  else if g.kind = 3 then
    (match finOf 12 g.a with | some a => (inRange 0 16000 g.b.toNat).map (Gate.whenLe a) | none => none)
  else if g.kind = 4 then (if g.b = 0 then (finOf 8 g.a).map Gate.mark else none)
  else none

/-- The gates of an entry, when each is well formed. -/
def gatesOf : List GateArgs → Option (List Gate)
  | [] => some []
  | g :: gs =>
    match gateOf g, gatesOf gs with
    | some x, some xs => some (x :: xs)
    | _, _ => none

/-- The set-mark: absent as 0xFF. -/
def setMarkOf (b : Byte) : Option (Option MarkNo) := if b = 0xFF then some none else (finOf 8 b).map some

/-- An entry of a PLAN_WRITE, when it is well formed (R136): the empty form, or a move entry. An axis byte of 0xFF
is the empty form whatever its other bytes carry, which are not examined (R192; log 68, DESIGN CHOICE). -/
def entryOf (e : EntryArgs) : Option (Option PlanEntry) :=
  if e.axis = 0xFF then some none
  else do
    let a ← finOf 12 e.axis
    let target ← targetOf e.kind e.value
    let profile ← finOf 8 (e.packed &&& 0x0F#8)
    let gates ← gatesOf e.gates
    let setMark ← setMarkOf e.setMark
    some (some ⟨a, target, profile, (e.packed.extractLsb' 4 2).toNat, gates, setMark⟩)

/-- The entries of a PLAN_WRITE, when each is well formed. -/
def entriesOf : List EntryArgs → Option (List (Option PlanEntry))
  | [] => some []
  | e :: es =>
    match entryOf e, entriesOf es with
    | some x, some xs => some (x :: xs)
    | _, _ => none

/-! ### Byte forms of numbers and optional fields (R192) -/

/-- A number in one byte. -/
def b1 (n : Nat) : List Byte := [byteOf n]

/-- A number in two bytes, high byte first. -/
def b2 (n : Nat) : List Byte := [byteOf (n / 256), byteOf n]

/-- A number in four bytes, high byte first. -/
def b4 (n : Nat) : List Byte := b2 (n / 65536) ++ b2 n

/-- A signed number in two bytes, two's complement. For the net counts of an episode, to which the spec gives no range, the
two bytes are the model's choice: they are carried modulo 65 536 (log 29). -/
def bInt (i : Int) : List Byte := halfBytes (BitVec.ofInt 16 i)

/-- Yes or no. -/
def bFlag (b : Bool) : List Byte := if b then [1] else [0]

/-- An optional one-byte field: absent as 0xFF. -/
def bOpt1 : Option Nat → List Byte
  | none => [0xFF]
  | some n => b1 n

/-- An optional two-byte field: absent as 0xFFFF. -/
def bOpt2 : Option Nat → List Byte
  | none => [0xFF, 0xFF]
  | some n => b2 n

/-- The number whose set bits are the members of a set of axes (R192, Sets). -/
def axisBits (as : List AxisNo) : Nat := as.foldl (fun n a => n ||| (1 <<< a.val)) 0

/-! ### Codes of enumerations (R192) -/

/-- LOW 0, HIGH 1. -/
def dirCode : Dir → Nat
  | .low => 0
  | .high => 1

/-- UNKNOWN, SUSPECT, VALID (section 1.2). -/
def Ref.code : Ref → Nat
  | .unknown => 0
  | .suspect => 1
  | .valid => 2

/-- The motion states in the order of section 1.2. -/
def Motion.code : Motion → Nat
  | .idle => 0
  | .queued => 1
  | .engaging => 2
  | .driving => 3
  | .stopping => 4
  | .backoff => 5
  | .blocked => 6
  | .fault => 7
  | .checking => 8

/-- The drive phases in the order of section 1.2. -/
def Phase.code : Phase → Nat
  | .ramp => 0
  | .cruise => 1
  | .creep => 2
  | .correct => 3

/-- The outcome codes (R192). -/
def MoveOutcome.code : MoveOutcome → Nat
  | .done => 0
  | .near => 1
  | .atEnd => 2
  | .endEarly => 3
  | .already => 4
  | .released => 5
  | .fault => 6
  | .inhibited => 7
  | .linkSilent => 8

/-- The fault kinds in the order of R61. -/
def FaultKind.code : FaultKind → Nat
  | .obstruction => 0
  | .noStop => 1
  | .skew => 2
  | .short => 3
  | .opened => 4
  | .keepoutBreach => 5
  | .keepoutDeadlock => 6
  | .blockTimeout => 7
  | .overheat => 8
  | .noChannel => 9

/-- The cause detail in two bytes, by kind: CURRENT 0, STALL 1; OVERRUN 0, SEARCH 1; else the number it is (R61). -/
def Cause.bytes : Cause → List Byte
  | .current => b2 0
  | .stall => b2 1
  | .overrun => b2 0
  | .search => b2 1
  | .skew n => b2 n
  | .channel c => b2 c.val
  | .partner a => b2 a.val
  | .remaining r => bOpt2 r

/-- NONE, DONE, CUT_SHORT (R61). -/
def BackoffOutcome.code : BackoffOutcome → Nat
  | .none => 0
  | .done => 1
  | .cutShort => 2

/-- OK, OPEN, SHORT (section 1.2). -/
def CheckResult.code : CheckResult → Nat
  | .ok => 0
  | .opened => 1
  | .short => 2

/-- A 0, B 1. -/
def Bank.code : Bank → Nat
  | .a => 0
  | .b => 1

/-- JOG, HOME, CHECK (R6). -/
def OpKind.code : OpKind → Nat
  | .jog => 0
  | .home => 1
  | .check => 2

/-- The channel states in the order of R84. -/
def ChanState.code : ChanState → Nat
  | .free => 0
  | .settling => 1
  | .granted => 2
  | .tripped => 3
  | .retired => 4

/-- NORMAL, REDUCED, HOLD (R100). -/
def Band.code : Band → Nat
  | .normal => 0
  | .reduced => 1
  | .hold => 2

/-- COOL, WARM, HOT (R100). -/
def Thermal.code : Thermal → Nat
  | .cool => 0
  | .warm => 1
  | .hot => 2

/-- QUIET, DRAINING, YIELDED (R100). -/
def Handshake.code : Handshake → Nat
  | .quiet => 0
  | .draining => 1
  | .yielded => 2

/-- INIT, ACTIVE, DOZE, SLEEP, RESETTING (R193). -/
def PowerState.code : PowerState → Nat
  | .init => 0
  | .active => 1
  | .doze => 2
  | .sleep => 3
  | .resetting => 4

/-- The runner states of R152: FREE 0, then these. -/
def RunState.code : RunState → Nat
  | .running => 1
  | .pausing => 2
  | .paused => 3
  | .halting => 4

/-- PENDING, READY, ACTIVE, DONE (R152). -/
def MoveState.code : MoveState → Nat
  | .pending => 0
  | .ready => 1
  | .active => 2
  | .done _ => 3

/-- CLOSED, TIMING, OPEN (R142), with the remaining time of a TIMING gate, absent for any other (R190): in ms, the unit in which
R142 states its range (R192, log 43). The state counts it in 10 ms. -/
def GateState.bytes : GateState → List Byte
  | .closed => [0] ++ bOpt2 none
  | .timing n => [1] ++ b2 (10 * n)
  | .opened => [2] ++ bOpt2 none

/-- The pause reasons as a set (R152, R192). -/
def Reasons.bits (r : Reasons) : Nat :=
  (if r.host then 1 else 0) + (if r.fault then 2 else 0) + (if r.inhibit then 4 else 0) + (if r.link then 8 else 0) +
    (if r.planError then 16 else 0)

/-- BAD_TARGET 0, UNREFERENCED 1 (R152). -/
def PlanCause.code : PlanCause → Nat
  | .badTarget => 0
  | .unreferenced => 1

/-- The end kind codes (R192). -/
def EndKind.code : EndKind → Nat
  | .complete => 0
  | .aborted => 1
  | .timeout => 2
  | .reset => 3

/-- The wake cause codes (R192). -/
def WakeCause.code : WakeCause → Nat
  | .powerOn => 0
  | .softReset => 1
  | .link => 2
  | .line => 3
  | .hand => 4

/-- The causes of REFERENCE in the order of R14. -/
def RefCause.code : RefCause → Nat
  | .home => 0
  | .resync => 1
  | .badEdge => 2
  | .noStop => 3
  | .overrun => 4
  | .config => 5
  | .wake => 6
  | .skew => 7

/-- BLOCK, CHANGE, CLEAR (R133). -/
def BlockEvent.code : BlockEvent → Nat
  | .block => 0
  | .change => 1
  | .clear => 2

/-- BAND, THERMAL, SHARE, WAKE (R116). -/
def SupplyCause.code : SupplyCause → Nat
  | .band => 0
  | .thermal => 1
  | .share => 2
  | .wake => 3

/-- The result codes of section 10.8. -/
def Result.code : Result → Nat
  | .ok => 0
  | .unknownKind => 1
  | .badLength => 2
  | .badArg => 3
  | .busy => 4
  | .badState => 5
  | .claimed => 6
  | .noRunner => 7
  | .isProtected => 8
  | .faultPending => 9
  | .lockedOut => 10
  | .inhibited => 11
  | .badPlan => 12
  | .notConfigured => 13
  | .noChannel => 14
  | .unreferenced => 15

/-! ### Byte forms of records -/

/-- The owner: none 0, runner 1 with its number and move index, link 2 with its operation. -/
def OwnerTag.bytes : OwnerTag → List Byte
  | .none => [0, 0xFF, 0xFF]
  | .runner r m => [1] ++ b1 r.val ++ bOpt1 m
  | .link op => [2] ++ b1 op.code ++ [0xFF]

/-- An optional first fault, with its presence byte. -/
def firstFaultBytes : Option (AxisNo × FaultKind) → List Byte
  | none => [0, 0, 0]
  | some (a, k) => [1] ++ b1 a.val ++ b1 k.code

/-- An optional plan error, with its presence byte. -/
def planErrorBytes : Option (Nat × PlanCause) → List Byte
  | none => [0, 0, 0]
  | some (m, c) => [1] ++ b1 m ++ b1 c.code

/-- The sleep options of a WAKE report as an optional record: a presence byte and the three values, which are carried as 0
where POWER_ON and SOFT_RESET have no options (R192, R194; log 9, DEDUCED). -/
def sleepOptsBytes : Option SleepOpts → List Byte
  | none => [0, 0, 0, 0]
  | some o => [1] ++ bFlag o.watch ++ bFlag o.wakeOnHand ++ bFlag o.quick

/-- One axis of a POSITIONS report (R192). -/
def PosItem.bytes (p : PosItem) : List Byte :=
  b1 (p.axis.val + 16 * p.phase + (if p.escalated then 128 else 0)) ++ bOpt2 p.pos ++ bOpt2 p.remaining

/-- The axis, or none, at a place of the list of a report's axes. -/
def finalAxis (l : List FinalPos) (n : Nat) : List Byte := bOpt1 (l[n]?.map (fun f => f.axis.val))

/-- The final position, or none, at a place of the list of a report's axes. -/
def finalPos (l : List FinalPos) (n : Nat) : List Byte := bOpt2 (l[n]?.bind FinalPos.pos)

/-- The corrections used, or none, at a place of the list of a report's axes. -/
def finalCorr (l : List FinalPos) (n : Nat) : List Byte := bOpt1 (l[n]?.map FinalPos.corrections)

/-- A check result, or none, at a place of the list of results. -/
def resultByte (l : List (Option CheckResult)) (n : Nat) : List Byte := bOpt1 (l[n]?.bind (fun r => r.map CheckResult.code))

/-- Whether a link is a copy, as a BLOCKED report carries it: for BLOCK and CHANGE, absent for CLEAR (R133). -/
def copyByte (ev : BlockEvent) (copy : Bool) : List Byte := if ev = .clear then bOpt1 none else bFlag copy

/-- The OP_END of a JOG (R52), and of a HOME in the same form (log 56). -/
def opEndBytes (op : OpKind) (o : MoveOutcome) (k : Option FaultKind) (ax : List FinalPos) : List Byte :=
  b1 op.code ++ finalAxis ax 0 ++ b1 o.code ++ finalPos ax 0 ++ bOpt1 (k.map FaultKind.code) ++ finalAxis ax 1 ++ finalPos ax 1

/-- The kind of a report (section 10.8). -/
def Report.kind : Report → Byte
  | .wake .. => 0x40
  | .positions .. => 0x41
  | .moveEnd .. => 0x42
  | .runEnd .. => 0x43
  | .runPaused .. => 0x44
  | .axisFault .. => 0x45
  | .blocked .. => 0x46
  | .opEnd .. => 0x47
  | .handMoved .. => 0x48
  | .supply .. => 0x49
  | .reference .. => 0x4A

/-- The payload of a report: the fields its owning rule lists, in that order (R183, R192). The net counts of HAND_MOVED take
two bytes by the model's choice (log 29), and the corrections used of MOVE_END one byte for each of two axes, 0xFF for the axis
that is not there (log 46, DESIGN CHOICE). OP_END of a CHECK follows R68, of a JOG R52, of a HOME that of a JOG, each with the
fields of a gang partner at its end (log 56, DESIGN CHOICE). The levels of SHARE_REQ and SHARE_ACK in SUPPLY are 1 where asserted
and 0 where released, and the sleep options of WAKE are an optional record (log 9, DEDUCED). -/
def Report.payload : Report → List Byte
  | .wake c t o => b1 c.code ++ b2 t ++ sleepOptsBytes o
  | .positions items => b1 items.length ++ items.flatMap PosItem.bytes
  | .moveEnd r sl m o ax el =>
    b1 r.val ++ b1 sl.val ++ b1 m ++ finalAxis ax 0 ++ finalAxis ax 1 ++ b1 o.code ++ finalPos ax 0 ++ finalPos ax 1 ++
    finalCorr ax 0 ++ finalCorr ax 1 ++ b4 el
  | .runEnd r sl k el d n ff => b1 r.val ++ b1 sl.val ++ b1 k.code ++ b4 el ++ b1 d ++ b1 n ++ firstFaultBytes ff
  | .runPaused r sl rs ff pe d el =>
    b1 r.val ++ b1 sl.val ++ b1 rs.bits ++ firstFaultBytes ff ++ planErrorBytes pe ++ b1 d ++ b4 el
  | .axisFault a fu k c p bd e o =>
    b1 a.val ++ bFlag fu ++ b1 k.code ++ c.bytes ++ bOpt2 p ++ bFlag bd ++ bOpt1 (e.map Fin.val) ++ o.bytes
  | .blocked ev a e p cp q q' o =>
    b1 ev.code ++ b1 a.val ++ b1 e.val ++ b1 p.val ++ copyByte ev cp ++ bOpt2 q ++ bOpt2 q' ++ o.bytes
  | .opEnd .check o k ax rs =>
    b1 OpKind.check.code ++ finalAxis ax 0 ++ resultByte rs 0 ++ b1 o.code ++ bOpt1 (k.map FaultKind.code) ++
    finalAxis ax 1 ++ resultByte rs 1
  | .opEnd .jog o k ax _ => opEndBytes .jog o k ax
  | .opEnd .home o k ax _ => opEndBytes .home o k ax
  | .handMoved a n p r => b1 a.val ++ bInt n ++ bOpt2 p ++ b1 r.code
  | .supply c b t h q k av iu =>
    b1 c.code ++ b1 b.code ++ b1 t.code ++ b1 h.code ++ bFlag q ++ bFlag k ++ b2 av ++ b2 iu
  | .reference a o n c p => b1 a.val ++ b1 o.code ++ b1 n.code ++ b1 c.code ++ bOpt2 p

/-- The frame of a report: tag 0 (R183). -/
def Report.frame (r : Report) : Frame := ⟨r.kind, 0, r.payload⟩

/-- The frame of a reply (R180). -/
def Reply.frame (r : Reply) : Frame := ⟨r.kind, r.tag, byteOf r.result.code :: r.data⟩

/-- The fields of a configuration record in the layout of AXIS_SET (R6, R192). -/
def AxisConfig.bytes (c : AxisConfig) : List Byte :=
  b2 c.travel ++ b1 (dirCode c.refEnd) ++ b1 c.lash ++ b1 c.endZone ++ bOpt2 c.stops[0] ++ bOpt2 c.stops[1] ++
  bOpt2 c.stops[2] ++ bOpt2 c.stops[3] ++ b1 c.draw ++ b2 c.stallWindow ++ b1 c.scaleGroup.val ++ b1 c.reach.toNat ++
  bOpt1 (c.partner.map Fin.val) ++ b1 c.skewLimit ++
  (match c.pinch with
    | none => [0] ++ b2 0 ++ b2 0 ++ b1 0 ++ b2 0
    | some p => [1] ++ b2 p.lo ++ b2 p.hi ++ b1 (dirCode p.dir) ++ b2 p.distance) ++
  bFlag c.handMovable ++ b1 c.heatLimit

/-- The fields of an unconfigured axis, each reported as absent (R6): as the same bytes with absent values. -/
def noConfigBytes : List Byte := List.replicate 20 0xFF ++ [0] ++ List.replicate 7 0 ++ [0xFF, 0xFF]

/-- The ten values of a profile (R26). -/
def Profile.bytes (p : Profile) : List Byte :=
  b1 p.startDuty ++ b1 p.cruiseDuty ++ b2 p.rampUp ++ b1 p.creepDuty ++ b2 p.creepZone ++ b1 p.coast ++ b1 p.tolerance ++
  b2 p.minSpeed ++ b1 p.obstruction ++ b2 p.blanking

/-- A gate in the layout of PLAN_WRITE (R192). -/
def Gate.bytes : Gate → List Byte
  | .after m d => [1] ++ b1 m ++ b2 d
  | .whenGe a p => [2] ++ b1 a.val ++ b2 p
  | .whenLe a p => [3] ++ b1 a.val ++ b2 p
  | .mark m => [4] ++ b1 m.val ++ b2 0

/-- The target kind and value in the layout of PLAN_WRITE (R192). -/
def Target.bytes : Target → List Byte
  | .abs p => [0] ++ b2 p
  | .stop k => [1] ++ b2 k.val
  | .endLow => [2] ++ b2 0
  | .endHigh => [3] ++ b2 0
  | .rel d => [4] ++ bInt d

/-- A place of the plan store in the layout of PLAN_WRITE: a move entry or the empty form (R139, R192). -/
def placeBytes : Option PlanEntry → List Byte
  | none => [0xFF, 0, 0, 0, 0, 0]
  | some e =>
    b1 e.axis.val ++ e.target.bytes ++ b1 (e.profile.val + 16 * e.priority + 64 * e.gates.length) ++
    bOpt1 (e.setMark.map Fin.val) ++ e.gates.flatMap Gate.bytes

/-- An optional fault record, with its presence byte (R6, R61). -/
def faultBytes : Option FaultRec → List Byte
  | none => List.replicate 9 0
  | some f =>
    [1] ++ b1 f.kind.code ++ f.cause.bytes ++ bOpt2 f.pos ++ b1 f.backoff.code ++ bOpt1 (f.entry.map Fin.val) ++
    bFlag f.further

end Sys2Proof.Machine
end

