-- ==== Sys2Proof/Machine/Flags.lean ====
section
/-! DEFINITION. The computations of the rules over plain values, with no state: counting, deeper movement, the effective duty,
the filters of the supply monitor, the available budget, the choice of channels. -/

namespace Sys2Proof.Machine

/-! ### Counting (R8, R9, R10) -/

/-- The lash state under a count in direction `d`: the new lash remaining, and whether the count passes on to overrun and
position. The new lash direction is `d`. A count opposite to the recorded direction loads the full lash first (R8). -/
def countLash (lash : Nat) (dir : Dir) (rem : Nat) (d : Dir) : Nat × Bool :=
  let r := if d = dir then rem else lash
  if r = 0 then (0, true) else (r - 1, false)

/-- What a count that leaves the lash state does to position and overrun (R9), or that it would take overrun above the end
zone and is discarded (R10). -/
inductive Counted where
  | moved (pos overrun : Nat)
  | discarded
  deriving DecidableEq, Repr

/-- An increase of overrun, bounded by the end zone (R9, R10). -/
def countBeyond (endZone pos overrun : Nat) : Counted :=
  if overrun < endZone then .moved pos (overrun + 1) else .discarded

/-- A count applied to position and overrun (R9). -/
def countPos (travel endZone pos overrun : Nat) : Dir → Counted
  | .low =>
    if 0 < overrun ∧ pos = travel then .moved pos (overrun - 1)
    else if 0 < pos then .moved (pos - 1) overrun
    else countBeyond endZone pos overrun
  | .high =>
    if 0 < overrun ∧ pos = 0 then .moved pos (overrun - 1)
    else if pos < travel then .moved (pos + 1) overrun
    else countBeyond endZone pos overrun

/-- The position lies inside the end zone of the bound in a direction (R12). -/
def inEndZone (travel endZone pos : Nat) : Dir → Bool
  | .low => decide (pos ≤ endZone)
  | .high => decide (travel ≤ pos + endZone)

/-- The bound in a direction. -/
def boundAt (travel : Nat) : Dir → Nat
  | .low => 0
  | .high => travel

/-- The signed count of a step: +1 toward HIGH, −1 toward LOW (R18). -/
def signed : Dir → Int
  | .low => -1
  | .high => 1

/-- The HOME search limit: travel × 1.1, rounded down (R16). -/
def searchLimit (travel : Nat) : Nat := travel * 11 / 10

/-! ### Directions (R23, R71) -/

/-- The direction toward a target, when there is one: a target at a bound with the end flag lies in the direction of that
bound. Without a position the target is a bound, and the direction is toward it (R23). -/
def towards (pos : Option Nat) (target : Nat) (endFlag : Bool) : Option Dir :=
  match pos with
  | none => some (if target = 0 then .low else .high)
  | some p =>
    if p < target then some .high
    else if target < p then some .low
    else if endFlag then some (if target = 0 then .low else .high)
    else none

/-! ### Keep-out (R121, R122) -/

/-- The position lies within lo − guard .. hi + guard, or there is no position (R121). -/
def occupies (lo hi guard : Nat) : Option Nat → Bool
  | none => true
  | some p => decide (lo ≤ p + guard) && decide (p ≤ hi + guard)

/-- The movement in a direction is deeper with respect to the region lo..hi (R122). -/
def isDeeper (travel lo hi : Nat) (pos : Option Nat) (d : Dir) : Bool :=
  match pos with
  | none => true
  | some p =>
    if p < lo then decide (d = .high)
    else if hi < p then decide (d = .low)
    else
      match decide (lo ≠ 0), decide (hi ≠ travel) with
      | false, false => true
      | true, false => decide (d = .high)
      | false, true => decide (d = .low)
      | true, true =>
        if p - lo < hi - p then decide (d = .high)
        else if hi - p < p - lo then decide (d = .low)
        else false

/-! ### Duty (R35, R36, R37) -/

/-- The base duty of a phase, as a numerator over `rampScale` (R35). -/
def baseDuty (p : Profile) (ph : Phase) (rampCounts : Nat) : Nat :=
  match ph with
  | .ramp =>
    if p.rampUp = 0 then p.cruiseDuty
    else p.startDuty * (p.rampUp - rampCounts) + p.cruiseDuty * min rampCounts p.rampUp
  | .cruise => p.cruiseDuty * max p.rampUp 1
  | .creep | .correct => p.creepDuty * max p.rampUp 1

/-- The denominator of `baseDuty`. -/
def rampScale (p : Profile) : Nat := max p.rampUp 1

/-- The effective duty of R36: `scale` is the factor of the axis's scale group, `skew` the skew to reduce by, 0 for an axis
that is no leader. All of it is exact until the last step rounds down. -/
def effectiveDuty (p : Profile) (ph : Phase) (rampCounts scale : Nat) (escalated forced : Bool) (skew : Nat) : Nat :=
  let den := rampScale p * 100
  let factor := if escalated && !forced then 100 else scale
  let v := baseDuty p ph rampCounts * factor
  let v := if forced then min v (p.creepDuty * rampScale p * scale) else v
  let creep := p.creepDuty * den
  let v := if v ≤ creep then v else max (v - skew * den) creep
  max 1 (v / den)

/-- The duty of a controlled stop `k` intervals of 10 ms after its request: linear from `full` to 0 over 100 ms (R40), rounded
down to a whole percent (log 32, DESIGN CHOICE). -/
def rampDuty (full k : Nat) : Nat := full * (10 - k) / 10

/-- The obstruction threshold: 60 % of the obstruction current, rounded down to 0.1 A, under forced creep (R37, R54). -/
def obstructionThreshold (p : Profile) (forced : Bool) : Nat := if forced then p.obstruction * 60 / 100 else p.obstruction

/-! ### Heat (R47, R48) -/

/-- The heat limit in units (R47). -/
def heatUnits (heatLimit : Nat) : Nat := heatLimit * 10000

/-- The lockout flag, re-evaluated: a set flag clears at or below 60 % of the limit (R48). -/
def lockoutAfter (lockout : Bool) (heat heatLimit : Nat) : Bool :=
  lockout && !decide (heat * 100 ≤ heatUnits heatLimit * 60)

/-! ### Supply (R102, R103, R104) -/

/-- The voltage factor of a band, in percent (R102). -/
def Band.factor : Band → Nat
  | .normal => 100
  | .reduced => 50
  | .hold => 0

/-- The thermal factor of a thermal state, in percent (R103). -/
def Thermal.factor : Thermal → Nat
  | .cool => 100
  | .warm => 50
  | .hot => 0

/-- The available budget (R104). -/
def availOf (base : Nat) (band : Band) (thermal : Thermal) (h : Handshake) : Nat :=
  match h with
  | .quiet => base * band.factor * thermal.factor / 10000
  | .draining | .yielded => 0

/-- Whether a sample, in mV, counts toward falling (R102). -/
def Band.falls : Band → Nat → Bool
  | .normal, mv => decide (mv < 11000)
  | .reduced, mv => decide (mv < 9000)
  | .hold, _ => false

/-- Whether a sample, in mV, counts toward rising (R102). -/
def Band.rises : Band → Nat → Bool
  | .normal, _ => false
  | .reduced, mv => decide (11400 ≤ mv)
  | .hold, mv => decide (9400 ≤ mv)

/-- The band filter (R102): the monitor after one voltage sample. -/
def bandSample (s : Supply) (mv : Nat) : Supply :=
  if s.band.falls mv then
    let deep := decide (mv < 9000) && (s.fallDeep || s.falling == 0)
    if 4 ≤ s.falling + 1 then
      { s with band := if s.band = .normal ∧ ¬ deep then .reduced else .hold, falling := 0, rising := 0, fallDeep := false }
    else { s with falling := s.falling + 1, rising := 0, fallDeep := deep }
  else if s.band.rises mv then
    if 20 ≤ s.rising + 1 then
      { s with band := if s.band = .hold then .reduced else .normal, falling := 0, rising := 0, fallDeep := false }
    else { s with rising := s.rising + 1, falling := 0, fallDeep := false }
  else { s with falling := 0, rising := 0, fallDeep := false }

/-- Whether a sample, in 0.1 °C, counts toward heating (R103). -/
def Thermal.heats : Thermal → Int → Bool
  | .cool, t => decide (1250 ≤ t)
  | .warm, t => decide (1500 ≤ t)
  | .hot, _ => false

/-- Whether a sample, in 0.1 °C, counts toward cooling (R103). -/
def Thermal.cools : Thermal → Int → Bool
  | .cool, _ => false
  | .warm, t => decide (t < 1150)
  | .hot, t => decide (t < 1300)

/-- The thermal filter (R103): the monitor after one temperature sample. -/
def thermalSample (s : Supply) (t : Int) : Supply :=
  if s.thermal.heats t then
    let deep := decide (1500 ≤ t) && (s.heatDeep || s.heating == 0)
    if 4 ≤ s.heating + 1 then
      { s with thermal := if s.thermal = .cool ∧ ¬ deep then .warm else .hot, heating := 0, cooling := 0, heatDeep := false }
    else { s with heating := s.heating + 1, cooling := 0, heatDeep := deep }
  else if s.thermal.cools t then
    if 20 ≤ s.cooling + 1 then
      { s with thermal := if s.thermal = .hot then .warm else .cool, heating := 0, cooling := 0, heatDeep := false }
    else { s with cooling := s.cooling + 1, heating := 0, heatDeep := false }
  else { s with heating := 0, cooling := 0, heatDeep := false }

/-! ### Channels of a reach set (R92, R96) -/

/-- A channel lies in a reach set. -/
def reaches (reach : BitVec 4) (c : ChanNo) : Bool := reach.getLsbD c.val

/-- The lowest-numbered channel of a reach set that `ok` admits (R92). -/
def pickChan (reach : BitVec 4) (ok : ChanNo → Bool) : Option ChanNo :=
  allChans.find? (fun c => reaches reach c && ok c)

/-- The channels of a gang: the lower-numbered axis takes the lowest channel that still leaves a different one for its
partner, which then takes the lowest other one of its own (R92). -/
def pickPair (ra rb : BitVec 4) (ok : ChanNo → Bool) : Option (ChanNo × ChanNo) :=
  match allChans.find? (fun c => reaches ra c && ok c && (pickChan rb (fun d => ok d && d != c)).isSome) with
  | none => none
  | some c => (pickChan rb (fun d => ok d && d != c)).map (fun d => (c, d))

/-! ### The order of the grant queue (R89) -/

/-- A request stands ahead of another: the higher priority, and within one priority the earlier stamp. -/
def GrantRequest.ahead (q r : GrantRequest) : Bool :=
  decide (r.priority < q.priority) || (decide (q.priority = r.priority) && decide (q.stamp < r.stamp))

/-- A request takes its place in a queue kept in the order of R89. -/
def insertRequest (q : GrantRequest) : List GrantRequest → List GrantRequest
  | [] => [q]
  | r :: rs => if q.ahead r then q :: r :: rs else r :: insertRequest q rs

end Sys2Proof.Machine
end

