-- ==== Sys2Proof/Machine/Ops.lean ====
section
/-! DEFINITION. The named operations over the state: reading and writing axes, channels and runners, gangs, reports, the drive
channels and the grant pass (chapters 01, 04, 05, 06, 10). -/

namespace Sys2Proof.Machine

/-! ### Reading and writing -/

/-- An axis. -/
def State.ax (s : State) (a : AxisNo) : Axis := s.axes[a]

/-- An axis replaced. -/
def State.setAx (s : State) (a : AxisNo) (x : Axis) : State := { s with axes := s.axes.set a x }

/-- An axis changed. -/
def State.modAx (s : State) (a : AxisNo) (f : Axis → Axis) : State := s.setAx a (f (s.ax a))

/-- Several axes changed, in order. -/
def State.modAll (s : State) (as : List AxisNo) (f : Axis → Axis) : State := as.foldl (fun t a => t.modAx a f) s

/-- A channel. -/
def State.ch (s : State) (c : ChanNo) : Channel := s.chans[c]

/-- A channel replaced. -/
def State.setCh (s : State) (c : ChanNo) (x : Channel) : State := { s with chans := s.chans.set c x }

/-- A runner record; none for a FREE runner. -/
def State.run (s : State) (r : RunnerNo) : Option Run := s.runners[r]

/-- A runner record replaced. -/
def State.setRun (s : State) (r : RunnerNo) (x : Option Run) : State := { s with runners := s.runners.set r x }

/-- A profile of the store. -/
def State.profile (s : State) (bank : Bank) (i : Fin 8) : Profile :=
  match bank with
  | .a => s.store.bankA[i]
  | .b => s.store.bankB[i]

/-- The travel of an axis; 0 for an unconfigured one, which has no position (R21). -/
def State.travel (s : State) (a : AxisNo) : Nat := ((s.ax a).config.map AxisConfig.travel).getD 0

/-- The draw of an axis. -/
def State.draw (s : State) (a : AxisNo) : Nat := ((s.ax a).config.map AxisConfig.draw).getD 0

/-- The reach set of an axis. -/
def State.reach (s : State) (a : AxisNo) : BitVec 4 := ((s.ax a).config.map AxisConfig.reach).getD 0

/-- The factor of the axis's scale group (R28). -/
def State.scale (s : State) (a : AxisNo) : Nat :=
  match (s.ax a).config with
  | none => 100
  | some c => s.store.scales[c.scaleGroup]

/-! ### Gangs (R4, R5, R72, R73) -/

/-- The gang partner that an axis's record names. -/
def State.names (s : State) (a : AxisNo) : Option AxisNo := (s.ax a).config.bind AxisConfig.partner

/-- The partner of an axis of a formed gang: each names the other (R4). -/
def State.partner (s : State) (a : AxisNo) : Option AxisNo :=
  match s.names a with
  | none => none
  | some b => if s.names b = some a then some b else none

/-- The axis names a partner that does not name it (R4, R5). -/
def State.gangPending (s : State) (a : AxisNo) : Bool := (s.names a).isSome && (s.partner a).isNone

/-- The axis with its partner in a formed gang, the lower-numbered first (R70). -/
def State.members (s : State) (a : AxisNo) : List AxisNo :=
  match s.partner a with
  | none => [a]
  | some b => if a < b then [a, b] else [b, a]

/-- The skew limit in use: the smaller of the two records' (R4). -/
def State.skewLimit (s : State) (a b : AxisNo) : Nat :=
  min (((s.ax a).config.map AxisConfig.skewLimit).getD 0) (((s.ax b).config.map AxisConfig.skewLimit).getD 0)

/-- The skew of two axes: defined while both have a position (R73). -/
def State.skew (s : State) (a b : AxisNo) : Option Nat :=
  match (s.ax a).pos, (s.ax b).pos with
  | some p, some q => some (apart p q)
  | _, _ => none

/-! ### Kinds of motion -/

/-- ENGAGING, DRIVING, STOPPING, BACKOFF or CHECKING: the states of R113 and R202. -/
def Motion.moving : Motion → Bool
  | .engaging | .driving | .stopping | .backoff | .checking => true
  | .idle | .queued | .blocked | .fault => false

/-- IDLE or FAULT (R195, R197). -/
def Motion.resting : Motion → Bool
  | .idle | .fault => true
  | .queued | .engaging | .driving | .stopping | .backoff | .blocked | .checking => false

/-- DRIVING, STOPPING or BACKOFF: the states POSITIONS lists (R184). -/
def Motion.listed : Motion → Bool
  | .driving | .stopping | .backoff => true
  | .idle | .queued | .engaging | .blocked | .fault | .checking => false

/-- A HOME is under way on the axis. -/
def Axis.homing (x : Axis) : Bool :=
  match x.owner with
  | .link op => decide (op.kind = .home)
  | .none | .runner _ => false

/-- A CHECK is under way on the axis. -/
def Axis.testing (x : Axis) : Bool := x.check.isSome

/-- The remaining distance of the current move; absent without a move record or a position (R23). -/
def Axis.remaining (x : Axis) : Option Nat :=
  match x.move, x.pos with
  | some m, some p => some (apart m.target p)
  | _, _ => none

/-- An axis as it stands in IDLE: the record kept on a pause, removed otherwise (R39, R42). -/
def Axis.toIdle (keep : Bool) (x : Axis) : Axis :=
  { x with motion := .idle, phase := none, held := false, blanking := false, stop := none, backoff := none, check := none,
           noted := none, link := none, move := if keep then x.move else none }

/-- An axis as it stands in FAULT (R63). -/
def Axis.toFault (x : Axis) : Axis := { x.toIdle false with motion := .fault }

/-! ### Effective duty (R36, R73) -/

/-- The skew by which the duty of an axis is reduced: it is the leader of a gang in which both axes drive in RAMP, CRUISE or
CREEP in one direction, or both are in REVERSE, and the operation is neither a HOME nor a CHECK (R73). -/
def State.leadSkew (s : State) (a : AxisNo) : Nat :=
  match s.partner a with
  | none => 0
  | some b =>
    let x := s.ax a
    let y := s.ax b
    let steady (z : Axis) : Bool := decide (z.motion = .driving) && decide (z.phase ≠ some .correct)
    let turning (z : Axis) : Bool := match z.backoff with
      | some k => decide (z.motion = .backoff) && decide (k.step = .reverse)
      | none => false
    if x.homing || x.testing || !decide (x.driveDir = y.driveDir) ||
        !((steady x && steady y) || (turning x && turning y)) then 0
    else
      match x.pos, y.pos with
      | some p, some q =>
        (match x.driveDir with
          | .high => if q < p then p - q else 0
          | .low => if p < q then q - p else 0)
      | _, _ => 0

/-- The effective duty of an axis in DRIVING or in REVERSE, by R36. -/
def State.driveDuty (s : State) (a : AxisNo) : Nat :=
  let x := s.ax a
  match x.move with
  | none => 0
  | some m =>
    effectiveDuty m.profile (x.phase.getD .creep) x.rampCounts (s.scale a) x.escalated m.forcedCreep (s.leadSkew a)

/-- The duty the output applies now (R23, R36, R40, R57, R67). -/
def State.dutyNow (s : State) (a : AxisNo) : Nat :=
  let x := s.ax a
  match x.motion with
  | .driving => s.driveDuty a
  | .backoff =>
    (match x.backoff with
      | some k => if k.step = .reverse then s.driveDuty a else 0
      | none => 0)
  | .checking => if (x.check.bind CheckRec.pulse).isSome then Config.checkDuty else 0
  | .stopping =>
    (match x.stop with
      | some st => if st.ramping then rampDuty st.rampFrom st.rampTicks else 0
      | none => 0)
  | .idle | .queued | .engaging | .blocked | .fault => 0

/-! ### Reports (R182) -/

/-- A report joins the queue, or is discarded and sets the overflow flag where the queue holds sixteen (R182). -/
def State.report (s : State) (r : Report) : State :=
  if s.link.reports.length < Config.reportQueueSize then
    { s with link := { s.link with reports := s.link.reports ++ [r] } }
  else { s with link := { s.link with overflow := true } }

/-- The budget in use is charged for an axis (R90). A revoked stop is charged no longer, whatever its destination (R106). -/
def Axis.charged (x : Axis) : Bool :=
  match x.motion with
  | .engaging => x.stop.isNone
  | .driving | .backoff | .checking => true
  | .stopping =>
    (match x.stop with
      | none => false
      | some st =>
        match st.dest with
        | .completion _ | .reversal => !st.revoked
        | .checkDone => true
        | .idle _ | .held | .blocked _ _ | .fault => false)
  | .idle | .queued | .blocked | .fault => false

/-- The budget in use: the sum of the draws of the charged axes (R90). -/
def State.inUse (s : State) : Nat :=
  (allAxes.map (fun a => if (s.ax a).charged then s.draw a else 0)).sum

/-- A SUPPLY report (R116). -/
def State.supplyReport (s : State) (cause : SupplyCause) : State :=
  s.report (.supply cause s.supply.band s.supply.thermal s.supply.handshake s.supply.shareReq s.supply.shareAck s.supply.avail
    s.inUse)

/-- The entry of a move of a run (R141). -/
def State.moveEntry (s : State) (run : Run) (i : Nat) : Option PlanEntry := (s.places[s.slots[run.slot].start + i]?).join

/-- A move of a run occupies an axis: its entry names the axis or its gang partner (R70, R155). -/
def State.moveOn (s : State) (run : Run) (i : Nat) (a : AxisNo) : Bool :=
  match s.moveEntry run i with
  | none => false
  | some e => (s.members e.axis).contains a

/-- The index of the ACTIVE move of a run on an axis (R158: there is at most one). -/
def State.activeOn (s : State) (run : Run) (a : AxisNo) : Option Nat :=
  (List.range run.moves.length).find? (fun i =>
    decide ((run.moves[i]?.map RunMove.state) = some .active) && s.moveOn run i a)

/-- The owner as reports carry it: the move index of a runner is that of its ACTIVE move on the axis (log 8). -/
def State.ownerTag (s : State) (a : AxisNo) : OwnerTag :=
  match (s.ax a).owner with
  | .none => .none
  | .link op => .link op.kind
  | .runner r => .runner r ((s.run r).bind (fun run => s.activeOn run a))

/-- An open hand-move episode closes and is reported (R18, R19). -/
def State.closeEpisode (s : State) (a : AxisNo) : State :=
  match (s.ax a).episode with
  | none => s
  | some e =>
    (s.modAx a (fun x => { x with episode := none })).report (.handMoved a e.net (s.ax a).pos (s.ax a).ref)

/-- Forced creep is set in the records of an axis and its gang partner (R37, R71). -/
def State.forceCreep (s : State) (a : AxisNo) : State :=
  s.modAll (s.members a) (fun x => { x with move := x.move.map (fun m => { m with forcedCreep := true }) })

/-- A VALID reference becomes SUSPECT, with a REFERENCE report (R7, R10, R14); forced creep is set in a move under way
(R37). -/
def State.suspect (s : State) (a : AxisNo) (cause : RefCause) : State :=
  if (s.ax a).ref = .valid then
    ((s.modAx a (fun x => { x with ref := .suspect })).report (.reference a .valid .suspect cause (s.ax a).pos)).forceCreep a
  else s

/-! ### Channels (R84, R86, R87) -/

/-- The channel holds the axis: granted, its relay closing, or tripped with its relay not yet opening (R84, R94). -/
def Channel.holds (c : Channel) (a : AxisNo) : Bool :=
  decide (c.axis = some a) &&
    (match c.state with
      | .granted => true
      | .settling => decide (c.closing = some true)
      | .tripped => !c.opening
      | .free | .retired => false)

/-- The relay of the channel is opening from the axis (R84, R92). -/
def Channel.opensFrom (c : Channel) (a : AxisNo) : Bool :=
  decide (c.axis = some a) &&
    (match c.state with
      | .settling => decide (c.closing = some false)
      | .tripped => c.opening
      | .free | .granted | .retired => false)

/-- The channel an axis holds (R84: at most one). -/
def State.chanOf (s : State) (a : AxisNo) : Option ChanNo := allChans.find? (fun c => (s.ch c).holds a)

/-- A released channel of the axis is still opening (R84). -/
def State.opening (s : State) (a : AxisNo) : Bool := allChans.any (fun c => (s.ch c).opensFrom a)

/-- A channel at its release: the relay starts to open; a TRIPPED channel stays TRIPPED (R87). -/
def Channel.release (c : Channel) : Channel :=
  match c.state with
  | .tripped => { c with opening := true }
  | .free | .settling | .granted | .retired => { c with state := .settling, closing := some false }

/-- The channel an axis holds is released (R87). -/
def State.release (s : State) (a : AxisNo) : State :=
  match s.chanOf a with
  | none => s
  | some c => s.setCh c (s.ch c).release

/-- The channels of several axes are released together (R72). -/
def State.releaseAll (s : State) (as : List AxisNo) : State := as.foldl State.release s

/-- The requests of an axis leave the grant queue (R89). -/
def State.leaveQueue (s : State) (a : AxisNo) : State :=
  { s with queue := s.queue.filter (fun q => !(decide (q.axis = a) || decide (q.partner = some a))) }

/-! ### The grant pass (R90 to R93) -/

/-- The channels that a request would take (R92 step 1). -/
def State.chooseChans (s : State) (q : GrantRequest) : Option (ChanNo × Option ChanNo) :=
  let free (c : ChanNo) : Bool := decide ((s.ch c).state = .free)
  match q.partner with
  | none =>
    if s.opening q.axis then none else (pickChan (s.reach q.axis) free).map (fun c => (c, none))
  | some b =>
    if s.opening q.axis || s.opening b then none
    else (pickPair (s.reach q.axis) (s.reach b) free).map (fun p => (p.1, some p.2))

/-- One axis of a grant: its channel starts to close, the axis enters ENGAGING, and an open episode closes (R34, R86). -/
def State.engage (s : State) (a : AxisNo) (c : ChanNo) (stamp : Nat) : State :=
  let s := s.closeEpisode a
  let s := s.setCh c { s.ch c with state := .settling, closing := some true, axis := some a }
  s.modAx a (fun x => { x with motion := .engaging, held := false, stop := none, grantStamp := stamp })

/-- A grant (R86): the request leaves the queue, and the grant takes a stamp from the grant counter (R106). Of a gang the
lower-numbered axis engages first, which orders the HAND_MOVED reports of open episodes (log 50, DESIGN CHOICE). -/
def State.grant (s : State) (q : GrantRequest) (c : ChanNo) (d : Option ChanNo) : State :=
  let n := s.supply.grantCounter
  let s := { s.leaveQueue q.axis with supply := { s.supply with grantCounter := n + 1 } }
  let s := s.engage q.axis c n
  match q.partner, d with
  | some b, some d => s.engage b d n
  | _, _ => s

/-- The walk of a grant pass over the requests left, with the draw of the reservation made so far (R92, R93). -/
def passWalk : List GrantRequest → Option Nat → State → State
  | [], _, s => s
  | q :: qs, reserved, s =>
    match s.chooseChans q with
    | none => passWalk qs reserved s
    | some (c, d) =>
      if s.supply.avail < q.draw then passWalk qs reserved s
      else if s.inUse + reserved.getD 0 + q.draw ≤ s.supply.avail then passWalk qs reserved (s.grant q c d)
      else passWalk qs (some (reserved.getD q.draw)) s

/-- A pass is performed now: the drive stage is READY and the power state is none of RESETTING, INIT and SLEEP (R91). -/
def State.mayGrant (s : State) : Bool :=
  decide (s.power.stage = .ready) && (decide (s.power.state = .active) || decide (s.power.state = .doze))

/-- A grant pass (R91, R92). -/
def State.grantPass (s : State) : State := if s.mayGrant then passWalk s.queue none s else s

/-- A departure that R91 names has happened between two states: a request has left the queue other than by a grant, or an
axis is charged no longer, so that the budget in use has fallen. -/
def State.departed (s t : State) : Bool :=
  s.queue.any (fun q => !t.queue.contains q && decide ((t.ax q.axis).motion ≠ .engaging)) ||
    allAxes.any (fun a => (s.ax a).charged && !(t.ax a).charged)

/-- The grant pass that the departures of an event cause, where it has any: `before` is the state the event found (R91,
log 11). Where its callers place it among the other effects of the event is the model's choice (log 48, DESIGN CHOICE). -/
def State.passSince (t before : State) : State := if before.departed t then t.grantPass else t

/-- Enough channels of the reach are not RETIRED: one, or a distinct pair for a gang (R15, R88). -/
def State.reachable (s : State) (as : List AxisNo) : Bool :=
  let ok (c : ChanNo) : Bool := decide ((s.ch c).state ≠ .retired)
  match as with
  | [a] => (pickChan (s.reach a) ok).isSome
  | [a, b] => (pickPair (s.reach a) (s.reach b) ok).isSome
  | _ => true

/-! ### Idleness (R195, R196) -/

/-- A condition of idleness fails: the dwell timer stops, and the part leaves DOZE for ACTIVE. -/
def State.notIdle (s : State) : State :=
  { s with power := { s.power with dwell := none, state := if s.power.state = .doze then .active else s.power.state } }

/-- The part is idle (R195). -/
def State.idle (s : State) : Bool :=
  allAxes.all (fun a => (s.ax a).motion.resting) &&
  allRunners.all (fun r => match s.run r with
    | none => true
    | some run => decide (run.state = .paused)) &&
  s.queue.isEmpty &&
  allAxes.all (fun a => match (s.ax a).owner with
    | .link op => op.window.isNone
    | .none | .runner _ => true)

/-- The link operation of an axis and its gang partner changed. -/
def State.modOp (s : State) (a : AxisNo) (f : LinkOp → LinkOp) : State :=
  s.modAll (s.members a) (fun x => match x.owner with
    | .link op => { x with owner := .link (f op) }
    | .none | .runner _ => x)

end Sys2Proof.Machine
end

