-- ==== Sys2Proof/Machine/Stops.lean ====
section
/-! DEFINITION. Stops and their destinations, the pause of a runner, and the raising of a fault with all it hands on
(chapters 02, 03, 04, 09). No operation of this file makes a grant pass: whoever calls one makes the pass after it (log 11). -/

namespace Sys2Proof.Machine

/-! ### Stop requests (R39 to R43, R75, R164) -/

/-- A stop request that is no fault. `halt` is also that of a link-operation end: both remove the record (R164, R42). -/
inductive StopReq where
  | pause
  | halt
  | revoke
  | block (entry : EntryNo) (partner : AxisNo)
  deriving DecidableEq, Repr

/-- The destination a stop request asks for (R39). -/
def StopReq.dest : StopReq → Dest
  | .pause => .idle true
  | .halt => .idle false
  | .revoke => .held
  | .block e p => .blocked e p

/-- The destination after a request reaches an axis in STOPPING (R43). `waiting` is a gang axis at its noted outcome, which
takes held or BLOCKED in place of the completion (R79). A completion whose correction one request has already turned aside meets a
further one as the destination of that request would: turned to BLOCKED, it stays so at a revocation (log 63, DESIGN CHOICE). -/
def Dest.meet (waiting : Bool) : Dest → StopReq → Dest
  | .completion c, .revoke => if waiting then .held else .completion (if c = .correct then .held else c)
  | .completion _, .block e p => if waiting then .blocked e p else .completion (.blocked e p)
  | .completion _, .pause => .idle true
  | .completion _, .halt => .idle false
  | .idle k, .halt => .idle (k && false)
  | .idle k, .pause | .idle k, .revoke | .idle k, .block _ _ => .idle k
  | .held, .revoke => .held
  | .held, .block e p => .blocked e p
  | .held, .pause => .idle true
  | .held, .halt => .idle false
  | .blocked e p, .revoke | .blocked e p, .block _ _ => .blocked e p
  | .blocked _ _, .pause => .idle true
  | .blocked _ _, .halt => .idle false
  | .fault, _ => .fault
  | .reversal, r => r.dest
  | .checkDone, .block e p => .blocked e p
  | .checkDone, .revoke | .checkDone, .pause | .checkDone, .halt => .checkDone

/-- The stop after a further request: the stop itself goes on as begun, a revocation ends the charge (R43, R106). -/
def Stop.meet (waiting : Bool) (st : Stop) (r : StopReq) : Stop :=
  { st with dest := st.dest.meet waiting r, revoked := st.revoked || decide (r = .revoke) }

/-- A stop that begins now; `duty` is the effective duty at the request, from which a controlled stop ramps down (R40,
R41). -/
def State.startStopFrom (s : State) (duty : Nat) (a : AxisNo) (dest : Dest) (mode : StopMode) : State :=
  s.modAx a (fun x =>
    { x with motion := .stopping, phase := none, blanking := false, backoff := none,
             check := x.check.map (fun k => { k with pulse := none }),
             stop := some { dest := dest, mode := mode, rampFrom := duty, ramping := decide (mode = .controlled),
                            rampTicks := 0, revoked := false, arrived := false } })

/-- A stop of one axis that begins now, from the duty its output applies (R40, R41). -/
def State.startStop (s : State) (a : AxisNo) (dest : Dest) (mode : StopMode) : State :=
  s.startStopFrom (s.dutyNow a) a dest mode

/-- The destination recorded for an axis in ENGAGING (R42). -/
def engageStop (dest : Dest) : Stop := ⟨dest, .coast, 0, false, 0, false, false⟩

/-- A gang axis waits at its noted outcome (R79). -/
def Axis.waiting (x : Axis) : Bool :=
  match x.stop with
  | some st => st.arrived && x.noted.isSome
  | none => false

/-- A stop request that reaches an axis in STOPPING or with a recorded destination in ENGAGING (R43). -/
def Axis.meet (x : Axis) (r : StopReq) : Axis :=
  let noted := match r with
    | .revoke | .block _ _ => if x.waiting then none else x.noted
    | .pause | .halt => x.noted
  { x with stop := x.stop.map (fun st => st.meet x.waiting r), noted := noted }

/-- A stop request that reaches one axis, by its motion state (R40, R42, R43, R60, R69, R164). A QUEUED or BLOCKED axis
comes to the state the request leaves it in at rest; the BLOCKED of a keep-out block is entered by its caller. `duty` is
the effective duty at the request. -/
def State.stopAxisFrom (s : State) (duty : Nat) (a : AxisNo) (r : StopReq) : State :=
  let x := s.ax a
  match x.motion with
  | .driving => s.startStopFrom duty a r.dest .controlled
  | .stopping => s.modAx a (fun x => x.meet r)
  | .engaging =>
    if x.stop.isSome then s.modAx a (fun x => x.meet r)
    else s.modAx a (fun x => { x with stop := some (engageStop r.dest) })
  | .queued =>
    (match r with
      | .revoke => s
      | .pause => (s.leaveQueue a).modAx a (Axis.toIdle true)
      | .halt => (s.leaveQueue a).modAx a (Axis.toIdle false)
      | .block _ _ => (s.leaveQueue a).modAx a (fun x => { x with motion := .idle, held := false }))
  | .blocked =>
    (match r with
      | .pause => s.modAx a (Axis.toIdle true)
      | .halt => s.modAx a (Axis.toIdle false)
      | .revoke | .block _ _ => s)
  | .checking =>
    (match r with
      | .block e p => s.startStopFrom duty a (.blocked e p) .coast
      | .pause | .halt | .revoke => s)
  | .idle =>
    (match r with
      | .halt => s.modAx a (fun x => { x with move := none })
      | .pause | .revoke | .block _ _ => s)
  | .backoff | .fault => s

/-- A stop request that reaches one axis alone. -/
def State.stopAxis (s : State) (a : AxisNo) (r : StopReq) : State := s.stopAxisFrom (s.dutyNow a) a r

/-- A stop request applied to several axes at once, such as both axes of a gang (R75): each stops from the effective duty it
had at the request, that of a leading axis still reduced by the skew (R40, R73). -/
def State.stopAll (s : State) (as : List AxisNo) (r : StopReq) : State :=
  as.foldl (fun t a => t.stopAxisFrom (s.dutyNow a) a r) s

/-! ### Runners that pause (R162 to R165) -/

/-- A reason joins the set. -/
def Reasons.add (rs : Reasons) : Reason → Reasons
  | .host => { rs with host := true }
  | .fault => { rs with fault := true }
  | .inhibit => { rs with inhibit := true }
  | .link => { rs with link := true }
  | .planError => { rs with planError := true }

/-- A reason is in the set. -/
def Reasons.has (rs : Reasons) : Reason → Bool
  | .host => rs.host
  | .fault => rs.fault
  | .inhibit => rs.inhibit
  | .link => rs.link
  | .planError => rs.planError

/-- The moves of a run that are DONE. -/
def Run.doneCount (run : Run) : Nat :=
  (run.moves.filter (fun m => match m.state with
    | .done _ => true
    | .pending | .ready | .active => false)).length

/-- A RUN_PAUSED report (R165). -/
def State.runPaused (s : State) (r : RunnerNo) (run : Run) : State :=
  s.report (.runPaused r run.slot run.reasons run.firstFault run.planError run.doneCount run.elapsed)

/-- The claimed axes that have an ACTIVE move or move as part of one (R164). -/
def State.busyAxes (s : State) (run : Run) : List AxisNo := run.claim.filter (fun a => (s.activeOn run a).isSome)

/-- A pause reason reaches a runner (R162 to R166, R170, R171): a RUNNING one enters PAUSING and stops its moving axes; a
PAUSED one reports a reason that it did not have. -/
def State.pauseFor (s : State) (r : RunnerNo) (why : Reason) : State :=
  match s.run r with
  | none => s
  | some run =>
    let run' := { run with reasons := run.reasons.add why }
    match run.state with
    | .running => (s.setRun r (some { run' with state := .pausing })).stopAll (s.busyAxes run) .pause
    | .pausing => s.setRun r (some run')
    | .paused => if run.reasons.has why then s else (s.setRun r (some run')).runPaused r run'
    | .halting => s

/-- A move of a run with its state changed. -/
def Run.setMove (run : Run) (i : Nat) (st : MoveState) : Run :=
  { run with moves := run.moves.modify i (fun m => { m with state := st }) }

/-- The ACTIVE move of a run on an axis returns to READY (R162). A run has at most one there (R158); were there several, all
would return. -/
def State.backToReady (s : State) (run : Run) (a : AxisNo) : Run :=
  { run with moves := run.moves.mapIdx (fun i m =>
      if m.state = .active && s.moveOn run i a then { m with state := .ready } else m) }

/-- A first fault of a claimed axis is handed to its runner (R162). -/
def State.tellRunnerFault (s : State) (r : RunnerNo) (a : AxisNo) (k : FaultKind) : State :=
  match s.run r with
  | none => s
  | some run =>
    if run.state = .halting then s
    else
      let run' := s.backToReady run a
      let run' := { run' with firstFault := if run'.firstFault.isNone then some (a, k) else run'.firstFault }
      (s.setRun r (some run')).pauseFor r .fault

/-- The end of a link operation is decided by a fault: the kind of the first one stays (R64, R81). -/
def faultResult (op : LinkOp) (k : FaultKind) : LinkOp :=
  match op.result with
  | some (.fault, some _) => op
  | _ => { op with result := some (.fault, some k), window := none }

/-- The owner of an axis is told of its first fault (R64 step 3). -/
def State.tellOwnerFault (s : State) (a : AxisNo) (k : FaultKind) : State :=
  match (s.ax a).owner with
  | .none => s
  | .link _ => s.modOp a (fun op => faultResult op k)
  | .runner r => s.tellRunnerFault r a k

/-! ### Backoff (R57 to R59, R77, R78) -/

/-- Both axes of a gang, or the one axis, enter BACKOFF in step BRAKE (R57, R77). -/
def State.beginBackoff (s : State) (a : AxisNo) (dir : Dir) (distance : Nat) : State :=
  (s.members a).foldl (fun t b => t.modAx b (fun x =>
    { x with motion := .backoff, phase := none, blanking := false, stop := none, noted := none,
             backoff := some { step := .brake, dir := dir, distance := distance, count := 0, faulted := decide (b = a),
                               rest := match x.stop with
                                 | some st => st.arrived
                                 | none => false } })) s

/-- The stop of one axis whose backoff is cut short: the faulted axis, and a partner with a fault record, toward FAULT, a
partner without one toward IDLE (R59, R78). The backoff outcome CUT_SHORT is that of an OBSTRUCTION record. -/
def Axis.cutShort (mode : StopMode) (arrived : Bool) (x : Axis) : Axis :=
  { x with motion := .stopping, blanking := false, backoff := none,
           fault := x.fault.map (fun f => if f.kind = .obstruction then { f with backoff := .cutShort } else f),
           stop := some { engageStop (if x.fault.isSome then .fault else .idle false) with mode := mode, arrived := arrived } }

/-- An event ends a backoff before its distance is covered: the axis it reaches stops in the mode given, a partner in joint
backoff quick-stops (R59, R78). Either that rests already, in BRAKE or FINISH, is at its destination (R72), so that the standstill
of the other ends the stop of both. -/
def State.cutBackoff (s : State) (a : AxisNo) (mode : StopMode) : State :=
  (s.members a).foldl (fun t b => t.modAx b (fun x =>
    match x.backoff with
    | none => x
    | some k => x.cutShort (if b = a then mode else .quick) k.rest)) s

/-! ### Faults (R61 to R64, R76) -/

/-- The stop of a fault's kind (R61). -/
def FaultKind.stopMode : FaultKind → StopMode
  | .obstruction | .noStop | .skew | .keepoutBreach => .quick
  | .overheat => .controlled
  | .short | .opened | .keepoutDeadlock | .blockTimeout | .noChannel => .coast

/-- The output of a stop under way is cut by a short trip (R63, R94). -/
def Stop.cut (st : Stop) (k : FaultKind) : Stop :=
  if k = .short then { st with dest := .fault, mode := .coast, ramping := false } else { st with dest := .fault }

/-- A fault of this kind ends a backoff in this step (R59, R74). -/
def endsBackoff (k : FaultKind) (step : BackoffStep) : Bool :=
  match k with
  | .short | .skew => true
  | .obstruction | .noStop | .keepoutBreach => decide (step = .reverse)
  | .opened | .keepoutDeadlock | .blockTimeout | .overheat | .noChannel => false

/-- What a fault does to the motion of its own axis (R63). A fault for which a backoff is due begins the backoff (R56). -/
def State.faultMotion (s : State) (a : AxisNo) (k : FaultKind) (due : Option Pinch) : State :=
  let x := s.ax a
  match due with
  | some z => s.beginBackoff a (flip z.dir) z.distance
  | none =>
    match x.motion with
    | .driving => s.startStop a .fault k.stopMode
    | .stopping => s.modAx a (fun x => { x with stop := x.stop.map (fun st => st.cut k) })
    | .backoff =>
      (match x.backoff with
        | some b => if endsBackoff k b.step then s.cutBackoff a k.stopMode else s
        | none => s)
    | .engaging => s.modAx a (fun x => { x with stop := some (engageStop .fault) })
    | .queued => (s.leaveQueue a).modAx a Axis.toFault
    | .checking => s.startStop a .fault .coast
    | .blocked | .idle => s.modAx a Axis.toFault
    | .fault => s

/-- The current move record of an axis is removed. -/
def Axis.dropMove (x : Axis) : Axis := { x with move := none }

/-- A partner stop that meets a stop under way, or an axis in ENGAGING: toward IDLE, its outcome and its move record dropped;
an axis bound for FAULT has a fault of its own and is not changed (R76). -/
def Axis.partnerStopped (x : Axis) : Axis :=
  match x.stop with
  | some st =>
    if st.dest = .fault then x else { x.dropMove with noted := none, stop := some { st with dest := .idle false } }
  | none => { x.dropMove with noted := none, stop := some (engageStop (.idle false)) }

/-- The partner stop (R76): toward IDLE without a fault record, the move record removed at the stop (log 53, DESIGN CHOICE). -/
def State.partnerStop (s : State) (p : AxisNo) : State :=
  match (s.ax p).motion with
  | .driving => (s.startStop p (.idle false) .quick).modAx p Axis.dropMove
  | .stopping | .engaging => s.modAx p Axis.partnerStopped
  | .queued => (s.leaveQueue p).modAx p (Axis.toIdle false)
  | .blocked => s.modAx p (Axis.toIdle false)
  | .checking => (s.startStop p (.idle false) .coast).modAx p Axis.dropMove
  | .idle => s.modAx p Axis.dropMove
  | .fault | .backoff => s

/-- The fault hands the partner stop on: a first fault, but for SKEW, NO_CHANNEL, and the two axes of a joint backoff (R76 to
R78). -/
def stopsPartner (k : FaultKind) (due : Bool) (m : Motion) : Bool :=
  !due && decide (k ≠ .skew) && decide (k ≠ .noChannel) && decide (m ≠ .backoff)

/-- A fault is raised on an axis (R61 to R64): the record is written or flagged, AXIS_FAULT is reported, the fault takes its
effect on the axis, and a first fault is handed to the owner and stops a gang partner. `due` is the pinch zone of a backoff
that is due (R56). -/
def State.raiseFault (s : State) (a : AxisNo) (k : FaultKind) (c : Cause) (entry : Option EntryNo) (due : Option Pinch) :
    State :=
  let x := s.ax a
  let first := x.fault.isNone
  let tag := s.ownerTag a
  let s := s.modAx a (fun x =>
    { x with fault := some (match x.fault with
      | none => ⟨k, c, x.pos, .none, entry, false⟩
      | some f => { f with further := true }) })
  let s := s.report (.axisFault a (!first) k c x.pos due.isSome entry tag)
  let s := s.faultMotion a k due
  if first then
    let s := s.tellOwnerFault a k
    if stopsPartner k due.isSome x.motion then
      match s.partner a with
      | none => s
      | some p => s.partnerStop p
    else s
  else s

/-- NO_CHANNEL on an axis, or on both axes of a gang (R76, R96), the lower-numbered first. -/
def State.raiseNoChannel (s : State) (as : List AxisNo) (c : ChanNo) : State :=
  as.foldl (fun t a => t.raiseFault a .noChannel (.channel c) none none) s

/-- SKEW on both axes of a gang (R74), the lower-numbered first. -/
def State.raiseSkew (s : State) (as : List AxisNo) (n : Nat) : State :=
  as.foldl (fun t a => t.raiseFault a .skew (.skew n) none none) s

end Sys2Proof.Machine
end

