-- ==== Sys2Proof/Machine/Moves.lean ====
section
/-! DEFINITION. How a move begins, waits and ends: the keep-out question, the grant queue, BLOCKED, the gates and completions
of runs, activation, restart and the activation pass (chapters 02, 05, 07, 08, 09). -/

namespace Sys2Proof.Machine

/-! ### The keep-out question (R121 to R123) -/

/-- The entry names the axis. -/
def KeepoutEntry.names (e : KeepoutEntry) (a : AxisNo) : Bool := decide (e.axisA = a) || decide (e.axisB = a)

/-- The other axis of the entry. -/
def KeepoutEntry.other (e : KeepoutEntry) (a : AxisNo) : AxisNo := if e.axisA = a then e.axisB else e.axisA

/-- The region of the entry for an axis it names. -/
def KeepoutEntry.region (e : KeepoutEntry) (a : AxisNo) : Nat × Nat := if e.axisA = a then (e.loA, e.hiA) else (e.loB, e.hiB)

/-- An axis occupies its region of an entry, widened by a guard (R121). -/
def State.occupied (s : State) (e : KeepoutEntry) (a : AxisNo) (guard : Nat) : Bool :=
  occupies (e.region a).1 (e.region a).2 guard (s.ax a).pos

/-- An enabled entry is in conflict while both of its axes occupy their guarded regions (R121). -/
def State.conflict (s : State) (e : KeepoutEntry) : Bool :=
  e.enabled && s.occupied e e.axisA e.guard && s.occupied e e.axisB e.guard

/-- A movement in one of these directions is deeper with respect to the axis's region of the entry (R122). -/
def State.deeperIn (s : State) (e : KeepoutEntry) (a : AxisNo) (dirs : List Dir) : Bool :=
  dirs.any (fun d => isDeeper (s.travel a) (e.region a).1 (e.region a).2 (s.ax a).pos d)

/-- The question of R123: the lowest-numbered enabled entry in conflict in which the movement would be deeper, with its other
axis; none where the answer is clear. -/
def State.ask (s : State) (a : AxisNo) (dirs : List Dir) : Option (EntryNo × AxisNo) :=
  allEntries.findSome? (fun n => match s.entries[n] with
    | none => none
    | some e => if e.names a && s.conflict e && s.deeperIn e a dirs then some (n, e.other a) else none)

/-- The drive direction of a move from the present position (R23, R71): toward the target from the axis's own side, which
is the common direction of a gang unless the target lies between its axes; an axis that stands at the target takes its
partner's. A HOME drives toward the reference end (R15). -/
def State.moveDir (s : State) (a : AxisNo) (m : MoveRec) : Option Dir :=
  let x := s.ax a
  if x.homing then x.config.map AxisConfig.refEnd
  else
    match towards x.pos m.target m.endFlag with
    | some d => some d
    | none =>
      match s.partner a with
      | none => none
      | some b => towards (s.ax b).pos m.target m.endFlag

/-- The directions an axis is about to drive in (R122): those of its move, or both for a CHECK not yet pulsing. A single axis
that stands exactly at a target without end flag has none, so that no movement of it is deeper (log 38, DESIGN CHOICE). -/
def State.wantDirs (s : State) (a : AxisNo) : List Dir :=
  let x := s.ax a
  if x.testing then [.low, .high]
  else match x.move with
    | none => []
    | some m => (s.moveDir a m).toList

/-- The directions judged for an axis at a position change (R122, R124). -/
def State.nowDirs (s : State) (a : AxisNo) : List Dir :=
  let x := s.ax a
  match x.motion with
  | .driving => [x.driveDir]
  | .backoff =>
    (match x.backoff with
      | some k => if k.step = .reverse then [k.dir] else []
      | none => [])
  | .checking => (x.check.bind CheckRec.pulse).toList
  | .engaging | .queued | .blocked | .idle | .stopping | .fault => s.wantDirs a

/-- The question asked for every axis of a list, each in the directions it is about to drive in (R71, R123). -/
def State.askAll (s : State) (as : List AxisNo) : List (AxisNo × Option (EntryNo × AxisNo)) :=
  as.map (fun a => (a, s.ask a (s.wantDirs a)))

/-- The question is answered blocked for some axis of a list (R75, R123). -/
def State.anyBlocked (s : State) (as : List AxisNo) : Bool := (s.askAll as).any (fun p => p.2.isSome)

/-! ### Joining the grant queue (R88, R97) -/

/-- Forced creep, re-evaluated at a start: set for all where some reference is not VALID; once set it stays (R37, R71). -/
def State.reevaluateCreep (s : State) (as : List AxisNo) : State :=
  if as.any (fun a => decide ((s.ax a).ref ≠ .valid)) then
    s.modAll as (fun x => { x with move := x.move.map (fun m => { m with forcedCreep := true }) })
  else s

/-- The drive stage starts to wake at the first join while it is OFF in ACTIVE (R97, R193). -/
def State.wakeStage (s : State) : State :=
  if s.power.stage = .off ∧ s.power.state = .active then { s with power := { s.power with stage := .waking } } else s

/-- The RETIRED channels in the reach of the axes. -/
def State.retiredIn (s : State) (as : List AxisNo) : List ChanNo :=
  allChans.filter (fun c => decide ((s.ch c).state = .retired) && as.any (fun a => reaches (s.reach a) c))

/-- NO_CHANNEL at a failed join (R88, R96): it names the retired channel of the reach, one of them freely chosen where there
are several (log 2). -/
def State.failJoin (s : State) (as : List AxisNo) : State :=
  let s := s.modAll as (fun x => { x with motion := .idle, stop := none, backoff := none, link := none })
  match s.retiredIn as with
  | [] => s.raiseNoChannel as 0
  | [c] => s.raiseNoChannel as c
  | c :: cs =>
    let n := (c :: cs).length
    ({ s with freeIndex := s.freeIndex + 1 }).raiseNoChannel as
      (((c :: cs)[Config.retiredPick s.freeIndex n % n]?).getD c)

/-- The stamp of an axis's last join that was no return from a hold (R112). -/
def Axis.stamp (x : Axis) : Nat :=
  match x.check, x.move with
  | some k, _ => k.stamp
  | none, some m => m.stamp
  | none, none => 0

/-- The priority of an axis's request: that of its move record, 1 for a CHECK (R88). -/
def Axis.priority (x : Axis) : Nat :=
  match x.check, x.move with
  | some _, _ => 1
  | none, some m => m.priority
  | none, none => 1

/-- An axis whose request joins the queue (R33, R110). -/
def Axis.queuedAt (stamp : Nat) (held : Bool) (x : Axis) : Axis :=
  { x with motion := .queued, phase := none, held := held, blanking := false, stop := none, backoff := none, noted := none,
           link := none, move := x.move.map (fun m => { m with stamp := stamp, reversed := false }),
           check := x.check.map (fun k => { k with stamp := stamp }) }

/-- A request joins the grant queue, held with its old stamp or with a new one, and a grant pass follows; where the reach
lacks channels NO_CHANNEL is raised instead (R88, R91). -/
def State.joinQueue (s : State) (as : List AxisNo) (held : Bool) : State :=
  if s.reachable as then
    match as with
    | [] => s
    | a :: rest =>
      let x := s.ax a
      let stamp := if held then x.stamp else s.stamps
      let s := if held then s else { s with stamps := s.stamps + 1 }
      let s := s.modAll as (Axis.queuedAt stamp held)
      let q : GrantRequest := ⟨a, rest.head?, x.priority, stamp, (as.map s.draw).sum, held⟩
      (State.wakeStage { s with queue := insertRequest q s.queue }.notIdle).grantPass
  else (s.failJoin as).passSince s

/-! ### BLOCKED (R125, R129, R133) -/

/-- A BLOCKED report (R133). -/
def State.blockedReport (s : State) (ev : BlockEvent) (a : AxisNo) (l : BlockLink) : State :=
  s.report (.blocked ev a l.entry l.partner l.copy (s.ax a).pos (s.ax l.partner).pos (s.ownerTag a))

/-- The deadlock search of R129 from axis `x`, at axis `y`, over at most the steps left. -/
def State.chase (s : State) (x : AxisNo) : Nat → List AxisNo → AxisNo → Bool
  | 0, _, _ => false
  | n + 1, visited, y =>
    if y = x then true
    else if visited.contains y then false
    else match (s.ax y).motion, (s.ax y).link with
      | .blocked, some l => s.chase x n (y :: visited) l.partner
      | _, _ => false

/-- The deadlock search from an axis that took or changed a link of its own (R129). -/
def State.searchDeadlock (s : State) (a : AxisNo) : State :=
  match (s.ax a).motion, (s.ax a).link with
  | .blocked, some l =>
    if !l.copy && s.chase a 12 [] l.partner then
      s.raiseFault a .keepoutDeadlock (.partner l.partner) (some l.entry) none
    else s
  | _, _ => s

/-- The link an axis takes from the answers for its gang: its own, or a copy of its partner's (R75, R125). `timer` is the
time it has spent in BLOCKED (R130). -/
def linkOf (own : Option (EntryNo × AxisNo)) (copied : EntryNo × AxisNo) (timer : Nat) : BlockLink :=
  match own with
  | some (e, p) => ⟨e, p, false, timer⟩
  | none => ⟨copied.1, copied.2, true, timer⟩

/-- Axes whose question is answered blocked enter BLOCKED: links, reports, then the deadlock searches of the axes with a
link of their own (R125). Of a gang both links and reports are made before either search, and the lower-numbered axis searches
first (log 42, DESIGN CHOICE). Where no answer blocks nothing changes. The caller makes the grant pass (log 11). -/
def State.blockEntry (s : State) (as : List AxisNo) : State :=
  let answers := s.askAll as
  match answers.findSome? Prod.snd with
  | none => s
  | some copied =>
    let s := answers.foldl (fun t p =>
      let l := linkOf p.2 copied 0
      (t.modAx p.1 (fun x =>
        { x with motion := .blocked, phase := none, held := false, blanking := false, stop := none, backoff := none,
                 noted := none, link := some l })).blockedReport .block p.1 l) s.notIdle
    answers.foldl (fun t p => if p.2.isSome then t.searchDeadlock p.1 else t) s

/-- Axes enter BLOCKED, with the grant pass that a deadlock's departures cause (R91, R125, R129). -/
def State.enterBlocked (s : State) (as : List AxisNo) : State := (s.blockEntry as).passSince s

/-- A move, HOME or CHECK that is about to drive asks, and goes to BLOCKED or joins the queue (R33, R66, R71). -/
def State.startOrBlock (s : State) (as : List AxisNo) : State :=
  if s.anyBlocked as then s.enterBlocked as else s.joinQueue as false

/-! ### Gates, marks and completion (R142 to R150, R157, R160, R161) -/

/-- The moves of a run after its gates are judged by `f`: only a PENDING move has gates left to judge, and one whose gates
are all OPEN becomes READY (R142, R157). `i` is the index of the first move of the list. -/
def State.judgeMoves (s : State) (run : Run) (f : Gate → GateState → GateState) : Nat → List RunMove → List RunMove
  | _, [] => []
  | i, m :: ms =>
    (match m.state with
      | .pending =>
        let gates := List.zipWith f (((s.moveEntry run i).map PlanEntry.gates).getD []) m.gates
        { state := if gates.all (fun g => decide (g = .opened)) then .ready else .pending, gates := gates }
      | .ready | .active | .done _ => m) :: s.judgeMoves run f (i + 1) ms

/-- The gates of one runner judged, in every state but FREE and HALTING (R157). -/
def State.judgeRun (s : State) (r : RunnerNo) (f : Gate → GateState → GateState) : State :=
  match s.run r with
  | none => s
  | some run =>
    if run.state = .halting then s else s.setRun r (some { run with moves := s.judgeMoves run f 0 run.moves })

/-- The gates of every runner judged. -/
def State.judgeAll (s : State) (f : Gate → GateState → GateState) : State :=
  allRunners.foldl (fun t r => t.judgeRun r f) s

/-- The WHEN condition of a gate holds for a position of an axis (R144). -/
def whenHolds (a : AxisNo) (pos : Option Nat) : Gate → Bool
  | .whenGe b p => decide (b = a) && (match pos with
    | some q => decide (p ≤ q)
    | none => false)
  | .whenLe b p => decide (b = a) && (match pos with
    | some q => decide (q ≤ p)
    | none => false)
  | .after _ _ | .mark _ => false

/-- A closed gate opens where its condition holds; an OPEN or TIMING one stays as it is (R142). -/
def openIf (cond : Gate → Bool) (g : Gate) (st : GateState) : GateState :=
  match st with
  | .closed => if cond g then .opened else .closed
  | .timing n => .timing n
  | .opened => .opened

/-- An AFTER gate at the completion of move `k` (R143). -/
def afterDone (k : Nat) (g : Gate) (st : GateState) : GateState :=
  match st, g with
  | .closed, .after j d => if j = k then (if d = 0 then .opened else .timing d) else .closed
  | st, _ => st

/-- A gate is a MARK gate that names a mark. -/
def namesMark (m : MarkNo) : Gate → Bool
  | .mark k => decide (k = m)
  | .after _ _ | .whenGe _ _ | .whenLe _ _ => false

/-- A mark is set. -/
def State.markSet (s : State) (m : MarkNo) : Bool := s.marks.getLsbD m.val

/-- A mark becomes set; a change from clear is handed to every runner (R148, R150). -/
def State.setMark (s : State) (m : MarkNo) : State :=
  if s.markSet m then s
  else ({ s with marks := s.marks ||| BitVec.ofNat 8 (1 <<< m.val) }).judgeAll (openIf (namesMark m))

/-- The first judging of a run (R142). -/
def State.firstJudging (s : State) (r : RunnerNo) : State :=
  s.judgeRun r (openIf (fun g => match g with
    | .mark m => s.markSet m
    | .whenGe a _ | .whenLe a _ => whenHolds a (s.ax a).pos g
    | .after _ _ => false))

/-- A run ends (R161): RUN_END, the claims released, escalation cleared, the runner FREE. -/
def State.endRun (s : State) (r : RunnerNo) (kind : EndKind) : State :=
  match s.run r with
  | none => s
  | some run =>
    ((s.report (.runEnd r run.slot kind run.elapsed run.doneCount run.moves.length run.firstFault)).modAll run.claim
      (fun x => { x with owner := .none, escalated := false })).setRun r none

/-- Every move of the run is DONE. -/
def Run.allDone (run : Run) : Bool := decide (run.doneCount = run.moves.length)

/-- The set-mark of a move that is DONE is set (R148, R160 step 2). -/
def State.setDoneMark (s : State) (run : Run) (i : Nat) : State :=
  match (s.moveEntry run i).bind PlanEntry.setMark with
  | none => s
  | some m => s.setMark m

/-- A move of a run is complete (R160): DONE, its mark, MOVE_END, its AFTER gates; the run ends when it was the last. A
HALTING runner takes the first three steps only. The activation pass of step 5 is the caller's. RUN_END COMPLETE joins here, and
so before the skew check of a gang that comes to rest at this standstill (log 54, DESIGN CHOICE). -/
def State.completeMove (s : State) (r : RunnerNo) (i : Nat) (o : MoveOutcome) (fins : List FinalPos) : State :=
  match s.run r with
  | none => s
  | some run =>
    let s := s.setRun r (some (run.setMove i (.done o)))
    let s := s.setDoneMark run i
    let s := s.report (.moveEnd r run.slot i o fins run.elapsed)
    if run.state = .halting then s
    else
      let s := s.judgeRun r (afterDone i)
      match s.run r with
      | none => s
      | some run' => if run'.allDone then s.endRun r .complete else s

/-- The final positions of an operation: of the axis it names, then of its gang partner (R79, R160). -/
def State.finals (s : State) (named : AxisNo) : List FinalPos :=
  (named :: (s.partner named).toList).map (fun a =>
    ⟨a, (s.ax a).pos, ((s.ax a).move.map MoveRec.corrections).getD 0⟩)

/-- The owner of an axis is told of the outcome of its move (R46, R79). A link operation keeps a decided end. -/
def State.tellOutcome (s : State) (a : AxisNo) (o : MoveOutcome) (fins : List FinalPos) : State :=
  match (s.ax a).owner with
  | .none => s
  | .link _ => s.modOp a (fun op => if op.result.isSome then op else { op with result := some (o, none), window := none })
  | .runner r =>
    match (s.run r).bind (fun run => s.activeOn run a) with
    | none => s
    | some i => s.completeMove r i o fins

/-! ### Activation and restart (R24, R30 to R33, R71, R158) -/

/-- What a target resolves to (R31). -/
inductive Resolved where
  | target (t : Nat) (endFlag : Bool)
  | error (c : PlanCause)
  deriving DecidableEq, Repr

/-- A target resolved against the named axis; a gang needs a position on both axes (R31, R71). -/
def State.resolve (s : State) (a : AxisNo) (t : Target) : Resolved :=
  match t with
  | .endLow => .target 0 true
  | .endHigh => .target (s.travel a) true
  | .abs _ | .stop _ | .rel _ =>
    if (s.members a).any (fun b => decide ((s.ax b).ref = .unknown)) then .error .unreferenced
    else
      match t, (s.ax a).config, (s.ax a).pos with
      | .abs p, _, _ => if p ≤ s.travel a then .target p false else .error .badTarget
      | .stop k, some c, _ =>
        (match c.stops[k] with
          | some p => .target p false
          | none => .error .badTarget)
      | .rel d, _, some p =>
        if 0 ≤ (p : Int) + d ∧ (p : Int) + d ≤ s.travel a then .target ((p : Int) + d).toNat false else .error .badTarget
      | _, _, _ => .error .badTarget

/-- Every position lies within a tolerance of a target (R32, R71). -/
def State.within (s : State) (as : List AxisNo) (target tolerance : Nat) : Bool :=
  as.all (fun a => match (s.ax a).pos with
    | some p => decide (apart target p ≤ tolerance)
    | none => false)

/-- Each axis takes its current move record (R33, R71): corrections 0, forced creep by R37. -/
def State.latch (s : State) (as : List AxisNo) (named : AxisNo) (target : Nat) (endFlag : Bool) (priority : Nat)
    (index : Fin 8) : State :=
  let m : MoveRec := { named := named, target := target, endFlag := endFlag, priority := priority, bank := s.store.active,
                       index := index, profile := s.profile s.store.active index, forcedCreep := false, corrections := 0,
                       stamp := 0, reversed := false }
  (s.modAll as (fun x => { x with move := some m })).reevaluateCreep as

/-- A plan error (R163), with the grant pass that the stops of its pause cause (R91). -/
def State.planFails (s : State) (r : RunnerNo) (i : Nat) (c : PlanCause) : State :=
  match s.run r with
  | none => s
  | some run => ((s.setRun r (some { run with planError := some (i, c) })).pauseFor r .planError).passSince s

/-- A runner asks the axis unit to activate a READY move (R30 to R33, R71, R158). -/
def State.activate (s : State) (r : RunnerNo) (run : Run) (i : Nat) (e : PlanEntry) : State :=
  let as := s.members e.axis
  match s.resolve e.axis e.target with
  | .error c => s.planFails r i c
  | .target t endFlag =>
    if !endFlag && s.within as t (s.profile s.store.active e.profile).tolerance then
      s.completeMove r i .already ((s.finals e.axis).map (fun f => { f with corrections := 0 }))
    else ((s.setRun r (some (run.setMove i .active))).latch as e.axis t endFlag e.priority e.profile).startOrBlock as

/-- A move whose target has no end flag and lies within the latched tolerance of every position: it completes with DONE
without motion (R24, R110, R127). -/
def State.standsAtTarget (s : State) (as : List AxisNo) : Bool :=
  as.all (fun a => match (s.ax a).move, (s.ax a).pos with
    | some m, some p => !m.endFlag && !(s.ax a).homing && decide (apart m.target p ≤ m.profile.tolerance)
    | _, _ => false)

/-- The axis that the move of an axis names. -/
def State.namedOf (s : State) (a : AxisNo) : AxisNo :=
  match (s.ax a).owner, (s.ax a).move with
  | .link op, _ => op.named
  | _, some m => m.named
  | _, none => a

/-- The axes of a move come to IDLE, their records are removed, and the owner is told of the outcome (R46, R79). The grant pass
for the end of their charge comes before the owner is told (log 48, DESIGN CHOICE). -/
def State.finish (s : State) (as : List AxisNo) (o : MoveOutcome) : State :=
  match as with
  | [] => s
  | a :: _ =>
    let fins := s.finals (s.namedOf a)
    ((s.modAll as (Axis.toIdle false)).passSince s).tellOutcome a o fins

/-- A runner restarts a suspended move (R24, R167). -/
def State.restart (s : State) (e : PlanEntry) : State :=
  let as := s.members e.axis
  let s := s.reevaluateCreep as
  if s.standsAtTarget as then s.finish as .done else s.startOrBlock as

/-- A move of a RUNNING runner that the activation pass takes up: READY with no ACTIVE move on its axes, or suspended; its
axes are IDLE, and none is locked out (R30, R158, R159, R167). -/
def State.eligible (s : State) (run : Run) (i : Nat) : Bool :=
  match s.moveEntry run i, run.moves[i]? with
  | some e, some m =>
    let as := s.members e.axis
    as.all (fun a => decide ((s.ax a).motion = .idle) && !(s.ax a).lockout) &&
      (match m.state with
        | .ready => as.all (fun a => (s.activeOn run a).isNone)
        | .active => true
        | .pending | .done _ => false)
  | _, _ => false

/-- The next move an activation pass takes up: of the lowest-numbered RUNNING runner (log 45, DESIGN CHOICE), the lowest index
(R158), among its READY and its suspended moves together, whichever event made the pass due (log 62, DESIGN CHOICE). -/
def State.nextMove (s : State) : Option (RunnerNo × Run × Nat) :=
  allRunners.findSome? (fun r => match s.run r with
    | none => none
    | some run =>
      if run.state = .running then
        ((List.range run.moves.length).find? (fun i => s.eligible run i)).map (fun i => (r, run, i))
      else none)

/-- One request of an activation pass. -/
def State.takeUp (s : State) (r : RunnerNo) (run : Run) (i : Nat) : State :=
  match s.moveEntry run i, run.moves[i]? with
  | some e, some m => if m.state = .active then s.restart e else s.activate r run i e
  | _, _ => s

/-- Activation passes until no move is left to take up (R158). Each request takes one move from READY or suspended, so the
moves of three plans bound the requests. -/
def State.passes : Nat → State → State
  | 0, s => s
  | n + 1, s =>
    match s.nextMove with
    | none => s
    | some (r, run, i) => State.passes n (s.takeUp r run i)

/-- The activation passes that are due (R158); not in INIT, SLEEP or RESETTING, where no runner is RUNNING (R172, R173). -/
def State.engine (s : State) : State := State.passes 128 s

/-! ### Unblocking (R126, R127) -/

/-- A blocked or stopped operation goes on once nothing blocks it (R127): a move at its target completes with DONE, also a
COUNTS jog reversed while BLOCKED (log 34, DESIGN CHOICE); any other joins the queue with a new stamp. -/
def State.proceed (s : State) (as : List AxisNo) : State :=
  if s.standsAtTarget as then (s.finish as .done).engine else (s.reevaluateCreep as).joinQueue as false

/-- Axes whose re-evaluation finds nothing that blocks them unblock (R127). Of a gang the lower-numbered axis reports CLEAR first:
R133 orders only the reports on entering BLOCKED (log 42, DESIGN CHOICE). -/
def State.unblock (s : State) (as : List AxisNo) : State :=
  (as.foldl (fun t a => match (t.ax a).link with
    | none => t
    | some l => (t.modAx a (fun x => { x with motion := .idle, link := none })).blockedReport .clear a l) s).proceed as

/-- A BLOCKED axis, with its gang partner, is re-evaluated (R75, R126). -/
def State.reevaluate (s : State) (a : AxisNo) : State :=
  if (s.ax a).motion = .blocked then
    let as := s.members a
    let answers := s.askAll as
    match answers.findSome? Prod.snd with
    | none => s.unblock as
    | some copied =>
      let changed := answers.filter (fun p => match (s.ax p.1).link with
        | none => false
        | some l =>
          let l' := linkOf p.2 copied l.timer
          decide (l'.entry ≠ l.entry ∨ l'.partner ≠ l.partner ∨ l'.copy ≠ l.copy))
      let t := changed.foldl (fun t p => match (t.ax p.1).link with
        | none => t
        | some l =>
          let l' := linkOf p.2 copied l.timer
          (t.modAx p.1 (fun x => { x with link := some l' })).blockedReport .change p.1 l') s
      (changed.foldl (fun t p => if p.2.isSome then t.searchDeadlock p.1 else t) t).passSince s
  else s

end Sys2Proof.Machine
end

