-- ==== Sys2Proof/Machine/Position.lean ====
section
/-! DEFINITION. What a position change does (R11): breach, keep-out blocks, re-evaluation, WHEN gates, skew; and how a drive
starts and passes through its phases (chapters 01, 02, 04, 07). -/

namespace Sys2Proof.Machine

/-! ### Keep-out at a position change (R124, R126, R128) -/

/-- The axis is one that a position change may block (R124). -/
def State.takesBlock (s : State) (a : AxisNo) : Bool :=
  let x := s.ax a
  match x.motion with
  | .driving | .queued | .checking => true
  | .engaging => x.stop.isNone
  | .backoff =>
    (match x.backoff with
      | some k => decide (k.step = .reverse)
      | none => false)
  | .idle | .stopping | .blocked | .fault => false

/-- A keep-out block takes its effect on an axis, and on its gang partner (R75, R124). -/
def State.blockGang (s : State) (a : AxisNo) (n : EntryNo) (p : AxisNo) : State :=
  let as := s.members a
  match (s.ax a).motion with
  | .queued => (s.stopAll as (.block n p)).blockEntry as
  | .backoff => s.cutBackoff a .quick
  | .idle | .engaging | .driving | .stopping | .blocked | .fault | .checking => s.stopAll as (.block n p)

/-- The blocks of one entry at a position change (R124). Of two axes that it blocks together, axis A of the entry is taken
first (log 41, DESIGN CHOICE). -/
def State.blocksOf (s : State) (n : EntryNo) (e : KeepoutEntry) : State :=
  if s.conflict e then
    [e.axisA, e.axisB].foldl (fun t x =>
      if t.takesBlock x && t.deeperIn e x (t.nowDirs x) then t.blockGang x n (e.other x) else t) s
  else s

/-- The blocks of a position change: every enabled entry naming the moved axis, the lowest-numbered first, so that each axis
is blocked by the lowest-numbered entry in which its movement is deeper (R124). Several axes that one change blocks through
different entries are taken, with their stops, reports and deadlock searches, in the order of the entries, not of their own numbers
(log 41, DESIGN CHOICE). -/
def State.blocks (s : State) (a : AxisNo) : State :=
  allEntries.foldl (fun t n => match t.entries[n] with
    | none => t
    | some e => if e.enabled && e.names a then t.blocksOf n e else t) s

/-- The position lies in an unguarded region (R121). -/
def insideRegion (lo hi : Nat) : Option Nat → Bool
  | none => false
  | some p => decide (lo ≤ p) && decide (p ≤ hi)

/-- The axis is one whose count can breach an entry (R128). -/
def Axis.canBreach (x : Axis) : Bool :=
  match x.motion with
  | .engaging | .driving | .stopping => x.move.isSome && !x.testing
  | .backoff => true
  | .idle | .queued | .blocked | .fault | .checking => false

/-- The lowest-numbered entry that a count breaches, with its other axis (R128). -/
def State.breached (s : State) (a : AxisNo) (old : Option Nat) : Option (EntryNo × AxisNo) :=
  allEntries.findSome? (fun n => match s.entries[n] with
    | none => none
    | some e =>
      let g := e.region a
      if e.enabled && e.names a && old.isSome && !insideRegion g.1 g.2 old && insideRegion g.1 g.2 (s.ax a).pos &&
          s.occupied e (e.other a) 0 then some (n, e.other a)
      else none)

/-- The breach check of a count (R128). -/
def State.breach (s : State) (a : AxisNo) (old : Option Nat) : State :=
  if (s.ax a).canBreach then
    match s.breached a old with
    | none => s
    | some (n, p) => s.raiseFault a .keepoutBreach (.partner p) (some n) none
  else s

/-- An axis is named together with another by an enabled entry, or is that axis (R126). -/
def State.related (s : State) (a x : AxisNo) : Bool :=
  decide (x = a) || allEntries.any (fun n => match s.entries[n] with
    | none => false
    | some e => e.enabled && e.names a && e.names x)

/-- The BLOCKED axes that a position change or a standstill of an axis concerns are re-evaluated (R126), in increasing axis
number (log 40, DESIGN CHOICE). -/
def State.reevaluateRelated (s : State) (a : AxisNo) : State :=
  allAxes.foldl (fun t x => if t.related a x then t.reevaluate x else t) s

/-! ### Skew (R74, R82) -/

/-- The gang is in motion, and its operation is neither a HOME nor a CHECK (R74). The stops that a RESET leaves after a HOME are of
no operation any more, so that SKEW is checked on them; those of a CHECK keep its record and stay exempt (log 65, DESIGN CHOICE). -/
def Axis.inGangMotion (x : Axis) : Bool :=
  !x.homing && !x.testing &&
    (match x.motion with
      | .engaging | .driving | .stopping | .backoff => true
      | .idle | .queued | .blocked | .fault | .checking => false)

/-- IDLE, QUEUED, BLOCKED or FAULT: the states of R18 and R82. -/
def Motion.still : Motion → Bool
  | .idle | .queued | .blocked | .fault => true
  | .engaging | .driving | .stopping | .backoff | .checking => false

/-- The skew check of a gang: SKEW in motion, once in each motion (R74); SUSPECT references at rest, not in SLEEP (R82). At rest it
is made whatever the operation, a HOME that waits or has failed included (log 64, DESIGN CHOICE). -/
def State.checkSkew (s : State) (a : AxisNo) : State :=
  match s.partner a with
  | none => s
  | some b =>
    match s.skew a b with
    | none => s
    | some n =>
      if n ≤ s.skewLimit a b then s
      else if (s.ax a).inGangMotion || (s.ax b).inGangMotion then
        if (s.ax a).skewRaised then s
        else
          ((s.modAll (s.members a) (fun x => { x with skewRaised := true })).raiseSkew (s.members a) n).passSince s
      else if (s.ax a).motion.still && (s.ax b).motion.still && decide (s.power.state ≠ .sleep) then
        (s.members a).foldl (fun t x => t.suspect x .skew) s
      else s

/-! ### The position change (R11) -/

/-- A position change of an axis is handed on (R11): to the keep-out monitor, to the WHEN gates of every run, and to the skew
check of its gang (log 7). The grant pass for what the stops free stands before the re-evaluation (log 48). `old` is the position
before; a breach is found only at a count. -/
def State.positionChange (s : State) (a : AxisNo) (old : Option Nat) (count : Bool) : State :=
  let t := if count then s.breach a old else s
  let s := ((t.blocks a).passSince s).reevaluateRelated a
  let s := (s.judgeAll (openIf (whenHolds a (s.ax a).pos))).engine
  s.checkSkew a

/-! ### Starts of drive and phases (R34, R35, R44, R53, R57) -/

/-- The phase of a drive after its distances changed, and the cut of the drive (R35, R44). A HOME keeps CREEP (R15). -/
def State.advance (s : State) (a : AxisNo) : State :=
  let x := s.ax a
  match x.move, x.phase with
  | some m, some ph =>
    if x.homing then s
    else
      let reached (n : Nat) : Bool := match x.remaining with
        | some r => decide (r ≤ n)
        | none => false
      if !m.endFlag && reached (if ph = .correct then m.profile.tolerance else m.profile.coast) then
        s.startStop a (.completion .correct) .coast
      else
        let ph := if ph = .ramp ∧ m.profile.rampUp ≤ x.rampCounts then .cruise else ph
        let ph := if (ph = .ramp ∨ ph = .cruise) ∧ reached m.profile.creepZone then .creep else ph
        s.modAx a (fun x => { x with phase := some ph })
  | _, _ => s

/-- An axis enters DRIVING in phase RAMP, a HOME in CREEP, in its drive direction, with fresh blanking (R15, R34, R53). -/
def State.enterDriving (s : State) (a : AxisNo) : State :=
  let dir := match (s.ax a).move with
    | some m => (s.moveDir a m).getD (s.ax a).driveDir
    | none => (s.ax a).driveDir
  (s.modAx a (fun x =>
    { x with motion := .driving, phase := some (if x.homing then .creep else .ramp), rampCounts := 0, blanking := true,
             stop := none, driveDir := dir, noStop := false, stalled := false, noted := none })).advance a

/-- A correction begins (R44). -/
def State.enterCorrect (s : State) (a : AxisNo) (dir : Dir) : State :=
  s.modAx a (fun x =>
    { x with motion := .driving, phase := some .correct, rampCounts := 0, blanking := true, stop := none, driveDir := dir,
             noStop := false, move := x.move.map (fun m => { m with corrections := m.corrections + 1 }) })

/-- The reversing step of a backoff begins (R57). -/
def State.enterReverse (s : State) (a : AxisNo) : State :=
  s.modAx a (fun x =>
    match x.backoff with
    | none => x
    | some k => { x with driveDir := k.dir, blanking := true, noStop := false,
                         backoff := some { k with step := .reverse, count := 0, rest := false } })

/-- A winding test begins with the pulse toward HIGH (R67). -/
def State.enterChecking (s : State) (a : AxisNo) : State :=
  s.modAx a (fun x =>
    { x with motion := .checking, stop := none, driveDir := .high,
             check := x.check.map (fun k => { k with pulse := some .high, peakHigh := 0, peakLow := 0 }) })

/-! ### A reference established at a bound (R12, R15) -/

/-- Position, overrun, lash and reference set at the bound in a direction (R12, R15). -/
def State.setAtBound (s : State) (a : AxisNo) (d : Dir) : State :=
  let p := boundAt (s.travel a) d
  s.modAx a (fun x => { x with pos := some p, overrun := 0, lashDir := d, lashRem := 0, ref := .valid })

/-- The re-synchronising stall (R12), with its REFERENCE report where the reference changed. -/
def State.resync (s : State) (a : AxisNo) (d : Dir) : State :=
  let old := (s.ax a).ref
  let s := s.setAtBound a d
  if old = .valid then s else s.report (.reference a old .valid .resync (s.ax a).pos)

/-- A HOME reaching its stall establishes the reference (R14, R15); the stall detected, no search limit is left to reach
(R16). -/
def State.homeAt (s : State) (a : AxisNo) (d : Dir) : State :=
  let old := (s.ax a).ref
  let s := (s.setAtBound a d).modAx a (fun x => { x with stalled := true })
  s.report (.reference a old .valid .home (s.ax a).pos)

/-- A position set at a bound is handed on where it changed (R11, R12). -/
def State.handOn (s : State) (a : AxisNo) (old : Option Nat) : State :=
  if (s.ax a).pos = old then s else s.positionChange a old false

/-! ### Counts (R7 to R10, R16, R18) -/

/-- A hand-move count opens or extends the episode (R18). -/
def State.handCount (s : State) (a : AxisNo) (d : Dir) : State :=
  if (s.ax a).motion.still then
    s.modAx a (fun x =>
      { x with episode := some (match x.episode with
        | none => ⟨signed d, false⟩
        | some e => ⟨e.net + signed d, false⟩) })
  else s

/-- The search distance of a HOME (R16): counted while it drives or stops, toward the reference end less the other way. -/
def State.searchCount (s : State) (a : AxisNo) (d : Dir) : State :=
  let x := s.ax a
  if x.homing && (decide (x.motion = .driving) || decide (x.motion = .stopping)) then
    let e := (x.config.map AxisConfig.refEnd).getD .low
    s.modAx a (fun x => { x with search := x.search + (if d = e then 1 else -1) })
  else s

/-- The HOME search limit is reached without a stall (R16). AXIS_FAULT is queued before REFERENCE (log 49, DESIGN CHOICE). -/
def State.checkSearch (s : State) (a : AxisNo) : State :=
  let x := s.ax a
  if x.homing && !x.noStop && !x.stalled && (decide (x.motion = .driving) || decide (x.motion = .stopping)) &&
      decide ((searchLimit (s.travel a) : Int) ≤ x.search) then
    (((s.modAx a (fun x => { x with noStop := true })).raiseFault a .noStop .search none none).suspect a .noStop).passSince s
  else s

/-- The axis is driven, or coasts from a drive, so that an overrun beyond the end zone may be a missing stop (R10). -/
def Axis.drivenOrCoasting (x : Axis) : Bool :=
  match x.motion with
  | .driving | .backoff => true
  | .stopping => !x.testing
  | .idle | .queued | .engaging | .blocked | .fault | .checking => false

/-- A count that would take overrun above the end zone, in direction `d` (R10). An axis whose HOME waits in QUEUED, ENGAGING
or BLOCKED counts as not driven, so that a VALID reference falls to SUSPECT with OVERRUN (log 30, DESIGN CHOICE). Of a NO_STOP,
AXIS_FAULT is queued before REFERENCE (log 49, DESIGN CHOICE). -/
def State.overrunLimit (s : State) (a : AxisNo) (d : Dir) : State :=
  let x := s.ax a
  if x.homing && (decide (x.motion = .driving) || decide (x.motion = .stopping)) then s
  else if x.drivenOrCoasting && decide (x.driveDir = d) then
    if x.noStop then s
    else
      (((s.modAx a (fun x => { x with noStop := true })).raiseFault a .noStop .overrun none none).suspect a .noStop).passSince s
  else s.suspect a .overrun

/-- A count applied to lash, overrun and position, with the position change handed on (R8 to R11). -/
def State.applyCount (s : State) (a : AxisNo) (d : Dir) : State :=
  let x := s.ax a
  match x.config, x.pos with
  | some c, some p =>
    let l := countLash c.lash x.lashDir x.lashRem d
    let s := s.modAx a (fun x => { x with lashDir := d, lashRem := l.1 })
    if l.2 then
      match countPos c.travel c.endZone p x.overrun d with
      | .moved q o =>
        let s := s.modAx a (fun x => { x with pos := some q, overrun := o })
        if q = p then s else s.positionChange a (some p) true
      | .discarded => s.overrunLimit a d
    else s
  | _, _ => s

/-- The ramp counts of a drive (R35). -/
def State.rampCount (s : State) (a : AxisNo) (d : Dir) : State :=
  s.modAx a (fun x =>
    if x.motion = .driving ∧ x.phase = some .ramp ∧ x.driveDir = d then { x with rampCounts := x.rampCounts + 1 } else x)

/-- The backoff count: the net change of position in the reverse direction; at the distance the output goes off and FINISH
begins (R57). -/
def State.backoffCount (s : State) (a : AxisNo) (d : Dir) (old : Option Nat) : State :=
  let x := s.ax a
  match x.motion, x.backoff with
  | .backoff, some k =>
    if k.step = .reverse ∧ x.pos ≠ old then
      let n := k.count + (if d = k.dir then 1 else -1)
      s.modAx a (fun x =>
        if (k.distance : Int) ≤ n then
          { x with blanking := false, backoff := some { k with step := .finish, count := n, rest := false } }
        else { x with backoff := some { k with count := n } })
    else s
  | _, _ => s

/-- A count of an axis with all its consequences (R7): the episode, the search distance, lash, overrun and position, the
position change, then the axis's own drive (log 7). -/
def State.count (s : State) (a : AxisNo) (d : Dir) : State :=
  let old := (s.ax a).pos
  let s := (((s.handCount a d).searchCount a d).rampCount a d).applyCount a d
  let s := (s.checkSearch a).backoffCount a d old
  if (s.ax a).motion = .driving then s.advance a else s

/-- An illegal transition (R7): no count; a VALID reference becomes SUSPECT. It is a Hall edge for the rest of an episode. -/
def State.illegalEdge (s : State) (a : AxisNo) : State :=
  (s.modAx a (fun x => { x with episode := x.episode.map (fun e => { e with rested := false }) })).suspect a .badEdge

end Sys2Proof.Machine
end

