-- ==== Sys2Proof/Machine/Settle.lean ====
section
/-! DEFINITION. What follows at the same moment as any event: runners whose axes are at rest, link operations whose end is
reached, the share handshake, the completion of a soft reset, idleness, the timers that start and stop by themselves, and the
transmitter (chapters 06, 09, 10, 11). `State.settle` does all of it; every meaning ends with it (log 10). -/

namespace Sys2Proof.Machine

/-! ### Runners at rest (R165, R168) -/

/-- No claimed axis of a run is in motion, queued or blocked (R165). -/
def State.claimAtRest (s : State) (run : Run) : Bool := run.claim.all (fun a => (s.ax a).motion.resting)

/-- A PAUSING runner whose axes are at rest becomes PAUSED (R165); a HALTING one ends its run, but for end kind RESET (R168,
R172). -/
def State.restRunner (s : State) (r : RunnerNo) : State :=
  match s.run r with
  | none => s
  | some run =>
    if s.claimAtRest run then
      match run.state, run.endKind with
      | .pausing, _ => (s.setRun r (some { run with state := .paused })).runPaused r run
      | .halting, some .reset => s
      | .halting, some k => s.endRun r k
      | .halting, none | .running, _ | .paused, _ => s
    else s

/-- Every runner, in increasing number. -/
def State.restRunners (s : State) : State := allRunners.foldl State.restRunner s

/-! ### The end of link operations (R46, R52, R64, R68) -/

/-- The result of a winding test of an axis that an OP_END carries: none where the test wrote none (R68, R76). After a short
trip on a test already abandoned, which writes none either, it is the last check result as it stands (log 35, DESIGN
CHOICE). -/
def checkResultOf (k : Option FaultKind) (o : MoveOutcome) (x : Axis) : Option CheckResult :=
  if o = .done ∨ k = some .opened ∨ (k = some .short ∧ x.fault.isSome) then x.lastCheck else none

/-- A link operation whose end is decided ends once its axes are at rest: OP_END, and the ownership and escalation are
released (R38, R52, R64, R70). The report names the axis first named, also after a reversal that named the other axis of a
gang (log 36, DESIGN CHOICE). -/
def State.concludeOp (s : State) (a : AxisNo) : State :=
  match (s.ax a).owner with
  | .none | .runner _ => s
  | .link op =>
    match op.result with
    | none => s
    | some (o, k) =>
      if op.named = a ∧ (s.members a).all (fun b => (s.ax b).motion.resting) then
        let fins := s.finals a
        let results := if op.kind = .check then fins.map (fun f => checkResultOf k o (s.ax f.axis)) else []
        (s.report (.opEnd op.kind o k fins results)).modAll (s.members a)
          (fun x => { x with owner := .none, escalated := false, search := 0 })
      else s

/-- Every link operation, in increasing axis number. -/
def State.concludeOps (s : State) : State := allAxes.foldl State.concludeOp s

/-! ### The share handshake (R104, R114) -/

/-- No axis is in ENGAGING, DRIVING, STOPPING, BACKOFF or CHECKING (R113, R202). -/
def State.nothingMoves (s : State) : Bool := allAxes.all (fun a => !(s.ax a).motion.moving)

/-- The part runs: ACTIVE, DOZE or RESETTING. -/
def PowerState.runs : PowerState → Bool
  | .active | .doze | .resetting => true
  | .init | .sleep => false

/-- DRAINING becomes YIELDED at the moment nothing moves (R114). -/
def State.yieldShare (s : State) : State :=
  if s.supply.handshake = .draining ∧ s.nothingMoves ∧ s.power.state.runs then
    State.supplyReport { s with supply := { s.supply with handshake := .yielded, shareAck := true, avail := 0 } } .share
  else s

/-! ### The completion of a soft reset (R202) -/

/-- An axis at the completion of a soft reset (R21). -/
def Axis.softReset (x : Axis) : Axis := { x.toIdle false with owner := .none, fault := none, escalated := false }

/-- A channel at the completion of a soft reset and at entry to SLEEP (R98). -/
def Channel.ended (c : Channel) : Channel :=
  { state := if c.state = .retired ∨ (c.state = .tripped ∧ 3 ≤ c.trips) then .retired else .free, closing := none,
    axis := none, trips := c.trips, cooldown := none, opening := false }

/-- Every channel changed. -/
def State.modChans (s : State) (f : Channel → Channel) : State := allChans.foldl (fun t c => t.setCh c (f (t.ch c))) s

/-- The handshake that a level of SHARE_REQ gives while nothing moves (R115). -/
def Supply.follow (m : Supply) (level : Bool) : Supply :=
  let h := if level then Handshake.yielded else .quiet
  { m with shareReq := level, handshake := h, shareAck := level, avail := availOf m.base m.band m.thermal h }

/-- The RESETTING sequence completes at the moment nothing moves: every block takes its soft-reset values, the report queue
is emptied, and WAKE and SUPPLY join it (R98, R117, R134, R151, R172, R182, R202). -/
def State.completeReset (s : State) : State :=
  if s.power.state = .resetting ∧ s.nothingMoves then
    let s := (s.modAll allAxes Axis.softReset).modChans Channel.ended
    let s := { s with
      store := Store.reset, queue := [], stamps := 0,
      supply := Supply.follow { s.supply with base := 200, grantCounter := 0 } s.supply.shareReq,
      entries := .replicate 24 none, places := .replicate 64 none, slots := .replicate 8 Slot.undefined, marks := 0,
      runners := .replicate 3 none,
      link := { s.link with reports := [], overflow := false, cadence := none, supervision := .off, setup := Setup.default },
      power := { s.power with state := .active, dwell := none, sleepOpts := none, wakeCause := none } }
    (s.report (.wake .softReset 0 none)).supplyReport .wake
  else s

/-! ### Idleness and the timers (R184, R185, R195, R196) -/

/-- Idleness decides the dwell timer and the exit from DOZE (R195, R196). -/
def State.updateIdle (s : State) : State :=
  match s.power.state with
  | .active =>
    if s.idle then { s with power := { s.power with dwell := some (s.power.dwell.getD 0) } }
    else { s with power := { s.power with dwell := none } }
  | .doze => if s.idle then s else s.notIdle
  | .init | .sleep | .resetting => { s with power := { s.power with dwell := none } }

/-- Supervision is due (R185). -/
def State.supervisionDue (s : State) : Bool :=
  (decide (s.power.state = .active) || decide (s.power.state = .doze)) &&
  (allRunners.any (fun r => match s.run r with
    | none => false
    | some run => decide (run.state = .running) || decide (run.state = .pausing)) ||
   allAxes.any (fun a => !(s.ax a).motion.resting))

/-- The supervision timer starts where it becomes due and is OFF where it is not (R185). -/
def State.updateSupervision (s : State) : State :=
  if s.supervisionDue then
    if s.link.supervision = .off then { s with link := { s.link with supervision := .watching 0 s.link.setup.window } }
    else s
  else { s with link := { s.link with supervision := .off } }

/-- Some axis is in DRIVING, STOPPING or BACKOFF (R184). -/
def State.someListed (s : State) : Bool := allAxes.any (fun a => (s.ax a).motion.listed)

/-- The cadence timer starts and stops with those states; a cadence of 0 keeps it stopped (R184). -/
def State.updateCadence (s : State) : State :=
  let timer := if s.someListed && decide (s.link.setup.cadence ≠ 0) then some (s.link.cadence.getD 0) else none
  { s with link := { s.link with cadence := timer } }

/-- The least and greatest duty of the present 10 ms interval take up the duty applied now (R47). -/
def State.sampleDuty (s : State) : State :=
  allAxes.foldl (fun t a =>
    let d := t.dutyNow a
    t.modAx a (fun x => { x with dutyLo := min x.dutyLo d, dutyHi := max x.dutyHi d })) s

/-- The motion of a gang is over: SKEW may be raised again in its next one (R74). -/
def State.clearSkew (s : State) : State :=
  allAxes.foldl (fun t a =>
    let moving := (t.members a).any (fun b => (t.ax b).inGangMotion)
    if moving then t else t.modAx a (fun x => { x with skewRaised := false })) s

/-- The idle transmitter takes the reply that waits, else the oldest report (R181). -/
def State.startTx (s : State) : State :=
  if s.link.tx.isNone && s.power.state.runs then
    match s.link.slot, s.link.reports with
    | some r, _ =>
      { s with link := { s.link with slot := none, tx := some ⟨r.frame.bytes, s.power.sleepOpts.isSome⟩ } }
    | none, r :: rs => { s with link := { s.link with reports := rs, tx := some ⟨r.frame.bytes, false⟩ } }
    | none, [] => s
  else s

/-- The timers, the duties and the transmitter as they follow the state they find: the last part of the settling. -/
def State.clocks (s : State) : State :=
  s.updateIdle.updateSupervision.updateCadence.sampleDuty.clearSkew.startTx

/-- Everything that follows at the same moment as an event (log 10). A part held in reset does nothing (R194). -/
def State.settle (s : State) : State :=
  if s.power.inReset then s else s.engine.restRunners.concludeOps.yieldShare.completeReset.clocks

end Sys2Proof.Machine
end

