-- ==== Sys2Proof/Machine/Requests.lean ====
section
/-! DEFINITION. How a request reaches its owning block and how it is answered, and the common form of an event's meaning (R175,
R177 to R180, R185, R194, R199). -/

namespace Sys2Proof.Machine

/-- The kind of the reply to a request kind (R180). -/
def replyKind (kind : Byte) : Byte := if kind.toNat < 0x80 then kind + 0x80 else kind

/-- The reply is placed in the reply slot (R178, R180). -/
def State.reply (s : State) (kind tag : Byte) (result : Result) (data : List Byte) : State :=
  { s with link := { s.link with slot := some ⟨replyKind kind, tag, result, data⟩ } }

/-- A refused request: the result code alone, and nothing changes (R180). -/
def State.refuse (s : State) (kind tag : Byte) (result : Result) : State := s.reply kind tag result []

/-- The refusal of the first check that fails, in the order of a rule's table. -/
def firstFailure : List (Bool × Result) → Option Result
  | [] => none
  | (fails, r) :: rest => if fails then some r else firstFailure rest

/-- The power state is RESETTING: check 1 of nearly every request (R179). -/
def State.resetting (s : State) : Bool := decide (s.power.state = .resetting)

/-- A valid frame restarts the supervision window, and takes LAPSED to WATCHING (R175, R185). -/
def State.frameHeard (s : State) : State :=
  match s.link.supervision with
  | .off => s
  | .watching _ _ | .lapsed => { s with link := { s.link with supervision := .watching 0 s.link.setup.window } }

/-- A request can be taken now, but for its place in the intake buffer: the reply slot is empty and no POWER(SLEEP) has been
taken since the last wake (R178). -/
def State.canTake (s : State) : Bool := s.link.slot.isNone && s.power.sleepOpts.isNone

/-- A valid frame is admitted to the intake buffer, or discarded where it holds four (R177). -/
def State.admitFrame (s : State) (f : Frame) : State :=
  if s.link.intake.length < Config.intakeSize then { s with link := { s.link with intake := s.link.intake ++ [f] } } else s

/-- The first wake event in SLEEP records the wake cause (R199); a part held in reset has none (R194). -/
def State.wakeBy (s : State) (cause : WakeCause) : State :=
  if s.power.inReset = false ∧ s.power.state = .sleep ∧ s.power.wakeCause = none then
    { s with power := { s.power with wakeCause := some cause } }
  else s

/-- A valid frame that completes while the part receives: it restarts the window, and is taken at once where nothing is
ahead of it, else admitted (R175 to R178). -/
def State.offerFrame (s : State) (f : Frame) (taken : State → State) : State :=
  let s := s.frameHeard
  if s.link.intake.isEmpty && s.canTake then taken s else s.admitFrame f

/-- The axis's link operation, if it is a JOG. -/
def Axis.jogOp (x : Axis) : Option LinkOp :=
  match x.owner with
  | .link op => if op.kind = .jog then some op else none
  | .none | .runner _ => none

/-- A request whose whole frame arrives now (log 5): offered in ACTIVE, DOZE and RESETTING, lost in INIT and while the part
is held in reset, a falling edge on RX in SLEEP (R174, R194, R199). -/
def State.offer (s : State) (f : Option Frame) (taken : State → State) : State :=
  if s.power.inReset then s
  else
    match s.power.state with
    | .init => s
    | .sleep => (s.wakeBy .link).settle
    | .active | .doze | .resetting =>
      match f with
      | none => s
      | some f => (s.offerFrame f taken).settle

/-- The meaning of an event that a part held in reset does not see (R194): its effect, then what follows at once. -/
def State.event (s : State) (effect : State → State) : Host.Outcome State Fault Refusal :=
  .next (if s.power.inReset then s else (effect s).settle)

end Sys2Proof.Machine
end

