-- ==== Sys2Proof/Machine/AxisEvents.lean ====
section
/-! DEFINITION. The events of the axis units: Hall edges, obstruction, stall, the ends of stops, pulses and windows, heat
(chapters 01 to 04, 07). -/

namespace Sys2Proof.Machine

/-! ### HALL_EDGE (R7) -/

/-- The Hall inputs are powered and decoded (R7, R199): not in INIT, in SLEEP only with watch. -/
def State.hallPowered (s : State) : Bool :=
  match s.power.state with
  | .active | .doze | .resetting => true
  | .init => false
  | .sleep =>
    match s.power.sleepOpts with
    | some o => o.watch
    | none => false

/-- A count in SLEEP is a wake event when watch and wake-on-hand are both yes (R199). -/
def State.wakeByHand (s : State) : State :=
  match s.power.sleepOpts with
  | some o => if o.watch && o.wakeOnHand then s.wakeBy .hand else s
  | none => s

/-- The effect of a Hall edge (R7). -/
def hallEffect (a : AxisNo) (step : HallStep) (s : State) : State :=
  if s.hallPowered then
    match step with
    | .count d => (s.wakeByHand).count a d
    | .illegal => s.illegalEdge a
  else s

/-- HALL_EDGE (R7 to R11). -/
def execHallEdge (a : AxisNo) (step : HallStep) (s : State) : Host.Outcome State Fault Refusal := s.event (hallEffect a step)

/-! ### HAND_MOVE_REST (R18, R19) -/

/-- The rest of an episode: it closes and is reported; in SLEEP it only has rested (R18, R19). -/
def restEffect (a : AxisNo) (s : State) : State :=
  if s.power.state.runs then s.closeEpisode a
  else s.modAx a (fun x => { x with episode := x.episode.map (fun e => { e with rested := true }) })

/-- HAND_MOVE_REST (R18). -/
def execHandMoveRest (a : AxisNo) (s : State) : Host.Outcome State Fault Refusal := s.event (restEffect a)

/-! ### BLANKING_END (R53) -/

/-- BLANKING_END (R53). -/
def execBlankingEnd (a : AxisNo) (s : State) : Host.Outcome State Fault Refusal :=
  s.event (fun s => s.modAx a (fun x => { x with blanking := false }))

/-! ### OBSTRUCTION_CURRENT (R54, R56, R59, R78) -/

/-- The axis is in the REVERSE step of a backoff. -/
def Axis.reversing (x : Axis) : Bool :=
  match x.motion, x.backoff with
  | .backoff, some k => decide (k.step = .reverse)
  | _, _ => false

/-- Obstruction and stall are checked: outside blanking in DRIVING or REVERSE (R53). -/
def Axis.watched (x : Axis) : Bool := !x.blanking && (decide (x.motion = .driving) || x.reversing)

/-- The pinch zone of a backoff that is due (R56). -/
def Axis.backoffDue (x : Axis) : Option Pinch :=
  match x.config.bind AxisConfig.pinch, x.pos with
  | some z, some p =>
    if x.motion = .driving ∧ z.lo ≤ p ∧ p ≤ z.hi ∧ x.driveDir = z.dir ∧ 0 < z.distance ∧ ¬ x.homing then some z else none
  | _, _ => none

/-- An obstruction with its cause (R56); in REVERSE it ends the backoff (R59, R78). -/
def State.obstruct (s : State) (a : AxisNo) (c : Cause) : State :=
  (s.raiseFault a .obstruction c none (s.ax a).backoffDue).passSince s

/-- OBSTRUCTION_CURRENT (R54). -/
def execObstructionCurrent (a : AxisNo) (s : State) : Host.Outcome State Fault Refusal :=
  s.event (fun s => if (s.ax a).watched then s.obstruct a .current else s)

/-! ### STALL (R12, R13, R15, R45, R55, R58) -/

/-- The outcome a move notes at the stall that ends it (R45). -/
def stallOutcome (m : Option MoveRec) : MoveOutcome :=
  match m with
  | some m => if m.endFlag then .atEnd else .endEarly
  | none => .endEarly

/-- A stall ends the drive: output off, STOPPING toward completion with its outcome noted (R13, R15, R45). -/
def State.stallStop (s : State) (a : AxisNo) (o : MoveOutcome) : State :=
  (s.startStop a (.completion .correct) .coast).modAx a (fun x => { x with noted := some o })

/-- A stall in DRIVING, classified by R55. The stop begins before the axis is re-synchronised (log 58, DESIGN CHOICE). -/
def State.stallDriving (s : State) (a : AxisNo) : State :=
  let x := s.ax a
  let d := x.driveDir
  if x.homing then ((s.stallStop a .done).homeAt a d).handOn a x.pos
  else
    match x.config, x.pos with
    | some c, some p =>
      if inEndZone c.travel c.endZone p d then ((s.stallStop a (stallOutcome x.move)).resync a d).handOn a x.pos
      else s.obstruct a .stall
    | _, _ => s.stallStop a (stallOutcome x.move)

/-- A stall in REVERSE (R58): a hard stop in the end zone reversed toward, or without a position, else an obstruction. At a hard
stop the backoff ends, with its grant pass, before the axis is re-synchronised (log 48, DESIGN CHOICE). -/
def State.stallReversing (s : State) (a : AxisNo) : State :=
  let x := s.ax a
  let d := x.driveDir
  match x.config, x.pos with
  | some c, some p =>
    if inEndZone c.travel c.endZone p d then (((s.cutBackoff a .coast).passSince s).resync a d).handOn a x.pos
    else s.obstruct a .stall
  | _, _ => (s.cutBackoff a .coast).passSince s

/-- STALL (R55). -/
def execStall (a : AxisNo) (s : State) : Host.Outcome State Fault Refusal :=
  s.event (fun s =>
    if (s.ax a).watched then (if (s.ax a).motion = .driving then s.stallDriving a else s.stallReversing a) else s)

/-! ### CONTROLLED_STOP_RAMP_END (R40) -/

/-- CONTROLLED_STOP_RAMP_END (R40): the output turns off. -/
def execControlledStopRampEnd (a : AxisNo) (s : State) : Host.Outcome State Fault Refusal :=
  s.event (fun s => s.modAx a (fun x => { x with stop := x.stop.map (fun st => { st with ramping := false }) }))

/-! ### STANDSTILL (R39, R44, R46, R57, R72, R77, R79, R110, R125) -/

/-- What follows a standstill: the skew check of a gang that has come to rest (R82), and then the BLOCKED axes that a blocked stop
held up (R126). Both come after all that the standstill itself does, the owner's part included (log 54, DESIGN CHOICE). -/
def State.cameToRest (s : State) (a : AxisNo) (blocked : Bool) : State :=
  let s := if (s.members a).all (fun b => (s.ax b).motion.still) then s.checkSkew a else s
  if blocked then (s.members a).foldl State.reevaluateRelated s else s

/-- An axis at the end of a stop after which its move goes on. -/
def Axis.stopped (x : Axis) : Axis := { x with motion := .idle, phase := none, stop := none, noted := none }

/-- The end of a stop toward BLOCKED (R123, R125): the question decides between BLOCKED and going on, after the grant pass for the
end of the stop (log 48, DESIGN CHOICE). -/
def State.blockedRest (s : State) (as : List AxisNo) : State :=
  let s := (s.modAll as Axis.stopped).passSince s
  if s.anyBlocked as then s.enterBlocked as else s.proceed as

/-- The end of a stop toward held (R110), its grant pass first (log 48, DESIGN CHOICE). -/
def State.heldRest (s : State) (as : List AxisNo) : State :=
  let s := (s.modAll as Axis.stopped).passSince s
  if s.standsAtTarget as then (s.finish as .done).engine
  else
    let s := s.reevaluateCreep as
    if s.anyBlocked as then s.enterBlocked as else s.joinQueue as true

/-- The end of a reversing stop (R51, R81): ALREADY at the new target, BLOCKED, or the reversed drive on the same channel. -/
def State.reversalRest (s : State) (as : List AxisNo) : State :=
  if s.standsAtTarget as then ((s.releaseAll as).finish as .already).engine
  else
    let t := (s.modAll as Axis.stopped).reevaluateCreep as
    if t.anyBlocked as then ((t.releaseAll as).blockEntry as).passSince s
    else as.foldl State.enterDriving t

/-- The result of a finished winding test of one axis (R68). -/
def CheckRec.result (k : CheckRec) : CheckResult :=
  if k.peakHigh < Config.openCurrent ∧ k.peakLow < Config.openCurrent then .opened else .ok

/-- The end of a winding test (R68, R81): the channels released, the results, the grant pass that the end of their charges
causes, OPEN faults, the end of the operation. That the pass comes before the OPEN faults is the model's choice (log 39, DESIGN
CHOICE), and that the lower-numbered axis of a gang takes its OPEN first (log 59, DESIGN CHOICE). -/
def State.checkRest (s : State) (as : List AxisNo) : State :=
  let ended := as.map (fun a => (a, (s.ax a).check.map CheckRec.result, (s.chanOf a).getD 0))
  let t := (s.releaseAll as).modAll as (Axis.toIdle false)
  let t := ended.foldl (fun t p => t.modAx p.1 (fun x => { x with lastCheck := p.2.1 })) t
  let s := t.passSince s
  let s := ended.foldl (fun t p =>
    if p.2.1 = some .opened then t.raiseFault p.1 .opened (.channel p.2.2) none none else t) s
  match as with
  | [] => s
  | a :: _ => s.tellOutcome a .done []

/-- The outcome of a gang from those of its axes (R79). -/
def jointOutcome (os : List (Option MoveOutcome)) : MoveOutcome :=
  if os.contains (some .endEarly) then .endEarly
  else if os.contains (some .near) then .near
  else if os.all (fun o => decide (o = some .atEnd)) then .atEnd
  else .done

/-- An axis of a stop in which some axis has FAULT, or toward IDLE, as it stands at rest (R39, R63, R76). -/
def Axis.rested (x : Axis) : Axis :=
  match x.stop.map Stop.dest with
  | some .fault => x.toFault
  | some (.idle keep) => x.toIdle keep
  | _ => x.toIdle false

/-- The destinations of the axes of a stop that ends. -/
def State.dests (s : State) (as : List AxisNo) : List Dest := as.filterMap (fun a => (s.ax a).stop.map Stop.dest)

/-- A destination is BLOCKED. -/
def Dest.isBlocked : Dest → Bool
  | .blocked _ _ => true
  | .completion _ | .idle _ | .held | .fault | .reversal | .checkDone => false

/-- A destination is IDLE. -/
def Dest.isIdle : Dest → Bool
  | .idle _ => true
  | .completion _ | .blocked _ _ | .held | .fault | .reversal | .checkDone => false

/-- The stop of an axis, or of both axes of a gang, is over: all have arrived, and each destination takes its effect
(R39, R72, R75, R79). -/
def State.concludeStop (s : State) (as : List AxisNo) : State :=
  let ds := s.dests as
  if ds.contains .fault then ((s.releaseAll as).modAll as Axis.rested).passSince s
  else if ds.any Dest.isBlocked then (s.releaseAll as).blockedRest as
  else if ds.contains .held then (s.releaseAll as).heldRest as
  else if ds.any Dest.isIdle then ((s.releaseAll as).modAll as Axis.rested).passSince s
  else if ds.contains .reversal then s.reversalRest as
  else if ds.contains .checkDone then s.checkRest as
  else ((s.releaseAll as).finish as (jointOutcome (as.map (fun a => (s.ax a).noted)))).engine

/-- An axis has reached its own end: STOPPING at standstill, or anything at rest (R72). -/
def Axis.hasArrived (x : Axis) : Bool :=
  match x.motion with
  | .stopping =>
    (match x.stop with
      | some st => st.arrived
      | none => true)
  | .engaging | .driving | .backoff | .checking => false
  | .idle | .queued | .blocked | .fault => true

/-- A standstill is reached by one axis of a stop; the stop is over when every axis of its gang has arrived (R72). The skew check
of R82 follows all of its effects, the owner's part included (log 54, DESIGN CHOICE). -/
def State.arrive (s : State) (a : AxisNo) : State :=
  let s := s.modAx a (fun x => { x with stop := x.stop.map (fun st => { st with arrived := true, ramping := false }) })
  let as := s.members a
  if as.all (fun b => (s.ax b).hasArrived) then
    let blocked := (s.dests as).any Dest.isBlocked
    ((s.concludeStop (as.filter (fun b => decide ((s.ax b).motion = .stopping)))).cameToRest a blocked)
  else s

/-- A correction that may not begin turns into a stop with the destination of a request (R75, R109, R123). Of a gang, the
partner that has not arrived takes the same request. What their charges free is granted before the stop is over (log 11). -/
def State.turn (s : State) (a : AxisNo) (r : StopReq) : State :=
  let t := s.modAx a (fun x => { x with stop := x.stop.map (fun st => { st with dest := r.dest }) })
  let t := match s.partner a with
    | none => t
    | some b => if (s.ax b).hasArrived then t else t.stopAxis b r
  (t.passSince s).arrive a

/-- The question at a standstill at which a correction would begin (R123): for the axis, in the direction of the correction, and
of a gang for the partner too, in the directions judged for it where it stands or drives (log 61, DESIGN CHOICE). -/
def State.askCorrection (s : State) (a : AxisNo) (d : Dir) : Option (EntryNo × AxisNo) :=
  match s.ask a [d], s.partner a with
  | some own, _ => some own
  | none, none => none
  | none, some b => s.ask b (s.nowDirs b)

/-- The evaluation of a stop toward completion (R44): an outcome, a correction, or the stop that a correction becomes. -/
def State.evaluate (s : State) (a : AxisNo) (m : MoveRec) (corr : Corr) : State :=
  let note (o : MoveOutcome) := (s.modAx a (fun x => { x with noted := some o })).arrive a
  match (s.ax a).pos with
  | none => note .near
  | some p =>
    if apart m.target p ≤ m.profile.tolerance then note .done
    else if 2 ≤ m.corrections then note .near
    else
      match corr with
      | .held => s.turn a .revoke
      | .blocked e q => s.turn a (.block e q)
      | .correct =>
        match towards (some p) m.target false with
        | none => note .done
        | some d =>
          match s.askCorrection a d with
          | some (e, q) => s.turn a (.block e q)
          | none => s.enterCorrect a d

/-- The standstill of an axis in STOPPING (R39, R44). -/
def State.standstillStopping (s : State) (a : AxisNo) (st : Stop) : State :=
  match st.dest, (s.ax a).noted, (s.ax a).move with
  | .completion corr, none, some m => s.evaluate a m corr
  | _, _, _ => s.arrive a

/-- REVERSE begins on every axis of a backoff, unless the question is answered blocked for one of them, which ends the
backoff CUT_SHORT at this standstill (R57, R77, R123). -/
def State.beginReverse (s : State) (a : AxisNo) (dir : Dir) : State :=
  let as := s.members a
  if as.any (fun b => (s.ask b [dir]).isSome) then
    ((((s.cutBackoff a .quick).releaseAll as).modAll as Axis.rested).passSince s).cameToRest a false
  else as.foldl State.enterReverse s

/-- A record whose backoff has covered its distance (R57, R61). -/
def FaultRec.backoffDone (f : FaultRec) : FaultRec := { f with backoff := .done }

/-- An axis whose backoff has covered its distance (R57, R77): the faulted axis stands in FAULT with outcome DONE, and so
does a partner with a fault of its own; any other partner is IDLE. -/
def Axis.backoffDone (x : Axis) : Axis :=
  match x.backoff with
  | none => x
  | some k =>
    if k.faulted then { x.toFault with fault := x.fault.map FaultRec.backoffDone }
    else if x.fault.isSome then x.toFault
    else x.toIdle false

/-- A backoff that has covered its distance is over (R57, R77). -/
def State.endBackoff (s : State) (a : AxisNo) : State :=
  let as := s.members a
  (((s.releaseAll as).modAll as Axis.backoffDone).passSince s).cameToRest a false

/-- The standstill of an axis in BACKOFF (R57, R77). -/
def State.standstillBackoff (s : State) (a : AxisNo) (k : Backoff) : State :=
  let s := s.modAx a (fun x => { x with backoff := some { k with rest := true } })
  let atRest (st : BackoffStep) (b : AxisNo) : Bool := match (s.ax b).motion, (s.ax b).backoff with
    | .backoff, some j => decide (j.step = st) && j.rest
    | _, _ => false
  if (s.members a).all (atRest k.step) then
    match k.step with
    | .brake => s.beginReverse a k.dir
    | .finish => s.endBackoff a
    | .reverse => s
  else s

/-- STANDSTILL (R39): due for an axis in STOPPING that has not yet arrived, or in BRAKE or FINISH. -/
def execStandstill (a : AxisNo) (s : State) : Host.Outcome State Fault Refusal :=
  s.event (fun s =>
    match (s.ax a).motion, (s.ax a).stop, (s.ax a).backoff with
    | .stopping, some st, _ => if st.arrived then s else s.standstillStopping a st
    | .backoff, _, some k => if k.step = .reverse || k.rest then s else s.standstillBackoff a k
    | _, _, _ => s)

/-! ### CHECK_PULSE_END (R67) -/

/-- The end of a pulse: the second one, unless it would be deeper in an entry in conflict (R69), or the end of both. -/
def pulseEnd (a : AxisNo) (peak : Nat) (s : State) : State :=
  match (s.ax a).motion, (s.ax a).check with
  | .checking, some k =>
    (match k.pulse with
      | some .high =>
        let s := s.modAx a (fun x =>
          { x with driveDir := .low, check := some { k with pulse := some .low, peakHigh := peak } })
        (match s.ask a [.low] with
          | some (e, p) => (s.blockGang a e p).passSince s
          | none => s)
      | some .low =>
        (s.modAx a (fun x => { x with check := some { k with pulse := none, peakLow := peak } })).startStop a .checkDone .coast
      | none => s)
  | _, _ => s

/-- CHECK_PULSE_END (R67). -/
def execCheckPulseEnd (a : AxisNo) (peak : Nat) (s : State) : Host.Outcome State Fault Refusal := s.event (pulseEnd a peak)

/-! ### ESCALATION (R38, R83) -/

/-- The axis may escalate: in CRUISE outside blanking, its scale factor below 100 %, without forced creep (R38). -/
def State.mayEscalate (s : State) (a : AxisNo) : Bool :=
  let x := s.ax a
  decide (x.motion = .driving) && decide (x.phase = some .cruise) && !x.blanking && decide (s.scale a < 100) &&
    !((x.move.map MoveRec.forcedCreep).getD false)

/-- ESCALATION (R38): the axis and its gang partner. -/
def execEscalation (a : AxisNo) (s : State) : Host.Outcome State Fault Refusal :=
  s.event (fun s =>
    if s.mayEscalate a then s.modAll (s.members a) (fun x => { x with escalated := true }) else s)

/-! ### HEAT_TICK (R47, R48, R84, R130, R143, R169, R184, R185, R195, R198) -/

/-- The duty applied during the interval that ends (R47): the one duty where it was constant, else a free value between the
least and the greatest (log 2). -/
def intervalHeat (free lo hi : Nat) : Nat := if lo = hi then lo else lo + Config.intervalDuty free lo hi % (hi - lo + 1)

/-- The heat of an axis after an interval, in a power state in which it changes (R47). -/
def heatAfter (limit free : Nat) (x : Axis) : Nat :=
  if 0 < x.dutyHi then min limit (x.heat + intervalHeat free x.dutyLo x.dutyHi) else x.heat - Config.cooling

/-- The lockout flag after an interval (R48). -/
def lockoutAt (heatLimit heat : Nat) (x : Axis) : Bool :=
  if heatUnits heatLimit ≤ heat ∧ 0 < x.dutyHi then true else lockoutAfter x.lockout heat heatLimit

/-- The axis reaches its heat limit in DRIVING too far from its target to go on (R48). -/
def Axis.overheats (x : Axis) : Bool :=
  decide (x.motion = .driving) && (match x.remaining with
    | some r => decide (Config.heatFinish ≤ r)
    | none => true)

/-- An axis advances one interval of the duty ramp of its controlled stop (R40). -/
def Axis.rampTick (x : Axis) : Axis :=
  { x with stop := x.stop.map (fun st => if st.ramping then { st with rampTicks := min 10 (st.rampTicks + 1) } else st) }

/-- The duty applied now joins the least and greatest of the interval that ends. -/
def State.closeInterval (s : State) (a : AxisNo) : State :=
  let s := s.modAx a Axis.rampTick
  let d := s.dutyNow a
  s.modAx a (fun x => { x with dutyLo := min x.dutyLo d, dutyHi := max x.dutyHi d })

/-- Heat and lockout of one axis after an interval (R47, R48). A free value is used up where the duty was not constant. -/
def State.heatAxis (s : State) (a : AxisNo) : State :=
  match (s.ax a).config with
  | none => s
  | some c =>
    let s := s.closeInterval a
    let x := s.ax a
    let h := heatAfter (heatUnits c.heatLimit) s.freeIndex x
    let s := if x.dutyLo = x.dutyHi then s else { s with freeIndex := s.freeIndex + 1 }
    s.modAx a (fun y => { y with heat := h, lockout := lockoutAt c.heatLimit h x })

/-- The heat of an axis has reached its limit between two states (R48). -/
def State.limitReached (s before : State) (a : AxisNo) : Bool :=
  match (s.ax a).config with
  | none => false
  | some c => decide ((before.ax a).heat < heatUnits c.heatLimit) && decide ((s.ax a).heat = heatUnits c.heatLimit)

/-- OVERHEAT of every axis whose heat has reached its limit and that is driving too far from its target to go on, in
increasing axis number, each judged in the motion state that the faults before it have left (R48; log 11, log 59, DESIGN CHOICE). -/
def State.raiseOverheats (s before : State) : State :=
  (allAxes.foldl (fun t a =>
    if s.limitReached before a && (t.ax a).overheats then
      t.raiseFault a .overheat (.remaining (t.ax a).remaining) none none
    else t) s).passSince s

/-- The next interval of every axis begins with the duty applied now (R47). -/
def State.openIntervals (s : State) : State :=
  allAxes.foldl (fun t a => t.modAx a (fun x => { x with dutyLo := t.dutyNow a, dutyHi := t.dutyNow a })) s

/-- A gate state after 10 ms of elapsed time (R143). -/
def GateState.tick : GateState → GateState
  | .timing n => .timing (n - 1)
  | .closed => .closed
  | .opened => .opened

/-- The elapsed time at which a run's count stops: its run timeout, at which it times out, or without one the greatest value
(R169, log 4). -/
def Run.elapsedLimit (run : Run) : Nat := if run.timeout = 0 then Config.maxElapsed else run.timeout * 100

/-- A RUNNING run after 10 ms (R143, R169). -/
def Run.tick (run : Run) : Run :=
  if run.state = .running then
    { run with elapsed := min run.elapsedLimit (run.elapsed + 1),
               moves := run.moves.map (fun m => { m with gates := m.gates.map GateState.tick }) }
  else run

/-- The time in BLOCKED of an axis after 10 ms in ACTIVE, be its link its own or a copy (R130). -/
def BlockLink.tick (limit : Nat) (l : BlockLink) : BlockLink := { l with timer := min limit (l.timer + 10) }

/-- An open jog window after 10 ms (R50). -/
def Owner.tick : Owner → Owner
  | .link op => .link { op with window := op.window.map (fun t => min Config.jogWindow (t + 10)) }
  | .runner r => .runner r
  | .none => .none

/-- The supervision window after 10 ms (R185). -/
def Supervision.tick : Supervision → Supervision
  | .watching t w => .watching (min w (t + 10)) w
  | .off => .off
  | .lapsed => .lapsed

/-- Every runner record changed. -/
def State.modRuns (s : State) (f : Run → Run) : State := allRunners.foldl (fun t r => t.setRun r ((t.run r).map f)) s

/-- Every timer of the part after 10 ms in ACTIVE, DOZE or RESETTING; each stops at the value at which its own event
fires (log 4). -/
def State.tickTimers (s : State) : State :=
  let s := s.modRuns Run.tick
  let s := s.modAll allAxes (fun x => { x with owner := x.owner.tick })
  let s := if s.power.state = .active then
      s.modAll allAxes (fun x => { x with link := x.link.map (BlockLink.tick (s.link.setup.blockTimeout * 1000)) })
    else s
  let s := s.modChans (fun c => { c with cooldown := c.cooldown.map (fun t => t - 10) })
  { s with
    link := { s.link with cadence := s.link.cadence.map (fun t => min s.link.setup.cadence (t + 10)),
                          supervision := s.link.supervision.tick },
    power := { s.power with dwell := s.power.dwell.map (fun t => min (s.link.setup.dwell * 100) (t + 10)) } }

/-- The sleep time counter after 10 ms: 1 for each whole second before the wake event (R198, R199). -/
def State.tickSleep (s : State) : State :=
  if s.power.wakeCause.isSome then s
  else if s.power.sleepTicks + 1 < 100 then { s with power := { s.power with sleepTicks := s.power.sleepTicks + 1 } }
  else { s with power := { s.power with sleepTicks := 0, sleepTime := min Config.maxSleepTime (s.power.sleepTime + 1) } }

/-- 10 ms pass (R47). OVERHEAT faults come before the timers, so that a runner which they pause does not count these 10 ms
(log 67, DESIGN CHOICE). -/
def heatTickEffect (s : State) : State :=
  match s.power.state with
  | .init => s
  | .sleep => s.tickSleep
  | .active | .doze | .resetting => (((allAxes.foldl State.heatAxis s).raiseOverheats s).openIntervals).tickTimers

/-- HEAT_TICK (R47). -/
def execHeatTick (s : State) : Host.Outcome State Fault Refusal := s.event heatTickEffect

/-! ### JOG_WINDOW_EXPIRY (R50) -/

/-- A link operation ends with an outcome that follows a stop (R17, R50, R52, R69): a decided end stays, a winding test in
its pulses or after them runs on, but one abandoned for a keep-out conflict, in STOPPING toward BLOCKED, ends as from BLOCKED
(log 52, DESIGN CHOICE). A HOME between its stall and its standstill is not ended yet, and takes this outcome, its
reference kept (log 31, DESIGN CHOICE). -/
def State.endLinkOp (s : State) (a : AxisNo) (o : MoveOutcome) : State :=
  match (s.ax a).owner with
  | .none | .runner _ => s
  | .link op =>
    let pulsing (b : AxisNo) : Bool := decide ((s.ax b).motion = .checking) ||
      (decide ((s.ax b).motion = .stopping) && decide ((s.ax b).stop.map Stop.dest = some .checkDone))
    if op.result.isSome || (s.members a).any pulsing then s
    else (s.modOp a (fun op => { op with result := some (o, none), window := none })).stopAll (s.members a) .halt

/-- The jog window of an axis expires (R50). -/
def windowExpiry (a : AxisNo) (s : State) : State :=
  match (s.ax a).jogOp with
  | some op => if op.window.isSome then (s.endLinkOp a .released).passSince s else s
  | none => s

/-- JOG_WINDOW_EXPIRY (R50). -/
def execJogWindowExpiry (a : AxisNo) (s : State) : Host.Outcome State Fault Refusal := s.event (windowExpiry a)

/-! ### BLOCK_TIMEOUT (R130) -/

/-- The block timer of an axis with a link of its own reaches the block timeout (R130). -/
def State.blockExpires (s : State) (a : AxisNo) : State :=
  match (s.ax a).motion, (s.ax a).link with
  | .blocked, some l =>
    if l.copy then s else (s.raiseFault a .blockTimeout (.partner l.partner) (some l.entry) none).passSince s
  | _, _ => s

/-- BLOCK_TIMEOUT (R130). -/
def execBlockTimeout (a : AxisNo) (s : State) : Host.Outcome State Fault Refusal := s.event (fun s => s.blockExpires a)

end Sys2Proof.Machine
end

