-- ==== Sys2Proof/Machine/AxisRequests.lean ====
section
/-! DEFINITION. The requests of the axis units: AXIS_SET, AXIS_GET, ACK, JOG, HOME, CHECK (chapters 01, 02, 03, 04). -/

namespace Sys2Proof.Machine

/-! ### AXIS_SET (R1 to R5) -/

/-- The other axes that an AXIS_SET concerns: the old partner of a formed gang, and the new one named (R1 checks 6 and 7,
R5). -/
def State.otherAxes (s : State) (a : AxisNo) (c : AxisConfig) : List AxisNo := (s.partner a).toList ++ c.partner.toList

/-- The pairing checks of R4. -/
def State.pairs (s : State) (a : AxisNo) (c : AxisConfig) : Bool :=
  match c.partner with
  | none => true
  | some b =>
    match (s.ax b).config with
    | none => true
    | some d =>
      match d.partner with
      | none => true
      | some p =>
        decide (p = a) && decide (c.travel = d.travel) && decide (c.refEnd = d.refEnd) &&
          (pickPair c.reach d.reach (fun _ => true)).isSome

/-- No keep-out entry names the axis with a region beyond a travel (R2). -/
def State.keepoutFits (s : State) (a : AxisNo) (travel : Nat) : Bool :=
  allEntries.all (fun n => match s.entries[n] with
    | none => true
    | some e => !(e.names a && decide (travel < (e.region a).2)))

/-- A WHEN gate watches the axis beyond a travel. -/
def gateBeyond (a : AxisNo) (travel : Nat) : Gate → Bool
  | .whenGe b p | .whenLe b p => decide (b = a) && decide (travel < p)
  | .after _ _ | .mark _ => false

/-- No gate of a plan that runs watches the axis beyond a travel (R2). -/
def State.gatesFit (s : State) (a : AxisNo) (travel : Nat) : Bool :=
  allRunners.all (fun r => match s.run r with
    | none => true
    | some run => (List.range run.moves.length).all (fun i => match s.moveEntry run i with
      | none => true
      | some e => e.gates.all (fun g => !gateBeyond a travel g)))

/-- An axis has an owner. -/
def Axis.owned (x : Axis) : Bool := decide (x.owner ≠ .none)

/-- The heat and lockout of an axis under a new heat limit (R3, R48). -/
def Axis.newHeatLimit (limit : Nat) (x : Axis) : Axis :=
  if heatUnits limit ≤ x.heat then { x with heat := heatUnits limit, lockout := true }
  else { x with lockout := lockoutAfter x.lockout x.heat limit }

/-- The position side of a taken AXIS_SET (R3). -/
def State.reposition (s : State) (a : AxisNo) (old : Option AxisConfig) (c : AxisConfig) : State :=
  let x := s.ax a
  if old.map AxisConfig.travel = some c.travel ∧ old.map AxisConfig.refEnd = some c.refEnd then
    let s := s.modAx a (fun x => { x with lashRem := min x.lashRem c.lash })
    if c.endZone < x.overrun then (s.modAx a (fun x => { x with overrun := c.endZone })).suspect a .overrun else s
  else
    let s := s.modAx a (fun x => { x with ref := .unknown, pos := none, overrun := 0 })
    let s := if x.ref = .unknown then s else s.report (.reference a x.ref .unknown .config none)
    s.handOn a x.pos

/-- A taken AXIS_SET: the record replaces the old one, and the runtime record follows (R1, R3). -/
def State.setConfig (s : State) (a : AxisNo) (c : AxisConfig) : State :=
  let old := (s.ax a).config
  (s.modAx a (fun x => { x.newHeatLimit c.heatLimit with config := some c })).reposition a old c

/-- AXIS_SET taken (R1). -/
def axisSetTaken (tag axis : Byte) (args : AxisArgs) (s : State) : State :=
  if s.resetting then s.refuse 0x10 tag .busy
  else
    match finOf 12 axis with
    | none => s.refuse 0x10 tag .badArg
    | some a =>
      match configOf a args with
      | none => s.refuse 0x10 tag .badArg
      | some c =>
        let others := s.otherAxes a c
        match firstFailure [
          ((s.ax a).owned, .claimed),
          (decide ((s.ax a).motion ≠ .idle), .busy),
          (others.any (fun b => (s.ax b).owned), .claimed),
          (others.any (fun b => decide ((s.ax b).motion ≠ .idle)), .busy),
          (!s.pairs a c, .badArg),
          (!(s.keepoutFits a c.travel && s.gatesFit a c.travel), .badArg)] with
        | some r => s.refuse 0x10 tag r
        | none => (s.setConfig a c).reply 0x10 tag .ok []

/-- AXIS_SET (R1). -/
def execAxisSet (tag axis : Byte) (args : AxisArgs) (s : State) : Host.Outcome State Fault Refusal :=
  .next (s.offer (Instr.axisSet tag axis args).frame? (axisSetTaken tag axis args))

/-! ### AXIS_GET (R6) -/

/-- The gang status of an axis with its partner and the skew limit in use: none 0, pending 1, formed 2 (R6). A pending gang shows
the partner that the record names, and no skew limit in use (log 60, DESIGN CHOICE). -/
def State.gangBytes (s : State) (a : AxisNo) : List Byte :=
  match s.names a, s.partner a with
  | some _, some b => [2] ++ b1 b.val ++ b1 (s.skewLimit a b)
  | some b, none => [1] ++ b1 b.val ++ [0xFF]
  | none, _ => [0, 0xFF, 0xFF]

/-- The configuration form: the first two items of R6. -/
def State.configReply (s : State) (a : AxisNo) : List Byte :=
  (match (s.ax a).config with
    | none => [0] ++ noConfigBytes
    | some c => [1] ++ c.bytes) ++ s.gangBytes a

/-- The current move as AXIS_GET shows it: resolved target, latched bank and index, corrections used. -/
def moveBytes : Option MoveRec → List Byte
  | none => [0] ++ b2 0 ++ [0, 0, 0]
  | some m => [1] ++ b2 m.target ++ b1 m.bank.code ++ b1 m.index.val ++ b1 m.corrections

/-- The blocked-by link as AXIS_GET shows it. -/
def linkBytes : Option BlockLink → List Byte
  | none => [0, 0, 0]
  | some l => [1] ++ b1 l.entry.val ++ b1 l.partner.val

/-- The net counts of an open episode, in two bytes by the model's choice (log 29). -/
def episodeBytes : Option Episode → List Byte
  | none => [0, 0, 0]
  | some e => [1] ++ bInt e.net

/-- The runtime form: the other items of R6. -/
def State.runtimeReply (s : State) (a : AxisNo) : List Byte :=
  let x := s.ax a
  b1 x.motion.code ++ bOpt1 (x.phase.map Phase.code) ++ bFlag x.held ++ b1 x.ref.code ++ bOpt2 x.pos ++ b1 x.overrun ++
  b1 (dirCode x.lashDir) ++ b1 x.lashRem ++ (s.ownerTag a).bytes ++ moveBytes x.move ++ b4 x.heat ++ bFlag x.lockout ++
  bFlag x.escalated ++ faultBytes x.fault ++ linkBytes x.link ++ bOpt1 (x.lastCheck.map CheckResult.code) ++
  episodeBytes x.episode

/-- AXIS_GET taken (R6). -/
def axisGetTaken (tag axis : Byte) (form : Option Byte) (s : State) : State :=
  if s.resetting then s.refuse 0x11 tag .busy
  else
    match finOf 12 axis, form with
    | none, _ => s.refuse 0x11 tag .badArg
    | some a, none => s.reply 0x11 tag .ok (s.configReply a)
    | some a, some f => if f = 1 then s.reply 0x11 tag .ok (s.runtimeReply a) else s.refuse 0x11 tag .badArg

/-- AXIS_GET (R6). -/
def execAxisGet (tag axis : Byte) (form : Option Byte) (s : State) : Host.Outcome State Fault Refusal :=
  .next (s.offer (Instr.axisGet tag axis form).frame? (axisGetTaken tag axis form))

/-! ### ACK (R65) -/

/-- ACK taken (R65). The owning runner's activation pass follows with the settling. -/
def ackTaken (tag axis : Byte) (s : State) : State :=
  if s.resetting then s.refuse 0x12 tag .busy
  else
    match finOf 12 axis with
    | none => s.refuse 0x12 tag .badArg
    | some a =>
      match (s.ax a).fault with
      | none => s.reply 0x12 tag .ok []
      | some f =>
        if (s.ax a).motion = .fault then
          (s.modAx a (fun x => { x with fault := none, motion := .idle })).reply 0x12 tag .ok (b1 f.kind.code)
        else s.refuse 0x12 tag .busy

/-- ACK (R65). -/
def execAck (tag axis : Byte) (s : State) : Host.Outcome State Fault Refusal :=
  .next (s.offer (Instr.ack tag axis).frame? (ackTaken tag axis))

/-! ### The direct-operation checks (R15, R70) -/

/-- Check 3: configured and not gang pending. -/
def State.usable (s : State) (a : AxisNo) : Bool := (s.ax a).config.isSome && !s.gangPending a

/-- Checks 6 to 8 of R15, on both axes of a gang. -/
def State.lateChecks (s : State) (a : AxisNo) : List (Bool × Result) :=
  let as := s.members a
  [(as.any (fun b => decide ((s.ax b).motion = .fault)), .faultPending),
   (as.any (fun b => (s.ax b).lockout), .lockedOut),
   (!s.reachable as, .noChannel)]

/-- Checks 3 to 8 of R15, on both axes of a gang (R70). -/
def State.directChecks (s : State) (a : AxisNo) : Option Result :=
  firstFailure ((!s.usable a, .notConfigured) :: (s.inhibit, .inhibited) ::
    ((s.members a).any (fun b => (s.ax b).owned), .claimed) :: s.lateChecks a)

/-- The link becomes the owner of an axis, or of both axes of a gang (R15, R70). -/
def State.linkOwns (s : State) (a : AxisNo) (kind : OpKind) (hold : Bool) (dir : Dir) (window : Option Nat) : State :=
  s.modAll (s.members a) (fun x =>
    { x with owner := .link ⟨kind, a, hold, dir, window, none⟩, search := 0 })

/-! ### HOME (R15, R80) -/

/-- The part of a taken HOME after its checks: ownership, profile 0 of the active bank, the target at the reference end,
priority 1, the keep-out question (R15). -/
def State.startHome (s : State) (a : AxisNo) : State :=
  let e := ((s.ax a).config.map AxisConfig.refEnd).getD .low
  ((s.linkOwns a .home false e none).latch (s.members a) a (boundAt (s.travel a) e) false 1 0).startOrBlock (s.members a)

/-- HOME taken (R15). -/
def homeTaken (tag axis : Byte) (s : State) : State :=
  if s.resetting then s.refuse 0x14 tag .busy
  else
    match finOf 12 axis with
    | none => s.refuse 0x14 tag .badArg
    | some a =>
      match s.directChecks a with
      | some r => s.refuse 0x14 tag r
      | none => (s.startHome a).reply 0x14 tag .ok []

/-- HOME (R15). -/
def execHome (tag axis : Byte) (s : State) : Host.Outcome State Fault Refusal :=
  .next (s.offer (Instr.home tag axis).frame? (homeTaken tag axis))

/-! ### CHECK (R66, R81) -/

/-- The part of a taken CHECK after its checks (R66). -/
def State.startCheck (s : State) (a : AxisNo) : State :=
  ((s.linkOwns a .check false .low none).modAll (s.members a)
    (fun x => { x with check := some ⟨0, none, 0, 0⟩ })).startOrBlock (s.members a)

/-- CHECK taken (R66). -/
def checkTaken (tag axis : Byte) (s : State) : State :=
  if s.resetting then s.refuse 0x15 tag .busy
  else
    match finOf 12 axis with
    | none => s.refuse 0x15 tag .badArg
    | some a =>
      match s.directChecks a with
      | some r => s.refuse 0x15 tag r
      | none => (s.startCheck a).reply 0x15 tag .ok []

/-- CHECK (R66). -/
def execCheck (tag axis : Byte) (s : State) : Host.Outcome State Fault Refusal :=
  .next (s.offer (Instr.check tag axis).frame? (checkTaken tag axis))

/-! ### JOG (R49 to R51, R81) -/

/-- The mode and distance of a JOG: HOLD, or COUNTS with 1–2000 counts (R49). The distance of HOLD is not examined. -/
def jogMode (mode : Byte) (n : Half) : Option (Option Nat) :=
  if mode = 0 then (inRange 1 2000 n.toNat).map some else if mode = 1 then some none else none

/-- The target of a jog from the present position: clamped for COUNTS, the bound with the end flag for HOLD (R31, R49). -/
def State.jogTarget (s : State) (a : AxisNo) (dir : Dir) (counts : Option Nat) : Nat × Bool :=
  match counts with
  | none => (boundAt (s.travel a) dir, true)
  | some n =>
    let p := (s.ax a).pos.getD 0
    ((match dir with
      | .low => p - n
      | .high => min (p + n) (s.travel a)), false)

/-- The jog window that a JOG opens, or leaves open by a reversal: of HOLD only (R50, R51; log 69, DESIGN CHOICE). -/
def jogWindowOf (counts : Option Nat) : Option Nat := if counts.isNone then some 0 else none

/-- The part of a taken JOG on an unowned axis after its checks (R49). -/
def State.startJog (s : State) (a : AxisNo) (dir : Dir) (counts : Option Nat) : State :=
  let as := s.members a
  let t := s.jogTarget a dir counts
  let s := s.linkOwns a .jog counts.isNone dir (jogWindowOf counts)
  let s := if counts.isNone then s.notIdle else s
  if !t.2 && s.within as t.1 (s.profile s.store.active 0).tolerance then s.tellOutcome a .already []
  else (s.latch as a t.1 t.2 3 0).startOrBlock as

/-- The destination of a stop under a jog reversal (R51): the reversal, but held stays held, and a stop whose grant is revoked
becomes one toward held, whatever its destination (R106, log 12). A stop toward BLOCKED that is not revoked is charged again
(R90) without a new grant (log 55, DESIGN CHOICE). -/
def Stop.reverse (st : Stop) : Stop :=
  match st.dest with
  | .held | .fault => st
  | .completion _ | .idle _ | .blocked _ _ | .reversal | .checkDone =>
    { st with dest := if st.revoked then .held else .reversal }

/-- A reversal reaches one axis that holds a channel (R51); `duty` is the effective duty at the request (R40). An axis in
ENGAGING keeps a destination already recorded, so that at the end of its settle it passes to that one: where it is BLOCKED,
the axis releases its channel and asks anew (log 33, DESIGN CHOICE). -/
def State.reverseAxis (s : State) (duty : Nat) (a : AxisNo) : State :=
  match (s.ax a).motion with
  | .driving => s.startStopFrom duty a .reversal .controlled
  | .stopping => s.modAx a (fun x => { x with stop := x.stop.map Stop.reverse, noted := none })
  | .engaging => s.modAx a (fun x => { x with move := x.move.map (fun m => { m with reversed := true }) })
  | .idle | .queued | .backoff | .blocked | .fault | .checking => s

/-- The new target, with corrections used 0, in the records of a jog that is reversed (R51). The record takes the axis that
the reversal names, the link operation keeps the one first named (log 36, DESIGN CHOICE). -/
def State.retarget (s : State) (as : List AxisNo) (named : AxisNo) (t : Nat × Bool) : State :=
  s.modAll as (fun x =>
    { x with move := x.move.map (fun m => { m with named := named, target := t.1, endFlag := t.2, corrections := 0 }) })

/-- A jog in the other direction reverses the jog (R51, R81). A BLOCKED jog that the re-evaluation clears goes on as R127
says, and so ends DONE where its new target lies within tolerance. In QUEUED and ENGAGING no tolerance is tested: the jog waits
or drives on, and ends by the evaluation of its next standstill (log 34, DESIGN CHOICE). A COUNTS jog that reverses a HOLD jog
closes the jog window that was open (log 69, DESIGN CHOICE). -/
def State.reverseJog (s : State) (a : AxisNo) (dir : Dir) (counts : Option Nat) : State :=
  let as := s.members a
  let t := s.jogTarget a dir counts
  let s := s.modOp a (fun op => { op with hold := counts.isNone, dir := dir, window := jogWindowOf counts })
  let s := if counts.isNone then s.notIdle else s
  let s := s.retarget as a t
  match (s.ax a).motion with
  | .queued =>
    if s.anyBlocked as then
      (((as.foldl State.leaveQueue s).modAll as (fun x => { x with motion := .idle, held := false })).blockEntry as).passSince s
    else s
  | .blocked => s.reevaluate a
  | .idle | .engaging | .driving | .stopping | .backoff | .fault | .checking =>
    as.foldl (fun t b => t.reverseAxis (s.dutyNow b) b) s

/-- A JOG naming an axis whose owner is the link with a JOG (R50, R51). -/
def State.jogAgain (s : State) (tag : Byte) (a : AxisNo) (op : LinkOp) (dir : Dir) (counts : Option Nat) : State :=
  if op.result.isSome || (s.members a).any (fun b => (s.ax b).fault.isSome) then s.refuse 0x13 tag .busy
  else if dir = op.dir then
    if counts.isNone && op.hold then
      (s.modOp a (fun op => { op with window := some 0 })).reply 0x13 tag .ok []
    else s.refuse 0x13 tag .busy
  else (s.reverseJog a dir counts).reply 0x13 tag .ok []

/-- JOG taken (R49): the checks of R15 with those of R49 in their places. -/
def jogTaken (tag axis dir mode : Byte) (n : Half) (s : State) : State :=
  if s.resetting then s.refuse 0x13 tag .busy
  else
    match finOf 12 axis, dirOf dir, jogMode mode n with
    | some a, some d, some counts =>
      match firstFailure [
        (!s.usable a, .notConfigured),
        (counts.isSome && (s.members a).any (fun b => decide ((s.ax b).ref = .unknown)), .unreferenced),
        (s.inhibit, .inhibited)] with
      | some r => s.refuse 0x13 tag r
      | none =>
        match (s.ax a).jogOp with
        | some op => s.jogAgain tag a op d counts
        | none =>
          match firstFailure (((s.members a).any (fun b => (s.ax b).owned), .claimed) :: s.lateChecks a) with
          | some r => s.refuse 0x13 tag r
          | none => (s.startJog a d counts).reply 0x13 tag .ok []
    | _, _, _ => s.refuse 0x13 tag .badArg

/-- JOG (R49). -/
def execJog (tag axis dir mode : Byte) (n : Half) (s : State) : Host.Outcome State Fault Refusal :=
  .next (s.offer (Instr.jog tag axis dir mode n).frame? (jogTaken tag axis dir mode n))

end Sys2Proof.Machine
end

