-- ==== Sys2Proof/Machine/ChannelEvents.lean ====
section
/-! DEFINITION. The events of the drive channels: the ends of relay settles, short trips, the ends of cooldowns (chapter 05). -/

namespace Sys2Proof.Machine

/-! ### SETTLE_CLOSE_END (R34, R42, R51, R67, R72, R86) -/

/-- The relay of a closing channel has closed: GRANTED (R86). -/
def Channel.closed (c : Channel) : Channel := { c with state := .granted, closing := none }

/-- The channels that the axes of a grant hold become GRANTED (R72, R86). -/
def State.channelsClose (s : State) (as : List AxisNo) : State :=
  as.foldl (fun t a => match t.chanOf a with
    | none => t
    | some c => t.setCh c (t.ch c).closed) s

/-- A jog was reversed during its settle: the question is asked at its end (R51). -/
def Axis.reversedMove (x : Axis) : Bool := (x.move.map MoveRec.reversed).getD false

/-- The reversal of a jog in ENGAGING has taken effect. -/
def Axis.clearReversed (x : Axis) : Axis := { x with move := x.move.map (fun m => { m with reversed := false }) }

/-- The settle of a grant ends toward drive: the pulses of a winding test, the drive, or BLOCKED for a jog reversed during
the settle whose new motion is blocked, with the skew check of a gang that so comes to rest (R34, R51, R67, R81, R82). -/
def State.engaged (s : State) (a : AxisNo) (as : List AxisNo) : State :=
  if (s.ax a).testing then as.foldl State.enterChecking (s.channelsClose as)
  else
    let reversed := as.any (fun b => (s.ax b).reversedMove)
    let t := s.modAll as Axis.clearReversed
    if reversed && t.anyBlocked as then (((t.releaseAll as).blockEntry as).passSince s).cameToRest a false
    else as.foldl State.enterDriving (t.channelsClose as)

/-- The settle of a grant ends for axes with a recorded destination: they pass to it, and their channels from closing
straight to opening (R42, R86). -/
def State.disengaged (s : State) (a : AxisNo) (as : List AxisNo) : State :=
  let blocked := (s.dests as).any Dest.isBlocked
  (s.concludeStop as).cameToRest a blocked

/-- The end of the closing settle of a grant, for all of its axes at once (R72). A recorded destination goes before a reversal
that came after it (log 33, DESIGN CHOICE). -/
def State.settleCloses (s : State) (a : AxisNo) : State :=
  let as := s.members a
  if as.any (fun b => (s.ax b).stop.isSome) then s.disengaged a as else s.engaged a as

/-- The effect of a closing relay's settle end (R86). -/
def settleCloseEffect (c : ChanNo) (s : State) : State :=
  match (s.ch c).state, (s.ch c).closing, (s.ch c).axis with
  | .settling, some true, some a => s.settleCloses a
  | _, _, _ => s

/-- SETTLE_CLOSE_END (R86). -/
def execSettleCloseEnd (c : ChanNo) (s : State) : Host.Outcome State Fault Refusal := s.event (settleCloseEffect c)

/-! ### SETTLE_OPEN_END (R87, R94) -/

/-- The effect of an opening relay's settle end: FREE and a grant pass, or a TRIPPED channel without connected axis (R87,
R94). -/
def settleOpenEffect (c : ChanNo) (s : State) : State :=
  let x := s.ch c
  match x.state, x.closing with
  | .settling, some false => (s.setCh c { x with state := .free, closing := none, axis := none }).grantPass
  | .tripped, _ => if x.opening then s.setCh c { x with axis := none, opening := false } else s
  | _, _ => s

/-- SETTLE_OPEN_END (R87). -/
def execSettleOpenEnd (c : ChanNo) (s : State) : Host.Outcome State Fault Refusal := s.event (settleOpenEffect c)

/-! ### SHORT_TRIP (R94) -/

/-- A GRANTED channel at a short trip: TRIPPED, its trip counted, its cooldown begun (R94). -/
def Channel.trip (c : Channel) : Channel :=
  { c with state := .tripped, trips := min 3 (c.trips + 1), cooldown := some Config.cooldown, opening := false }

/-- The axis is in the pulses of a winding test or in the stop after them (R68, R69). -/
def Axis.inTest (x : Axis) : Bool :=
  match x.motion with
  | .checking => true
  | .stopping => decide (x.stop.map Stop.dest = some .checkDone)
  | .idle | .queued | .engaging | .driving | .backoff | .blocked | .fault => false

/-- A test that a trip ends has the result SHORT (R68). -/
def Axis.shortResult (x : Axis) : Axis := if x.inTest then { x with lastCheck := some .short } else x

/-- The effect of a short trip on a GRANTED channel (R94). -/
def shortTripEffect (c : ChanNo) (s : State) : State :=
  match (s.ch c).state, (s.ch c).axis with
  | .granted, some a =>
    (((s.setCh c (s.ch c).trip).modAx a Axis.shortResult).raiseFault a .short (.channel c) none none).passSince s
  | _, _ => s

/-- SHORT_TRIP (R94). -/
def execShortTrip (c : ChanNo) (s : State) : Host.Outcome State Fault Refusal := s.event (shortTripEffect c)

/-! ### COOLDOWN_END (R95, R96) -/

/-- The axes of a request. -/
def GrantRequest.axes (q : GrantRequest) : List AxisNo := q.axis :: q.partner.toList

/-- The requests stranded by a retirement leave in queue order with NO_CHANNEL (R96). -/
def State.strand (s : State) (c : ChanNo) : State :=
  (s.queue.filter (fun q => !s.reachable q.axes)).foldl (fun t q => t.raiseNoChannel q.axes c) s

/-- A TRIPPED channel as it leaves TRIPPED: RETIRED at its third trip, else FREE (R95). -/
def Channel.cooled (c : Channel) : Channel :=
  { c with state := if 3 ≤ c.trips then .retired else .free, cooldown := none }

/-- The effect of a cooldown's end, once the relay has opened too (R95, R96). -/
def cooldownEffect (c : ChanNo) (s : State) : State :=
  let x := s.ch c
  if x.state = .tripped ∧ x.axis = none then
    let s := s.setCh c x.cooled
    if 3 ≤ x.trips then (s.strand c).passSince s else s.grantPass
  else s

/-- COOLDOWN_END (R95). -/
def execCooldownEnd (c : ChanNo) (s : State) : Host.Outcome State Fault Refusal := s.event (cooldownEffect c)

end Sys2Proof.Machine
end

