-- ==== Sys2Proof/Machine/KeepoutRequests.lean ====
section
/-! DEFINITION. The requests of the keep-out monitor: KEEPOUT_SET, KEEPOUT_GET (chapter 07). -/

namespace Sys2Proof.Machine

/-- The axes an entry names; none for an empty one. -/
def entryAxes : Option KeepoutEntry → List AxisNo
  | none => []
  | some e => [e.axisA, e.axisB]

/-- Checks 4 and 5 of R119: both axes are configured and each region lies within its travel. -/
def State.entryFits (s : State) (e : KeepoutEntry) : Bool :=
  (s.ax e.axisA).config.isSome && (s.ax e.axisB).config.isSome && decide (e.hiA ≤ s.travel e.axisA) &&
    decide (e.hiB ≤ s.travel e.axisB)

/-- The new contents of a KEEPOUT_SET: none where a check of 3 to 5 fails (R119). -/
def State.newEntry (s : State) (present : Byte) (args : KeepoutArgs) : Option (Option KeepoutEntry) :=
  match flagOf present with
  | none => none
  | some false => some none
  | some true =>
    match keepoutOf args with
    | none => none
    | some e => if s.entryFits e then some (some e) else none

/-- KEEPOUT_SET taken (R119). -/
def keepoutSetTaken (tag entry present : Byte) (args : KeepoutArgs) (s : State) : State :=
  if s.resetting then s.refuse 0x20 tag .busy
  else
    match finOf 24 entry, s.newEntry present args with
    | some n, some e =>
      if (entryAxes s.entries[n] ++ entryAxes e).all (fun a => (s.ax a).motion.resting) then
        State.reply { s with entries := s.entries.set n e } 0x20 tag .ok []
      else s.refuse 0x20 tag .busy
    | _, _ => s.refuse 0x20 tag .badArg

/-- KEEPOUT_SET (R119). -/
def execKeepoutSet (tag entry present : Byte) (args : KeepoutArgs) (s : State) : Host.Outcome State Fault Refusal :=
  .next (s.offer (Instr.keepoutSet tag entry present args).frame? (keepoutSetTaken tag entry present args))

/-- The reply to KEEPOUT_GET (R120): whether the entry is empty, its contents, and for an enabled entry occupation and
conflict. The contents of an empty entry are carried as 0, judgements that are not made as absent (log 9). -/
def State.entryReply (s : State) : Option KeepoutEntry → List Byte
  | none => [1] ++ List.replicate 12 0 ++ List.replicate 3 0xFF
  | some e =>
    [0] ++ bFlag e.enabled ++ b1 e.axisA.val ++ b2 e.loA ++ b2 e.hiA ++ b1 e.axisB.val ++ b2 e.loB ++ b2 e.hiB ++
    b1 e.guard ++
    (if e.enabled then
      bFlag (s.occupied e e.axisA e.guard) ++ bFlag (s.occupied e e.axisB e.guard) ++ bFlag (s.conflict e)
    else List.replicate 3 0xFF)

/-- KEEPOUT_GET taken (R120). -/
def keepoutGetTaken (tag entry : Byte) (s : State) : State :=
  if s.resetting then s.refuse 0x21 tag .busy
  else
    match finOf 24 entry with
    | none => s.refuse 0x21 tag .badArg
    | some n => s.reply 0x21 tag .ok (s.entryReply s.entries[n])

/-- KEEPOUT_GET (R120). -/
def execKeepoutGet (tag entry : Byte) (s : State) : Host.Outcome State Fault Refusal :=
  .next (s.offer (Instr.keepoutGet tag entry).frame? (keepoutGetTaken tag entry))

end Sys2Proof.Machine
end

