-- ==== Sys2Proof/Machine/LinkRequests.lean ====
section
/-! DEFINITION. The requests of the Seat Link controller: IDENT, STATUS, SETUP (chapter 10). -/

namespace Sys2Proof.Machine

/-! ### IDENT (R188) -/

/-- IDENT taken (R188). -/
def identTaken (tag : Byte) (s : State) : State := s.reply 0x01 tag .ok Config.identity

/-- IDENT (R188). -/
def execIdent (tag : Byte) (s : State) : Host.Outcome State Fault Refusal :=
  .next (s.offer (Instr.ident tag).frame? (identTaken tag))

/-! ### STATUS (R189) -/

/-- The state of a runner as STATUS reports it: FREE 0, then the states of R152. -/
def runnerCode : Option Run → Nat
  | none => 0
  | some run => run.state.code

/-- The data of a STATUS reply (R189). The level of a line, as SHARE_REQ, SHARE_ACK and the motion inhibit line have it, is
carried as 1 where it is asserted and as 0 where it is released (log 9, DEDUCED). -/
def State.statusReply (s : State) : List Byte :=
  b1 s.power.state.code ++ b1 s.supply.band.code ++ b1 s.supply.thermal.code ++ b2 s.supply.avail ++ b2 s.inUse ++
  b1 s.supply.handshake.code ++ bFlag s.supply.shareReq ++ bFlag s.supply.shareAck ++ bFlag s.inhibit ++
  allRunners.map (fun r => byteOf (runnerCode (s.run r))) ++ allChans.map (fun c => byteOf (s.ch c).state.code) ++
  [s.marks] ++ bFlag s.link.overflow

/-- STATUS taken (R189): the one change it makes is that the overflow flag is cleared. -/
def statusTaken (tag : Byte) (s : State) : State :=
  let data := s.statusReply
  State.reply { s with link := { s.link with overflow := false } } 0x02 tag .ok data

/-- STATUS (R189). -/
def execStatus (tag : Byte) (s : State) : Host.Outcome State Fault Refusal :=
  .next (s.offer (Instr.status tag).frame? (statusTaken tag))

/-! ### SETUP (R187) -/

/-- The cadence of a SETUP: 0, or 50–1000 ms. -/
def cadenceOf (h : Half) : Option Nat := if h = 0 then some 0 else inRange 50 1000 h.toNat

/-- The setup values of a SETUP, when each lies in its range. -/
def setupOf (window cadence : Half) (blockTimeout : Byte) (dwell : Half) : Option Setup := do
  let w ← inRange 100 2000 window.toNat
  let c ← cadenceOf cadence
  let b ← inRange 1 60 blockTimeout.toNat
  let d ← inRange 5 300 dwell.toNat
  some ⟨w, c, b, d⟩

/-- Entry to DOZE (R195): the drive stage off, escalation cleared on every axis. -/
def State.enterDoze (s : State) : State :=
  { s.modAll allAxes (fun x => { x with escalated := false }) with
    power := { s.power with state := .doze, stage := .off, dwell := none } }

/-- The block timer of an axis has passed a block timeout, in seconds (R130). -/
def State.blockedPast (s : State) (timeout : Nat) (a : AxisNo) : Bool :=
  match (s.ax a).link with
  | none => false
  | some l => decide (timeout * 1000 ≤ l.timer)

/-- The block timers that have passed a changed block timeout expire at once (R130). -/
def State.newBlockTimeout (s : State) (timeout : Nat) : State :=
  allAxes.foldl (fun t a => if t.blockedPast timeout a then t.blockExpires a else t) s

/-- A running dwell timer that has passed a changed idle dwell, in 0.1 s, expires at once (R195). -/
def State.newDwell (s : State) (dwell : Nat) : State :=
  match s.power.dwell with
  | none => s
  | some t => if s.power.state = .active ∧ dwell * 100 ≤ t then s.enterDoze else s

/-- The setup values replaced, each acting where its owner states: a changed cadence restarts its timer (R184). -/
def State.applySetup (s : State) (v : Setup) : State :=
  let old := s.link.setup
  let timer := if v.cadence = old.cadence then s.link.cadence else none
  let s := { s with link := { s.link with setup := v, cadence := timer } }
  let s := if v.blockTimeout = old.blockTimeout then s else s.newBlockTimeout v.blockTimeout
  if v.dwell = old.dwell then s else s.newDwell v.dwell

/-- SETUP taken (R187). -/
def setupTaken (tag : Byte) (window cadence : Half) (blockTimeout : Byte) (dwell : Half) (s : State) : State :=
  if s.resetting then s.refuse 0x03 tag .busy
  else
    match setupOf window cadence blockTimeout dwell with
    | none => s.refuse 0x03 tag .badArg
    | some v => (s.applySetup v).reply 0x03 tag .ok []

/-- SETUP (R187). -/
def execSetup (tag : Byte) (window cadence : Half) (blockTimeout : Byte) (dwell : Half) (s : State) :
    Host.Outcome State Fault Refusal :=
  .next (s.offer (Instr.setup tag window cadence blockTimeout dwell).frame? (setupTaken tag window cadence blockTimeout dwell))

end Sys2Proof.Machine
end

