-- ==== Sys2Proof/Machine/PlanRequests.lean ====
section
/-! DEFINITION. The requests of the plan store, the slots and the marks: PLAN_WRITE, PLAN_READ, PLAN_DEFINE, MARK (chapter
08). -/

namespace Sys2Proof.Machine

/-! ### Protection (R138) -/

/-- The runner that runs a slot. -/
def State.runnerOf (s : State) (n : SlotNo) : Option RunnerNo :=
  allRunners.find? (fun r => match s.run r with
    | none => false
    | some run => decide (run.slot = n))

/-- A place is protected: it lies in the range of a slot in use. -/
def State.placeProtected (s : State) (i : Nat) : Bool :=
  allRunners.any (fun r => match s.run r with
    | none => false
    | some run =>
      let slot := s.slots[run.slot]
      decide (slot.start ≤ i) && decide (i < slot.start + slot.length))

/-! ### PLAN_WRITE (R137) -/

/-- The places from an index on, replaced by a list of entries. -/
def setPlaces (places : Vector (Option PlanEntry) 64) : Nat → List (Option PlanEntry) → Vector (Option PlanEntry) 64
  | _, [] => places
  | i, e :: es => setPlaces (places.setIfInBounds i e) (i + 1) es

/-- PLAN_WRITE taken (R136, R137, R179). -/
def planWriteTaken (tag start count : Byte) (entries : List EntryArgs) (s : State) : State :=
  if !planWriteFits count entries then s.refuse 0x28 tag .badLength
  else if s.resetting then s.refuse 0x28 tag .busy
  else if 64 ≤ start.toNat ∨ count = 0 ∨ 64 < start.toNat + count.toNat then s.refuse 0x28 tag .badArg
  else
    match entriesOf entries with
    | none => s.refuse 0x28 tag .badArg
    | some es =>
      if (List.range count.toNat).any (fun k => s.placeProtected (start.toNat + k)) then s.refuse 0x28 tag .isProtected
      else State.reply { s with places := setPlaces s.places start.toNat es } 0x28 tag .ok []

/-- PLAN_WRITE (R137). -/
def execPlanWrite (tag start count : Byte) (entries : List EntryArgs) (s : State) : Host.Outcome State Fault Refusal :=
  .next (s.offer (Instr.planWrite tag start count entries).frame? (planWriteTaken tag start count entries))

/-! ### PLAN_READ (R139) -/

/-- As many whole entries as fit in the bytes left, with their number (R139). -/
def fitEntries : Nat → List (Option PlanEntry) → Nat × List Byte
  | _, [] => (0, [])
  | room, e :: es =>
    let b := placeBytes e
    if b.length ≤ room then
      let r := fitEntries (room - b.length) es
      (r.1 + 1, b ++ r.2)
    else (0, [])

/-- The places from an index on, as many as asked. -/
def State.placesFrom (s : State) (start count : Nat) : List (Option PlanEntry) :=
  (s.places.toList.drop start).take count

/-- The slot form of the reply: defined, the four fields, in use, the runner (R139). -/
def State.slotReply (s : State) (n : SlotNo) : List Byte :=
  let slot := s.slots[n]
  bFlag (decide (slot.length ≠ 0)) ++ b1 slot.start ++ b1 slot.length ++ [slot.clearMarks] ++ b1 slot.timeout ++
  bFlag (s.runnerOf n).isSome ++ bOpt1 ((s.runnerOf n).map Fin.val)

/-- PLAN_READ taken (R139). The reply payload leaves 57 bytes for entries after the result, the start and the number. -/
def planReadTaken (tag first : Byte) (count : Option Byte) (s : State) : State :=
  if s.resetting then s.refuse 0x29 tag .busy
  else
    match count with
    | some n =>
      if 64 ≤ first.toNat ∨ n = 0 ∨ 64 < first.toNat + n.toNat then s.refuse 0x29 tag .badArg
      else
        let r := fitEntries 57 (s.placesFrom first.toNat n.toNat)
        s.reply 0x29 tag .ok ([first] ++ b1 r.1 ++ r.2)
    | none =>
      match finOf 8 first with
      | none => s.refuse 0x29 tag .badArg
      | some k => s.reply 0x29 tag .ok (s.slotReply k)

/-- PLAN_READ (R139). -/
def execPlanRead (tag first : Byte) (count : Option Byte) (s : State) : Host.Outcome State Fault Refusal :=
  .next (s.offer (Instr.planRead tag first count).frame? (planReadTaken tag first count))

/-! ### PLAN_DEFINE (R140) -/

/-- The definition record of a PLAN_DEFINE, when check 2 of R140 passes; length 0 undefines the slot. -/
def slotOf (start length clearMarks timeout : Byte) : Option Slot :=
  if start.toNat < 64 ∧ length.toNat ≤ 32 ∧ start.toNat + length.toNat ≤ 64 ∧ timeout.toNat ≤ 120 then
    some (if length = 0 then Slot.undefined else ⟨start.toNat, length.toNat, clearMarks, timeout.toNat⟩)
  else none

/-- PLAN_DEFINE taken (R140). -/
def planDefineTaken (tag slot start length clearMarks timeout : Byte) (s : State) : State :=
  if s.resetting then s.refuse 0x2A tag .busy
  else
    match finOf 8 slot, slotOf start length clearMarks timeout with
    | some n, some d =>
      if (s.runnerOf n).isSome then s.refuse 0x2A tag .isProtected
      else State.reply { s with slots := s.slots.set n d } 0x2A tag .ok []
    | _, _ => s.refuse 0x2A tag .badArg

/-- PLAN_DEFINE (R140). -/
def execPlanDefine (tag slot start length clearMarks timeout : Byte) (s : State) : Host.Outcome State Fault Refusal :=
  .next (s.offer (Instr.planDefine tag slot start length clearMarks timeout).frame?
    (planDefineTaken tag slot start length clearMarks timeout))

/-! ### MARK (R149) -/

/-- A mark becomes clear, which is handed to no runner (R150). -/
def State.clearMark (s : State) (m : MarkNo) : State := { s with marks := s.marks &&& ~~~(BitVec.ofNat 8 (1 <<< m.val)) }

/-- MARK taken (R149): the reply carries the marks as the request leaves them, with what the gates it opened complete at
once. -/
def markTaken (tag mark action : Byte) (s : State) : State :=
  if s.resetting then s.refuse 0x34 tag .busy
  else
    match finOf 8 mark, flagOf action with
    | some m, some clear =>
      let s := if clear then s.clearMark m else (s.setMark m).engine
      s.reply 0x34 tag .ok [s.marks]
    | _, _ => s.refuse 0x34 tag .badArg

/-- MARK (R149). -/
def execMark (tag mark action : Byte) (s : State) : Host.Outcome State Fault Refusal :=
  .next (s.offer (Instr.mark tag mark action).frame? (markTaken tag mark action))

end Sys2Proof.Machine
end

