-- ==== Sys2Proof/Machine/PowerRequests.lean ====
section
/-! DEFINITION. The requests of the power controller: RESET and POWER (chapter 11). -/

namespace Sys2Proof.Machine

/-! ### RESET (R201) -/

/-- A stop or a recorded destination at the start of RESETTING: IDLE unless it is FAULT (R201). That of a winding test after its
pulses becomes a quick stop (R69); any other stop keeps its mode (R201; log 51, DESIGN CHOICE). -/
def Stop.atReset (st : Stop) : Stop :=
  match st.dest with
  | .fault => st
  | .checkDone => { st with dest := .idle false, mode := .quick }
  | .completion _ | .idle _ | .held | .blocked _ _ | .reversal => { st with dest := .idle false }

/-- The motion of one axis at the start of RESETTING (R69, R201). -/
def State.resetMotion (s : State) (a : AxisNo) : State :=
  match (s.ax a).motion with
  | .driving | .checking => s.startStop a (.idle false) .quick
  | .stopping => s.modAx a (fun x => { x with stop := x.stop.map Stop.atReset, noted := none })
  | .engaging => s.modAx a (fun x => { x with stop := some (Stop.atReset (x.stop.getD (engageStop (.idle false)))) })
  | .backoff =>
    s.modAx a (fun x => x.cutShort .quick (match x.backoff with
      | some k => k.rest
      | none => false))
  | .queued | .blocked => s.modAx a (Axis.toIdle false)
  | .idle | .fault => s

/-- A link operation ends without OP_END at the start of RESETTING; a runner keeps its claims until the completion (R172,
R201). -/
def Owner.atReset : Owner → Owner
  | .link _ => .none
  | .runner r => .runner r
  | .none => .none

/-- The link owns the axis. -/
def Owner.isLink : Owner → Bool
  | .link _ => true
  | .runner _ | .none => false

/-- What an axis holds for an operation at the start of RESETTING: no current move record, no link operation (R201), and no
escalation where the link releases it (R38). The record of a winding test stays until its axis is at rest (log 65, DESIGN
CHOICE). -/
def Axis.atReset (x : Axis) : Axis :=
  { x with move := none, owner := x.owner.atReset, escalated := x.escalated && !x.owner.isLink }

/-- A run at the start of RESETTING (R172). -/
def Run.atReset (run : Run) : Run := { run with state := .halting, endKind := some .reset }

/-- The start of RESETTING (R201). -/
def State.startReset (s : State) : State :=
  let s := (allAxes.foldl State.resetMotion s).modAll allAxes Axis.atReset
  let s := s.modRuns Run.atReset
  { s with queue := [], power := { s.power with state := .resetting, dwell := none } }

/-- RESET taken (R201). -/
def resetTaken (tag : Byte) (s : State) : State :=
  if s.resetting then s.refuse 0x04 tag .busy else s.startReset.reply 0x04 tag .ok []

/-- RESET (R201). -/
def execReset (tag : Byte) (s : State) : Host.Outcome State Fault Refusal :=
  .next (s.offer (Instr.reset tag).frame? (resetTaken tag))

/-! ### POWER (R197) -/

/-- The sleep options of a POWER, when check 2 of R197 passes. -/
def sleepOptsOf (mode watch wakeOnHand quick : Byte) : Option SleepOpts :=
  if mode = 0 then
    match flagOf watch, flagOf wakeOnHand, flagOf quick with
    | some w, some h, some q => if h && !w then none else some ⟨w, h, q⟩
    | _, _, _ => none
  else none

/-- Every runner is FREE, and every axis is IDLE or FAULT (R197 check 3). -/
def State.maySleep (s : State) : Bool :=
  allRunners.all (fun r => (s.run r).isNone) && allAxes.all (fun a => (s.ax a).motion.resting)

/-- POWER taken (R197). -/
def powerTaken (tag mode watch wakeOnHand quick : Byte) (s : State) : State :=
  if s.resetting then s.refuse 0x3A tag .busy
  else
    match sleepOptsOf mode watch wakeOnHand quick with
    | none => s.refuse 0x3A tag .badArg
    | some o =>
      if s.maySleep then State.reply { s with power := { s.power with sleepOpts := some o } } 0x3A tag .ok []
      else s.refuse 0x3A tag .busy

/-- POWER (R197). -/
def execPower (tag mode watch wakeOnHand quick : Byte) (s : State) : Host.Outcome State Fault Refusal :=
  .next (s.offer (Instr.power tag mode watch wakeOnHand quick).frame? (powerTaken tag mode watch wakeOnHand quick))

end Sys2Proof.Machine
end

