-- ==== Sys2Proof/Machine/ProfileRequests.lean ====
section
/-! DEFINITION. The requests of the profile store: PROFILE_WRITE, PROFILE_READ, PROFILE_SWAP, SCALE_SET (chapter 02). -/

namespace Sys2Proof.Machine

/-- A profile of the store replaced. -/
def State.setProfile (s : State) (bank : Bank) (i : Fin 8) (p : Profile) : State :=
  match bank with
  | .a => { s with store := { s.store with bankA := s.store.bankA.set i p } }
  | .b => { s with store := { s.store with bankB := s.store.bankB.set i p } }

/-- The motion states that protect the active bank (R25). -/
def Motion.protectsBank : Motion → Bool
  | .queued | .engaging | .driving | .stopping | .backoff | .blocked => true
  | .idle | .fault | .checking => false

/-- The active bank is in use (R25 check 3). -/
def State.bankInUse (s : State) : Bool :=
  allAxes.any (fun a => (s.ax a).motion.protectsBank) || allRunners.any (fun r => (s.run r).isSome)

/-- PROFILE_WRITE taken (R25). -/
def profileWriteTaken (tag bank index : Byte) (vals : ProfileArgs) (s : State) : State :=
  if s.resetting then s.refuse 0x18 tag .busy
  else
    match bankOf bank, finOf 8 index, profileOf vals with
    | some k, some i, some p =>
      if k = s.store.active ∧ s.bankInUse then s.refuse 0x18 tag .isProtected
      else (s.setProfile k i p).reply 0x18 tag .ok []
    | _, _, _ => s.refuse 0x18 tag .badArg

/-- PROFILE_WRITE (R25). -/
def execProfileWrite (tag bank index : Byte) (vals : ProfileArgs) (s : State) : Host.Outcome State Fault Refusal :=
  .next (s.offer (Instr.profileWrite tag bank index vals).frame? (profileWriteTaken tag bank index vals))

/-- PROFILE_READ taken (R26). -/
def profileReadTaken (tag bank index : Byte) (s : State) : State :=
  if s.resetting then s.refuse 0x19 tag .busy
  else
    match bankOf bank, finOf 8 index with
    | some k, some i => s.reply 0x19 tag .ok (s.profile k i).bytes
    | _, _ => s.refuse 0x19 tag .badArg

/-- PROFILE_READ (R26). -/
def execProfileRead (tag bank index : Byte) (s : State) : Host.Outcome State Fault Refusal :=
  .next (s.offer (Instr.profileRead tag bank index).frame? (profileReadTaken tag bank index))

/-- The other bank. -/
def Bank.other : Bank → Bank
  | .a => .b
  | .b => .a

/-- PROFILE_SWAP taken (R27). -/
def profileSwapTaken (tag : Byte) (s : State) : State :=
  if s.resetting then s.refuse 0x1A tag .busy
  else
    State.reply { s with store := { s.store with active := s.store.active.other } } 0x1A tag .ok
      (b1 s.store.active.other.code)

/-- PROFILE_SWAP (R27). -/
def execProfileSwap (tag : Byte) (s : State) : Host.Outcome State Fault Refusal :=
  .next (s.offer (Instr.profileSwap tag).frame? (profileSwapTaken tag))

/-- The configuration of an axis names a scale group. -/
def State.inGroup (s : State) (g : Fin 3) (a : AxisNo) : Bool :=
  decide ((s.ax a).config.map AxisConfig.scaleGroup = some g)

/-- Escalation clears on every axis of a group and on its gang partner (R28, R83). -/
def State.clearEscalation (s : State) (g : Fin 3) : State :=
  allAxes.foldl (fun t a =>
    if (s.members a).any (fun b => s.inGroup g b) then t.modAx a (fun x => { x with escalated := false }) else t) s

/-- SCALE_SET taken (R28): the effective duties follow from the factor at once (R36). -/
def scaleSetTaken (tag group factor : Byte) (s : State) : State :=
  if s.resetting then s.refuse 0x1B tag .busy
  else
    match finOf 3 group, inRange 20 100 factor.toNat with
    | some g, some f =>
      ((State.clearEscalation { s with store := { s.store with scales := s.store.scales.set g f } } g)).reply 0x1B tag .ok []
    | _, _ => s.refuse 0x1B tag .badArg

/-- SCALE_SET (R28). -/
def execScaleSet (tag group factor : Byte) (s : State) : Host.Outcome State Fault Refusal :=
  .next (s.offer (Instr.scaleSet tag group factor).frame? (scaleSetTaken tag group factor))

end Sys2Proof.Machine
end

