-- ==== Sys2Proof/Machine/RunRequests.lean ====
section
/-! DEFINITION. The requests of the runners: RUN, PAUSE, RESUME, HALT, RUN_GET (chapters 08, 09, 10). -/

namespace Sys2Proof.Machine

/-! ### Validation (R146, R147) -/

/-- The causes of BAD_PLAN, in the order of R146. -/
inductive BadPlan where
  | emptyEntry
  | axisUnconfigured
  | gangPending
  | afterRange
  | afterSelf
  | whenRange
  | cycle
  deriving DecidableEq, Repr

/-- The code of a BAD_PLAN cause: its place in the table of R146 (log 9). -/
def BadPlan.code : BadPlan → Nat
  | .emptyEntry => 0
  | .axisUnconfigured => 1
  | .gangPending => 2
  | .afterRange => 3
  | .afterSelf => 4
  | .whenRange => 5
  | .cycle => 6

/-- The entry at a move of a slot (R141). -/
def State.slotEntry (s : State) (slot : Slot) (i : Nat) : Option PlanEntry := (s.places[slot.start + i]?).join

/-- A WHEN gate's axis is configured and its position at or below the travel (R146 check 6). -/
def State.watchFits (s : State) : Gate → Bool
  | .whenGe a p | .whenLe a p => (s.ax a).config.isSome && decide (p ≤ s.travel a)
  | .after _ _ | .mark _ => true

/-- The checks of R146 on one move: the cause of the first that fails. Each of checks 4 to 6 is made on all gates before the
next (log 44, DESIGN CHOICE). -/
def State.checkMove (s : State) (slot : Slot) (i : Nat) : Option BadPlan :=
  match s.slotEntry slot i with
  | none => some .emptyEntry
  | some e =>
    if (s.ax e.axis).config.isNone then some .axisUnconfigured
    else if s.gangPending e.axis then some .gangPending
    else if e.gates.any (fun g => match g with
        | .after k _ => decide (slot.length ≤ k)
        | .whenGe _ _ | .whenLe _ _ | .mark _ => false) then some .afterRange
    else if e.gates.any (fun g => match g with
        | .after k _ => decide (k = i)
        | .whenGe _ _ | .whenLe _ _ | .mark _ => false) then some .afterSelf
    else if e.gates.any (fun g => !s.watchFits g) then some .whenRange
    else none

/-- The moves that the AFTER gates of a move name. -/
def State.afterMoves (s : State) (slot : Slot) (i : Nat) : List Nat :=
  (((s.slotEntry slot i).map PlanEntry.gates).getD []).filterMap (fun g => match g with
    | .after k _ => some k
    | .whenGe _ _ | .whenLe _ _ | .mark _ => none)

/-- The moves reached from a list of moves by following at most `n` more edges. -/
def State.reachedFrom (s : State) (slot : Slot) : Nat → List Nat → List Nat
  | 0, seen => seen
  | n + 1, seen =>
    let new := (seen.flatMap (s.afterMoves slot)).filter (fun k => !seen.contains k)
    if new.isEmpty then seen else s.reachedFrom slot n (seen ++ new.eraseDups)

/-- A move lies on a cycle of AFTER gates: it can be reached from itself (R147). -/
def State.onCycle (s : State) (slot : Slot) (i : Nat) : Bool :=
  (s.reachedFrom slot slot.length (s.afterMoves slot i)).contains i

/-- Validation (R146, R147): the failing move and the cause, none where the plan passes. -/
def State.validate (s : State) (slot : Slot) : Option (Nat × BadPlan) :=
  match (List.range slot.length).findSome? (fun i => (s.checkMove slot i).map (fun c => (i, c))) with
  | some r => some r
  | none => ((List.range slot.length).find? (fun i => s.onCycle slot i)).map (fun i => (i, .cycle))

/-! ### RUN (R154 to R156) -/

/-- The claim set of a slot: the axes its entries name, with their gang partners (R155). -/
def State.claimSet (s : State) (slot : Slot) : List AxisNo :=
  allAxes.filter (fun a => (List.range slot.length).any (fun i => match s.slotEntry slot i with
    | none => false
    | some e => (s.members e.axis).contains a))

/-- The lowest-numbered FREE runner (R156). -/
def State.freeRunner (s : State) : Option RunnerNo := allRunners.find? (fun r => (s.run r).isNone)

/-- The record of a run at its start (R156). -/
def State.newRun (s : State) (n : SlotNo) : Run :=
  let slot := s.slots[n]
  { state := .running, slot := n, claim := s.claimSet slot, reasons := ⟨false, false, false, false, false⟩,
    firstFault := none, planError := none, endKind := none, elapsed := 0, timeout := slot.timeout,
    moves := (List.range slot.length).map (fun i =>
      { state := .pending,
        gates := ((((s.slotEntry slot i).map PlanEntry.gates).getD []).map (fun _ => .closed)) }) }

/-- A run starts (R156): the record, the claims, the clear-marks, the first judging. The activation pass follows with the
settling. -/
def State.startRun (s : State) (r : RunnerNo) (n : SlotNo) : State :=
  let run := s.newRun n
  let s := (s.setRun r (some run)).modAll run.claim (fun x => { x with owner := .runner r })
  let s := { s with marks := s.marks &&& ~~~s.slots[n].clearMarks }
  s.notIdle.firstJudging r

/-- RUN taken (R154). -/
def runTaken (tag slot : Byte) (s : State) : State :=
  if s.resetting then s.refuse 0x30 tag .busy
  else
    match finOf 8 slot with
    | none => s.refuse 0x30 tag .badArg
    | some n =>
      if s.slots[n].length = 0 then s.refuse 0x30 tag .badArg
      else
        match s.validate s.slots[n] with
        | some (i, c) => s.reply 0x30 tag .badPlan (b1 i ++ b1 c.code)
        | none =>
          let claim := s.claimSet s.slots[n]
          match firstFailure [
            (s.inhibit, .inhibited),
            (claim.any (fun a => decide ((s.ax a).owner ≠ .none)), .claimed),
            (claim.any (fun a => decide ((s.ax a).motion = .fault)), .faultPending)], s.freeRunner with
          | some r, _ => s.refuse 0x30 tag r
          | none, none => s.refuse 0x30 tag .noRunner
          | none, some r => (s.startRun r n).reply 0x30 tag .ok (b1 r.val)

/-- RUN (R154). -/
def execRun (tag slot : Byte) (s : State) : Host.Outcome State Fault Refusal :=
  .next (s.offer (Instr.run tag slot).frame? (runTaken tag slot))

/-! ### PAUSE (R166) -/

/-- PAUSE taken (R166). -/
def pauseTaken (tag runner : Byte) (s : State) : State :=
  if s.resetting then s.refuse 0x31 tag .busy
  else
    match finOf 3 runner with
    | none => s.refuse 0x31 tag .badArg
    | some r =>
      match (s.run r).map Run.state with
      | some .running | some .pausing | some .paused => ((s.pauseFor r .host).passSince s).reply 0x31 tag .ok []
      | some .halting | none => s.refuse 0x31 tag .badState

/-- PAUSE (R166). -/
def execPause (tag runner : Byte) (s : State) : Host.Outcome State Fault Refusal :=
  .next (s.offer (Instr.pause tag runner).frame? (pauseTaken tag runner))

/-! ### RESUME (R167) -/

/-- A resumed run: no pause reasons, no first fault, RUNNING (R167). -/
def Run.resumed (run : Run) : Run :=
  { run with state := .running, reasons := ⟨false, false, false, false, false⟩, firstFault := none }

/-- RESUME taken (R167). The pass over its moves follows with the settling. A BAD_PLAN carries the move and the cause of the
plan error (R180, log 9). -/
def resumeTaken (tag runner : Byte) (s : State) : State :=
  if s.resetting then s.refuse 0x32 tag .busy
  else
    match finOf 3 runner with
    | none => s.refuse 0x32 tag .badArg
    | some r =>
      match s.run r with
      | none => s.refuse 0x32 tag .badState
      | some run =>
        match firstFailure [
          (decide (run.state ≠ .paused), .badState),
          (s.inhibit, .inhibited),
          (run.claim.any (fun a => decide ((s.ax a).motion = .fault)), .faultPending),
          (run.reasons.planError, .badPlan)] with
        | some .badPlan => s.reply 0x32 tag .badPlan (match run.planError with
          | none => [0, 0]
          | some (i, c) => b1 i ++ b1 c.code)
        | some e => s.refuse 0x32 tag e
        | none => (s.setRun r (some run.resumed)).notIdle.reply 0x32 tag .ok []

/-- RESUME (R167). -/
def execResume (tag runner : Byte) (s : State) : Host.Outcome State Fault Refusal :=
  .next (s.offer (Instr.resume tag runner).frame? (resumeTaken tag runner))

/-! ### HALT (R168) -/

/-- A runner enters HALTING with an end kind, and sends the stop for halt to its claimed axes (R164, R168). -/
def State.haltRunner (s : State) (r : RunnerNo) (kind : EndKind) : State :=
  match s.run r with
  | none => s
  | some run =>
    ((s.setRun r (some { run with state := .halting, endKind := some kind })).stopAll run.claim .halt).passSince s

/-- HALT taken (R168). A runner that enters HALTING ends idleness, be its axes at rest (R195, R196). -/
def haltTaken (tag runner : Byte) (s : State) : State :=
  if s.resetting then s.refuse 0x33 tag .busy
  else
    match finOf 3 runner with
    | none => s.refuse 0x33 tag .badArg
    | some r =>
      match (s.run r).map Run.state with
      | some .running | some .pausing | some .paused => (s.haltRunner r .aborted).notIdle.reply 0x33 tag .ok []
      | some .halting => s.reply 0x33 tag .ok []
      | none => s.refuse 0x33 tag .badState

/-- HALT (R168). -/
def execHalt (tag runner : Byte) (s : State) : Host.Outcome State Fault Refusal :=
  .next (s.offer (Instr.halt tag runner).frame? (haltTaken tag runner))

/-! ### RUN_GET (R190) -/

/-- A move record: state, outcome once DONE, each gate (R190). How many gates it has the plan says. -/
def RunMove.bytes (m : RunMove) : List Byte :=
  b1 m.state.code ++
  (match m.state with
    | .done o => b1 o.code
    | .pending | .ready | .active => [0xFF]) ++
  m.gates.flatMap GateState.bytes

/-- As many whole move records as fit in the bytes left, with their number (R190). -/
def fitMoves : Nat → List RunMove → Nat × List Byte
  | _, [] => (0, [])
  | room, m :: ms =>
    let b := m.bytes
    if b.length ≤ room then
      let r := fitMoves (room - b.length) ms
      (r.1 + 1, b ++ r.2)
    else (0, [])

/-- The summary of a runner record (R190). -/
def Run.summary (run : Run) : List Byte :=
  b1 run.state.code ++ b1 run.slot.val ++ b2 (axisBits run.claim) ++ b1 run.reasons.bits ++ firstFaultBytes run.firstFault ++
  planErrorBytes run.planError ++ bOpt1 (run.endKind.map EndKind.code) ++ b4 run.elapsed ++ b1 run.timeout ++
  b1 run.moves.length

/-- The reply data of RUN_GET from a first move: the summary, the index of the first record, their number, the records (R190).
That index and number stand between summary and records by the model's choice (log 47, DESIGN CHOICE). -/
def Run.getReply (run : Run) (first : Nat) : List Byte :=
  let head := run.summary ++ b1 first
  let r := fitMoves (58 - head.length) (run.moves.drop first)
  head ++ b1 r.1 ++ r.2

/-- RUN_GET taken (R190). -/
def runGetTaken (tag runner : Byte) (first : Option Byte) (s : State) : State :=
  if s.resetting then s.refuse 0x35 tag .busy
  else
    match finOf 3 runner with
    | none => s.refuse 0x35 tag .badArg
    | some r =>
      match s.run r with
      | none => s.reply 0x35 tag .ok [0]
      | some run =>
        match first with
        | none => s.reply 0x35 tag .ok (run.getReply 0)
        | some f =>
          if run.moves.length ≤ f.toNat then s.refuse 0x35 tag .badArg
          else s.reply 0x35 tag .ok (run.getReply f.toNat)

/-- RUN_GET (R190). -/
def execRunGet (tag runner : Byte) (first : Option Byte) (s : State) : Host.Outcome State Fault Refusal :=
  .next (s.offer (Instr.runGet tag runner first).frame? (runGetTaken tag runner first))

end Sys2Proof.Machine
end

