-- ==== Sys2Proof/Machine/RunnerEvents.lean ====
section
/-! DEFINITION. The events of the runners: expiring delays and timeouts, runners coming to rest, the motion inhibit line
(chapter 09). -/

namespace Sys2Proof.Machine

/-! ### AFTER_DELAY_EXPIRY (R142, R143) -/

/-- A TIMING gate opens; any other stays as it is. -/
def GateState.expire : GateState → GateState
  | .timing _ => .opened
  | .closed => .closed
  | .opened => .opened

/-- A PENDING move with the gate at a place expired; READY when all of its gates are OPEN (R142, R157). -/
def RunMove.expire (g : Nat) (m : RunMove) : RunMove :=
  match m.state with
  | .pending =>
    let gates := m.gates.modify g GateState.expire
    { state := if gates.all (fun x => decide (x = .opened)) then .ready else .pending, gates := gates }
  | .ready | .active | .done _ => m

/-- The effect of an expiring AFTER delay: of a RUNNING runner, whose TIMING gates alone run (R143). -/
def afterExpiryEffect (r : RunnerNo) (i g : Nat) (s : State) : State :=
  match s.run r with
  | none => s
  | some run =>
    if run.state = .running then s.setRun r (some { run with moves := run.moves.modify i (RunMove.expire g) }) else s

/-- AFTER_DELAY_EXPIRY (R143). -/
def execAfterDelayExpiry (r : RunnerNo) (i g : Nat) (s : State) : Host.Outcome State Fault Refusal :=
  s.event (afterExpiryEffect r i g)

/-! ### RUN_TIMEOUT (R169) -/

/-- The effect of a run timeout, once the elapsed time has reached it: the runner halts (R168, R169). -/
def timeoutEffect (r : RunnerNo) (s : State) : State :=
  match s.run r with
  | none => s
  | some run =>
    if run.state = .running ∧ run.timeout ≠ 0 ∧ run.timeout * 100 ≤ run.elapsed then s.haltRunner r .timeout else s

/-- RUN_TIMEOUT (R169). -/
def execRunTimeout (r : RunnerNo) (s : State) : Host.Outcome State Fault Refusal := s.event (timeoutEffect r)

/-! ### RUNNER_PAUSED and HALTING_END (R165, R168) -/

/-- RUNNER_PAUSED (R165): it happens in the settling of the event that brought the last axis to rest. -/
def execRunnerPaused (r : RunnerNo) (s : State) : Host.Outcome State Fault Refusal := s.event (fun s => s.restRunner r)

/-- HALTING_END (R168): it happens in the settling of the event that brought the last axis to rest. -/
def execHaltingEnd (r : RunnerNo) (s : State) : Host.Outcome State Fault Refusal := s.event (fun s => s.restRunner r)

/-! ### INHIBIT_CHANGE (R170) -/

/-- A RUNNING or PAUSING runner takes a pause reason; any other is unaffected (R170, R171). -/
def State.pauseActive (s : State) (r : RunnerNo) (why : Reason) : State :=
  match (s.run r).map Run.state with
  | some .running | some .pausing => s.pauseFor r why
  | some .paused | some .halting | none => s

/-- The link operation that an axis names. -/
def State.opNaming (s : State) (a : AxisNo) : Option LinkOp :=
  match (s.ax a).owner with
  | .link op => if op.named = a then some op else none
  | .none | .runner _ => none

/-- Every link operation that `which` picks ends with an outcome, in increasing axis number (log 59, DESIGN CHOICE). -/
def State.endLinkOps (s : State) (which : LinkOp → Bool) (o : MoveOutcome) : State :=
  allAxes.foldl (fun t a => match t.opNaming a with
    | none => t
    | some op => if which op then t.endLinkOp a o else t) s

/-- The inhibit line taken as asserted: runners pause, in increasing number (log 59, DESIGN CHOICE), and link operations end with
INHIBITED (R17, R52, R69, R170). -/
def State.inhibitAsserted (s : State) : State :=
  let t := allRunners.foldl (fun t r => t.pauseActive r .inhibit) { s with inhibit := true }
  (t.endLinkOps (fun _ => true) .inhibited).passSince s

/-- The effect of a level of the motion inhibit line as taken: in every state but SLEEP (R170). -/
def inhibitEffect (level : Bool) (s : State) : State :=
  if s.power.state = .sleep ∨ level = s.inhibit then s
  else if level then s.inhibitAsserted
  else { s with inhibit := false }

/-- INHIBIT_CHANGE (R170). -/
def execInhibitChange (level : Bool) (s : State) : Host.Outcome State Fault Refusal := s.event (inhibitEffect level)

end Sys2Proof.Machine
end

