-- ==== Sys2Proof/Machine/SupplyEvents.lean ====
section
/-! DEFINITION. The supply monitor: BUDGET_SET, SUPPLY_SAMPLE, SHARE_REQ_CHANGE, SHARE_YIELD (chapter 06). -/

namespace Sys2Proof.Machine

/-! ### Revocation (R106 to R109) -/

/-- The grant of an axis is revocable (R108). -/
def Axis.revocable (x : Axis) : Bool :=
  match x.motion with
  | .engaging => x.stop.isNone
  | .driving => true
  | .stopping =>
    (match x.stop with
      | none => false
      | some st =>
        match st.dest with
        | .completion _ | .reversal => !st.revoked
        | .idle _ | .held | .blocked _ _ | .fault | .checkDone => false)
  | .idle | .queued | .backoff | .blocked | .fault | .checking => false

/-- A grant is taken before another in a revocation: the lower priority, and within one priority the more recent grant
(R107). -/
def Axis.revokedBefore (x y : Axis) : Bool :=
  decide (x.priority < y.priority) || (decide (x.priority = y.priority) && decide (y.grantStamp < x.grantStamp))

/-- The axis whose grant is revoked next, with its gang as one (R107, R108). -/
def State.nextRevoked (s : State) : Option AxisNo :=
  allAxes.foldl (fun best a =>
    if (s.ax a).revocable then
      match best with
      | none => some a
      | some b => if (s.ax a).revokedBefore (s.ax b) then some a else some b
    else best) none

/-- Grants are revoked one at a time until the budget in use is at or below the available budget (R107). -/
def revokeLoop : Nat → State → State
  | 0, s => s
  | n + 1, s =>
    if s.inUse ≤ s.supply.avail then s
    else
      match s.nextRevoked with
      | none => s
      | some a => revokeLoop n (s.stopAll (s.members a) .revoke)

/-- Revocation, and the grant pass for the fall of the budget in use (R91, R106); none in RESETTING (R108). -/
def State.revoke (s : State) : State := if s.power.state = .resetting then s else (revokeLoop 12 s).passSince s

/-- The available budget computed afresh (R104): a rise makes a grant pass; a value that is no rise and lies below the budget in
use revokes, be it the old value (log 57, DESIGN CHOICE). -/
def State.recompute (s : State) : State :=
  let old := s.supply.avail
  let new := availOf s.supply.base s.supply.band s.supply.thermal s.supply.handshake
  let s := { s with supply := { s.supply with avail := new } }
  if old < new then s.grantPass
  else if new < s.inUse then s.revoke
  else s

/-! ### BUDGET_SET (R105) -/

/-- BUDGET_SET taken (R105): the reply follows the revocation and carries the new available budget. -/
def budgetSetTaken (tag : Byte) (budget : Half) (s : State) : State :=
  if s.resetting then s.refuse 0x38 tag .busy
  else
    match inRange 50 600 budget.toNat with
    | none => s.refuse 0x38 tag .badArg
    | some n =>
      let s := State.recompute { s with supply := { s.supply with base := n } }
      s.reply 0x38 tag .ok (b2 s.supply.avail)

/-- BUDGET_SET (R105). -/
def execBudgetSet (tag : Byte) (budget : Half) (s : State) : Host.Outcome State Fault Refusal :=
  .next (s.offer (Instr.budgetSet tag budget).frame? (budgetSetTaken tag budget))

/-! ### SUPPLY_SAMPLE (R101 to R104, R116) -/

/-- A SUPPLY report of a change; changes in INIT send none (R116). -/
def State.supplyChange (s : State) (cause : SupplyCause) : State :=
  if s.power.state = .init then s else s.supplyReport cause

/-- A voltage sample (R102). The report follows the grant pass of a rise, or the revocation of a fall with its grant pass, and
counts their grants (log 37, DESIGN CHOICE). -/
def State.sampleVoltage (s : State) (mv : Nat) : State :=
  let m := bandSample s.supply mv
  let t := { s with supply := m }
  if m.band = s.supply.band then t else t.recompute.supplyChange .band

/-- A temperature sample (R103). The report follows the grant pass of a rise, or the revocation of a fall with its grant pass, and
counts their grants (log 37, DESIGN CHOICE). -/
def State.sampleTemperature (s : State) (deci : Int) : State :=
  let m := thermalSample s.supply deci
  let t := { s with supply := m }
  if m.thermal = s.supply.thermal then t else t.recompute.supplyChange .thermal

/-- SUPPLY_SAMPLE (R101): a pair of samples, in every power state but SLEEP. The voltage takes all its effects, its report
included, before the temperature is applied (log 66, DESIGN CHOICE). -/
def execSupplySample (mv : Nat) (deci : Int) (s : State) : Host.Outcome State Fault Refusal :=
  .next (if s.power.inReset || decide (s.power.state = .sleep) then s
    else ((s.sampleVoltage mv).sampleTemperature deci).settle)

/-! ### SHARE_REQ_CHANGE (R113 to R115) -/

/-- SHARE_REQ taken as asserted in ACTIVE, DOZE or RESETTING (R114): the available budget becomes 0 and every revocable grant is
revoked, also where it was 0 before. With nothing moving after the revocation the handshake is YIELDED at the same moment. -/
def State.shareAsserted (s : State) : State :=
  let s := State.revoke { s with supply := { s.supply with shareReq := true, handshake := .draining, avail := 0 } }
  let s := if s.nothingMoves then { s with supply := { s.supply with handshake := .yielded, shareAck := true } } else s
  s.supplyReport .share

/-- SHARE_REQ taken as released in ACTIVE, DOZE or RESETTING (R114). The report follows the grant pass of the rise, and counts
its grants (log 37, DESIGN CHOICE). -/
def State.shareReleased (s : State) : State :=
  (State.recompute { s with supply := { s.supply with shareReq := false, handshake := .quiet, shareAck := false } }).supplyReport
    .share

/-- SHARE_REQ_CHANGE (R113 to R115): in INIT and SLEEP the handshake follows the level at once, without a report; a level
that is already taken changes nothing. -/
def execShareReqChange (level : Bool) (s : State) : Host.Outcome State Fault Refusal :=
  .next (if s.power.inReset || decide (level = s.supply.shareReq) then s
    else
      match s.power.state with
      | .init | .sleep => State.settle { s with supply := s.supply.follow level }
      | .active | .doze | .resetting => (if level then s.shareAsserted else s.shareReleased).settle)

/-- SHARE_YIELD (R114): the last moving axis has come to rest while DRAINING. It happens in the settling of the event that
brought the axis to rest. -/
def execShareYield (s : State) : Host.Outcome State Fault Refusal := s.event State.yieldShare

end Sys2Proof.Machine
end

