-- ==== Sys2Proof/Machine/LinkEvents.lean ====
section
/-! DEFINITION. The events of the Seat Link: taking a frame, the receiver, the transmitter, position reports, link
supervision, and the entry to SLEEP that the end of a transmission is (chapters 10 and 11). -/

namespace Sys2Proof.Machine

/-! ### Taking a frame (R178, R179) -/

/-- A request handed to its owner (R178); an event is none. -/
def takeRequest (i : Instr) (s : State) : State :=
  match i with
  | .ident tag => identTaken tag s
  | .status tag => statusTaken tag s
  | .setup tag w c b d => setupTaken tag w c b d s
  | .reset tag => resetTaken tag s
  | .axisSet tag a c => axisSetTaken tag a c s
  | .axisGet tag a f => axisGetTaken tag a f s
  | .ack tag a => ackTaken tag a s
  | .jog tag a d m n => jogTaken tag a d m n s
  | .home tag a => homeTaken tag a s
  | .check tag a => checkTaken tag a s
  | .profileWrite tag b i v => profileWriteTaken tag b i v s
  | .profileRead tag b i => profileReadTaken tag b i s
  | .profileSwap tag => profileSwapTaken tag s
  | .scaleSet tag g f => scaleSetTaken tag g f s
  | .keepoutSet tag e p k => keepoutSetTaken tag e p k s
  | .keepoutGet tag e => keepoutGetTaken tag e s
  | .planWrite tag st n es => planWriteTaken tag st n es s
  | .planRead tag f n => planReadTaken tag f n s
  | .planDefine tag sl st l cm t => planDefineTaken tag sl st l cm t s
  | .run tag sl => runTaken tag sl s
  | .pause tag r => pauseTaken tag r s
  | .resume tag r => resumeTaken tag r s
  | .halt tag r => haltTaken tag r s
  | .mark tag m a => markTaken tag m a s
  | .runGet tag r f => runGetTaken tag r f s
  | .budgetSet tag b => budgetSetTaken tag b s
  | .power tag m w h q => powerTaken tag m w h q s
  | .unknownKind tag kind _ => s.refuse kind tag .unknownKind
  | .byteReceived .. | .interByteGap | .transmitEnd | .cadenceExpiry | .supervisionLapse | .hallEdge .. | .handMoveRest ..
  | .blankingEnd .. | .obstructionCurrent .. | .stall .. | .controlledStopRampEnd .. | .standstill .. | .checkPulseEnd ..
  | .escalation .. | .heatTick | .jogWindowExpiry .. | .blockTimeout .. | .settleCloseEnd .. | .settleOpenEnd ..
  | .shortTrip .. | .cooldownEnd .. | .afterDelayExpiry .. | .runTimeout .. | .runnerPaused .. | .haltingEnd ..
  | .supplySample .. | .shareReqChange .. | .shareYield | .inhibitChange .. | .idleDwellExpiry | .driveStageReady
  | .sleepEntry | .wakeEvent .. | .wakeTimeEnd | .powerOnReset | .initEnd | .resettingComplete | .initStart => s

/-- A frame is taken: the two link checks, then its owner (R178, R179). -/
def takeFrame (f : Frame) (s : State) : State :=
  match f.decode with
  | .request i => takeRequest i s
  | .unknownKind => s.refuse f.kind f.tag .unknownKind
  | .badLength => s.refuse f.kind f.tag .badLength

/-- The oldest frame of the intake buffer is taken where it can be (R178). -/
def State.takeNext (s : State) : State :=
  if s.canTake && s.power.state.runs then
    match s.link.intake with
    | [] => s
    | f :: fs => takeFrame f { s with link := { s.link with intake := fs } }
  else s

/-! ### UNKNOWN_KIND (R179) -/

/-- UNKNOWN_KIND (R179): the frame takes the path of any frame. -/
def execUnknownKind (tag kind : Byte) (payload : List Byte) (s : State) : Host.Outcome State Fault Refusal :=
  .next (s.offer (Instr.unknownKind tag kind payload).frame? (takeFrame ⟨kind, tag, payload⟩))

/-! ### BYTE_RECEIVED (R174, R175, R199) -/

/-- The frame that the stored bytes of a body are: kind, tag, payload. -/
def frameOf : List Byte → Option Frame
  | kind :: tag :: payload => some ⟨kind, tag, payload⟩
  | _ => none

/-- A byte without a framing error in a receive state: the next one, and the valid frame that it completes (R174, R175). -/
def rxByte (rx : Rx) (b : Byte) : Rx × Option Frame :=
  match rx with
  | .hunt => (if b = 0x5A then .length else .hunt, none)
  | .length => (if 2 ≤ b.toNat ∧ b.toNat ≤ 62 then .body b.toNat [] else .hunt, none)
  | .body len stored =>
    let stored := stored ++ [b]
    (if len ≤ stored.length then .crc len stored none else .body len stored, none)
  | .crc len stored none => (.crc len stored (some b), none)
  | .crc len stored (some hi) => (.hunt, if half hi b = crc (byteOf len :: stored) then frameOf stored else none)

/-- The receive state replaced. -/
def State.setRx (s : State) (rx : Rx) : State := { s with link := { s.link with rx := rx } }

/-- A byte reaches the receiver in ACTIVE, DOZE or RESETTING (R174, R175). -/
def State.receive (s : State) (b : Byte) (framingError : Bool) : State :=
  if framingError then s.setRx .hunt
  else
    let r := rxByte s.link.rx b
    match r.2 with
    | none => s.setRx r.1
    | some f => (s.setRx r.1).offerFrame f (takeFrame f)

/-- The effect of a byte on RX; in SLEEP its start bit is a falling edge (R174, R199). -/
def byteEffect (b : Byte) (framingError : Bool) (s : State) : State :=
  match s.power.state with
  | .init => s
  | .sleep => s.wakeBy .link
  | .active | .doze | .resetting => s.receive b framingError

/-- BYTE_RECEIVED (R174). -/
def execByteReceived (b : Byte) (framingError : Bool) (s : State) : Host.Outcome State Fault Refusal :=
  s.event (byteEffect b framingError)

/-! ### INTER_BYTE_GAP (R174) -/

/-- INTER_BYTE_GAP (R174): a frame in progress is discarded. -/
def execInterByteGap (s : State) : Host.Outcome State Fault Refusal :=
  s.event (fun s => if s.power.state.runs then s.setRx .hunt else s)

/-! ### Entry to SLEEP (R197) -/

/-- Entry to SLEEP (R98, R115, R177, R197, R199). -/
def State.enterSleep (s : State) : State :=
  let t := s.modChans Channel.ended
  { t with
    supply := s.supply.follow s.supply.shareReq,
    link := { s.link with rx := .hunt, intake := [], slot := none, tx := none },
    power := { s.power with
      state := .sleep, stage := .off, dwell := none, sleepTime := 0, sleepTicks := 0,
      wakeCause := if s.wakeLine then some .line else none } }

/-- The effect of the sleep-entry event: a POWER has been taken, and its reply has been sent (R197). -/
def sleepEntryEffect (s : State) : State :=
  let sent := match s.link.tx with
    | none => true
    | some f => f.sleepReply
  if s.power.sleepOpts.isSome && (decide (s.power.state = .active) || decide (s.power.state = .doze)) &&
      s.link.slot.isNone && sent then s.enterSleep
  else s

/-- SLEEP_ENTRY (R197). -/
def execSleepEntry (s : State) : Host.Outcome State Fault Refusal := s.event sleepEntryEffect

/-! ### TRANSMIT_END (R178, R181) -/

/-- The end of a frame on TX: the entry to SLEEP after the reply to POWER, else the next frame, and the taking that an
emptied reply slot lets begin (R178, R181, R197). -/
def transmitEndEffect (s : State) : State :=
  match s.link.tx with
  | none => s
  | some f =>
    let s := { s with link := { s.link with tx := none } }
    if f.sleepReply && s.power.sleepOpts.isSome then s.enterSleep else s.startTx.takeNext

/-- TRANSMIT_END (R181). -/
def execTransmitEnd (s : State) : Host.Outcome State Fault Refusal := s.event transmitEndEffect

/-! ### CADENCE_EXPIRY (R184) -/

/-- The phase code of a listed axis (R192, POSITIONS). -/
def Axis.phaseCode (x : Axis) : Nat :=
  match x.motion with
  | .stopping => 4
  | .backoff => 5
  | .idle | .queued | .engaging | .driving | .blocked | .fault | .checking => (x.phase.getD .creep).code

/-- The remaining distance of a backoff (R184). -/
def Backoff.remaining (k : Backoff) : Nat :=
  match k.step with
  | .brake => k.distance
  | .reverse => ((k.distance : Int) - k.count).toNat
  | .finish => 0

/-- The remaining distance that a POSITIONS report gives (R184). -/
def Axis.listedRemaining (x : Axis) : Option Nat :=
  match x.motion, x.backoff, x.pos with
  | .backoff, some k, some _ => some k.remaining
  | .backoff, _, _ => none
  | _, _, _ => x.remaining

/-- One axis of a POSITIONS report (R184). -/
def State.posItem (s : State) (a : AxisNo) : PosItem :=
  let x := s.ax a
  ⟨a, x.phaseCode, x.escalated, x.pos, x.listedRemaining⟩

/-- The axes a POSITIONS report lists (R184). -/
def State.listedAxes (s : State) : List AxisNo := allAxes.filter (fun a => (s.ax a).motion.listed)

/-- The effect of a cadence expiry: a POSITIONS report, and the timer restarts from 0 (R184). -/
def cadenceEffect (s : State) : State :=
  match s.link.cadence with
  | none => s
  | some _ =>
    State.report { s with link := { s.link with cadence := some 0 } } (.positions (s.listedAxes.map s.posItem))

/-- CADENCE_EXPIRY (R184). -/
def execCadenceExpiry (s : State) : Host.Outcome State Fault Refusal := s.event cadenceEffect

/-! ### SUPERVISION_LAPSE (R185, R186) -/

/-- The link silence ends the operation: a HOME or a COUNTS jog (R17, R50, R52, R69). -/
def LinkOp.silenced (op : LinkOp) : Bool :=
  match op.kind with
  | .home => true
  | .jog => !op.hold
  | .check => false

/-- The silence handed to the runners, in increasing number (log 59, DESIGN CHOICE), and the link operations (R171, R186). -/
def State.silence (s : State) : State :=
  ((allRunners.foldl (fun t r => t.pauseActive r .link) s).endLinkOps LinkOp.silenced .linkSilent).passSince s

/-- The effect of a lapse of the supervision window (R185). -/
def lapseEffect (s : State) : State :=
  match s.link.supervision with
  | .watching _ _ => State.silence { s with link := { s.link with supervision := .lapsed } }
  | .off | .lapsed => s

/-- SUPERVISION_LAPSE (R185). -/
def execSupervisionLapse (s : State) : Host.Outcome State Fault Refusal := s.event lapseEffect

end Sys2Proof.Machine
end

