-- ==== Sys2Proof/Machine/PowerEvents.lean ====
section
/-! DEFINITION. The events of the power controller: start-up, DOZE, the drive stage, wake, the completion of a soft reset
(chapter 11). The entry to SLEEP stands with the transmitter, in LinkEvents.lean. -/

namespace Sys2Proof.Machine

/-! ### IDLE_DWELL_EXPIRY (R195) -/

/-- The effect of the idle dwell timer's expiry: DOZE (R195). -/
def dwellExpiryEffect (s : State) : State :=
  if s.power.state = .active ∧ s.power.dwell.isSome ∧ s.idle then s.enterDoze else s

/-- IDLE_DWELL_EXPIRY (R195). -/
def execIdleDwellExpiry (s : State) : Host.Outcome State Fault Refusal := s.event dwellExpiryEffect

/-! ### DRIVE_STAGE_READY (R97, R193) -/

/-- The effect of the drive stage becoming READY: a pass over the whole queue (R97, R193). In RESETTING the stage keeps the
state it had (R201). -/
def stageReadyEffect (s : State) : State :=
  if s.power.stage = .waking ∧ s.power.state ≠ .resetting then State.grantPass { s with power := { s.power with stage := .ready } } else s

/-- DRIVE_STAGE_READY (R193). -/
def execDriveStageReady (s : State) : Host.Outcome State Fault Refusal := s.event stageReadyEffect

/-! ### WAKE_EVENT (R199) -/

/-- The part wakes on a hand count (R199). -/
def State.wakesOnHand (s : State) : Bool :=
  match s.power.sleepOpts with
  | some o => o.watch && o.wakeOnHand
  | none => false

/-- The effect of a wake source (R199): the level of the WAKE line is taken in every state. -/
def wakeEffect (source : WakeSource) (s : State) : State :=
  match source with
  | .rxEdge => s.wakeBy .link
  | .line level =>
    let s := { s with wakeLine := level }
    if level then s.wakeBy .line else s
  | .hand => if s.wakesOnHand then s.wakeBy .hand else s

/-- WAKE_EVENT (R199). The level of the WAKE line is a level of a pin, also while the part is held in reset (log 23); nothing
wakes a part held in reset (R194). -/
def execWakeEvent (source : WakeSource) (s : State) : Host.Outcome State Fault Refusal := .next (wakeEffect source s).settle

/-! ### WAKE_TIME_END (R200) -/

/-- Step 1: the heat credit of a sleep, in seconds, with the lockout re-evaluated (R48, R200). -/
def Axis.credit (seconds : Nat) (x : Axis) : Axis :=
  let h := x.heat - Config.sleepCredit * seconds
  { x with heat := h, lockout := match x.config with
    | none => x.lockout
    | some c => lockoutAfter x.lockout h c.heatLimit }

/-- Step 2 with its reports of step 3: an unwatched hand-movable axis becomes SUSPECT (R20, R200), in increasing axis number. -/
def State.suspectUnwatched (s : State) : State :=
  allAxes.foldl (fun t a =>
    if ((t.ax a).config.map AxisConfig.handMovable).getD false then t.suspect a .wake else t) s

/-- Step 4: the episodes that have rested close (R19, R200), in increasing axis number (log 50, DESIGN CHOICE). -/
def State.closeRested (s : State) : State :=
  allAxes.foldl (fun t a => if ((t.ax a).episode.map Episode.rested).getD false then t.closeEpisode a else t) s

/-- The supply monitor at a wake: its filters start from counters at 0 (R117). -/
def Supply.atWake (m : Supply) : Supply :=
  { m with falling := 0, rising := 0, fallDeep := false, heating := 0, cooling := 0, heatDeep := false,
           avail := availOf m.base m.band m.thermal m.handshake }

/-- The part enters ACTIVE at the end of the wake time (R200). -/
def State.wake (s : State) (cause : WakeCause) (o : SleepOpts) : State :=
  let s := s.modAll allAxes (Axis.credit s.power.sleepTime)
  let s := { s with
    supply := s.supply.atWake, link := { s.link with rx := .hunt },
    power := { s.power with state := .active, dwell := none, sleepOpts := none, wakeCause := none } }
  let s := (s.report (.wake cause s.power.sleepTime (some o))).supplyReport .wake
  let s := if o.watch then s else s.suspectUnwatched
  s.closeRested

/-- The effect of the end of the wake time (R200). -/
def wakeEndEffect (s : State) : State :=
  match s.power.state, s.power.wakeCause, s.power.sleepOpts with
  | .sleep, some c, some o => s.wake c o
  | _, _, _ => s

/-- WAKE_TIME_END (R200). -/
def execWakeTimeEnd (s : State) : Host.Outcome State Fault Refusal := s.event wakeEndEffect

/-! ### POWER_ON_RESET, INIT_START, INIT_END (R194) -/

/-- Every block at its power-on values. The queue of commands, the counter of free values and the level of the WAKE pin are
no part of a block. -/
def State.powerOn (s : State) (inReset : Bool) : State :=
  { State.reset with
    power := { Power.reset with inReset := inReset }, wakeLine := s.wakeLine, freeIndex := s.freeIndex,
    pending := s.pending }

/-- POWER_ON_RESET (R194): the supply is below 6.0 V, and the part is held in reset. -/
def execPowerOnReset (s : State) : Host.Outcome State Fault Refusal := .next (s.powerOn true)

/-- INIT_START (R194): the supply has returned, and INIT begins. -/
def execInitStart (s : State) : Host.Outcome State Fault Refusal :=
  .next (if s.power.inReset then s.powerOn false else s)

/-- The effect of the end of INIT: ACTIVE, with WAKE and SUPPLY (R116, R194). -/
def initEndEffect (s : State) : State :=
  if s.power.state = .init then
    (State.report { s with power := { s.power with state := .active } } (.wake .powerOn 0 none)).supplyReport .wake
  else s

/-- INIT_END (R194). -/
def execInitEnd (s : State) : Host.Outcome State Fault Refusal := s.event initEndEffect

/-! ### RESETTING_COMPLETE (R202) -/

/-- RESETTING_COMPLETE (R202): it happens in the settling of the event that brought the last axis to rest. -/
def execResettingComplete (s : State) : Host.Outcome State Fault Refusal := s.event State.completeReset

end Sys2Proof.Machine
end

