-- ==== Sys2Proof/Machine/Dispatch.lean ====
section
/-! DEFINITION. The meaning of every command, one arm per constructor. -/

namespace Sys2Proof.Machine

/-- The effect of a command on everything but the queue of waiting commands. -/
def exec (i : Instr) (s : State) : Host.Outcome State Fault Refusal :=
  match i with
  | .ident tag => Sys2Proof.Machine.execIdent tag s
  | .status tag => Sys2Proof.Machine.execStatus tag s
  | .setup tag window cadence blockTimeout dwell => Sys2Proof.Machine.execSetup tag window cadence blockTimeout dwell s
  | .reset tag => Sys2Proof.Machine.execReset tag s
  | .axisSet tag axis args => Sys2Proof.Machine.execAxisSet tag axis args s
  | .axisGet tag axis form => Sys2Proof.Machine.execAxisGet tag axis form s
  | .ack tag axis => Sys2Proof.Machine.execAck tag axis s
  | .jog tag axis dir mode counts => Sys2Proof.Machine.execJog tag axis dir mode counts s
  | .home tag axis => Sys2Proof.Machine.execHome tag axis s
  | .check tag axis => Sys2Proof.Machine.execCheck tag axis s
  | .profileWrite tag bank index vals => Sys2Proof.Machine.execProfileWrite tag bank index vals s
  | .profileRead tag bank index => Sys2Proof.Machine.execProfileRead tag bank index s
  | .profileSwap tag => Sys2Proof.Machine.execProfileSwap tag s
  | .scaleSet tag group factor => Sys2Proof.Machine.execScaleSet tag group factor s
  | .keepoutSet tag entry present args => Sys2Proof.Machine.execKeepoutSet tag entry present args s
  | .keepoutGet tag entry => Sys2Proof.Machine.execKeepoutGet tag entry s
  | .planWrite tag start count entries => Sys2Proof.Machine.execPlanWrite tag start count entries s
  | .planRead tag first count => Sys2Proof.Machine.execPlanRead tag first count s
  | .planDefine tag slot start length clearMarks timeout => Sys2Proof.Machine.execPlanDefine tag slot start length clearMarks timeout s
  | .run tag slot => Sys2Proof.Machine.execRun tag slot s
  | .pause tag runner => Sys2Proof.Machine.execPause tag runner s
  | .resume tag runner => Sys2Proof.Machine.execResume tag runner s
  | .halt tag runner => Sys2Proof.Machine.execHalt tag runner s
  | .mark tag mark action => Sys2Proof.Machine.execMark tag mark action s
  | .runGet tag runner first => Sys2Proof.Machine.execRunGet tag runner first s
  | .budgetSet tag budget => Sys2Proof.Machine.execBudgetSet tag budget s
  | .power tag mode watch wakeOnHand quick => Sys2Proof.Machine.execPower tag mode watch wakeOnHand quick s
  | .unknownKind tag kind payload => Sys2Proof.Machine.execUnknownKind tag kind payload s
  | .byteReceived value framingError => Sys2Proof.Machine.execByteReceived value framingError s
  | .interByteGap => Sys2Proof.Machine.execInterByteGap s
  | .transmitEnd => Sys2Proof.Machine.execTransmitEnd s
  | .cadenceExpiry => Sys2Proof.Machine.execCadenceExpiry s
  | .supervisionLapse => Sys2Proof.Machine.execSupervisionLapse s
  | .hallEdge axis step => Sys2Proof.Machine.execHallEdge axis step s
  | .handMoveRest axis => Sys2Proof.Machine.execHandMoveRest axis s
  | .blankingEnd axis => Sys2Proof.Machine.execBlankingEnd axis s
  | .obstructionCurrent axis => Sys2Proof.Machine.execObstructionCurrent axis s
  | .stall axis => Sys2Proof.Machine.execStall axis s
  | .controlledStopRampEnd axis => Sys2Proof.Machine.execControlledStopRampEnd axis s
  | .standstill axis => Sys2Proof.Machine.execStandstill axis s
  | .checkPulseEnd axis peak => Sys2Proof.Machine.execCheckPulseEnd axis peak s
  | .escalation axis => Sys2Proof.Machine.execEscalation axis s
  | .heatTick => Sys2Proof.Machine.execHeatTick s
  | .jogWindowExpiry axis => Sys2Proof.Machine.execJogWindowExpiry axis s
  | .blockTimeout axis => Sys2Proof.Machine.execBlockTimeout axis s
  | .settleCloseEnd chan => Sys2Proof.Machine.execSettleCloseEnd chan s
  | .settleOpenEnd chan => Sys2Proof.Machine.execSettleOpenEnd chan s
  | .shortTrip chan => Sys2Proof.Machine.execShortTrip chan s
  | .cooldownEnd chan => Sys2Proof.Machine.execCooldownEnd chan s
  | .afterDelayExpiry runner move gate => Sys2Proof.Machine.execAfterDelayExpiry runner move gate s
  | .runTimeout runner => Sys2Proof.Machine.execRunTimeout runner s
  | .runnerPaused runner => Sys2Proof.Machine.execRunnerPaused runner s
  | .haltingEnd runner => Sys2Proof.Machine.execHaltingEnd runner s
  | .supplySample millivolts deciCelsius => Sys2Proof.Machine.execSupplySample millivolts deciCelsius s
  | .shareReqChange asserted => Sys2Proof.Machine.execShareReqChange asserted s
  | .shareYield => Sys2Proof.Machine.execShareYield s
  | .inhibitChange asserted => Sys2Proof.Machine.execInhibitChange asserted s
  | .idleDwellExpiry => Sys2Proof.Machine.execIdleDwellExpiry s
  | .driveStageReady => Sys2Proof.Machine.execDriveStageReady s
  | .sleepEntry => Sys2Proof.Machine.execSleepEntry s
  | .wakeEvent source => Sys2Proof.Machine.execWakeEvent source s
  | .wakeTimeEnd => Sys2Proof.Machine.execWakeTimeEnd s
  | .powerOnReset => Sys2Proof.Machine.execPowerOnReset s
  | .initEnd => Sys2Proof.Machine.execInitEnd s
  | .resettingComplete => Sys2Proof.Machine.execResettingComplete s
  | .initStart => Sys2Proof.Machine.execInitStart s

end Sys2Proof.Machine
end

