-- ==== Sys2Proof/Safety.lean ====
section
/-! DEFINITION. What counts as a safe run, and the laws of the device and the conditions on states that claims use. -/

namespace Sys2Proof.Safety

open Sys2Proof.Machine

/-! ### Safe steps -/

/-- A step is safe when it stops neither with a fault nor with a refusal. -/
def SafeStep (s : State) : Prop := ∃ t, step s = .next t

/-! ### Conditions on states -/

/-- Nothing is due that would follow a command at once: no move could be activated, no runner or link operation ended, no
share request answered, no soft reset completed. -/
structure Calm (s : State) : Prop where
  running : s.power.inReset = false
  awake : s.power.state = .active ∨ s.power.state = .doze ∨ (s.power.state = .resetting ∧ s.nothingMoves = false)
  moves : s.nextMove = none
  runners : ∀ r run, s.run r = some run →
    run.state = .running ∨ run.state = .paused ∨ (run.state = .halting ∧ run.endKind = some .reset)
  ops : ∀ a op, (s.ax a).owner = .link op → op.result = none
  share : s.supply.handshake ≠ .draining ∨ s.nothingMoves = false

/-- A request that arrives now is taken at once (R178). -/
structure Takes (s : State) : Prop where
  intake : s.link.intake = []
  slot : s.link.slot = none
  sleepOpts : s.power.sleepOpts = none

/-- A request that arrives now is taken at once in ACTIVE or DOZE, and judged by its owner (R178, R179). -/
structure Listens (s : State) : Prop extends Takes s where
  running : s.power.inReset = false
  awake : s.power.state = .active ∨ s.power.state = .doze

/-- A request that arrives now is taken at once in RESETTING (R178, R201). -/
structure Resets (s : State) : Prop extends Takes s where
  running : s.power.inReset = false
  resetting : s.power.state = .resetting

/-- The power state is ACTIVE or DOZE. -/
def Awake (s : State) : Prop := s.power.state = .active ∨ s.power.state = .doze

/-- The Hall inputs are powered and decoded: in ACTIVE, DOZE and RESETTING, in SLEEP with watch (R7, R199). -/
def HallPowered (s : State) : Prop :=
  s.power.state.runs = true ∨ (s.power.state = .sleep ∧ ∃ o, s.power.sleepOpts = some o ∧ o.watch = true)

/-- A state as a hand count finds it: in SLEEP with watch and wake-on-hand, a count that is the first wake event has named the
wake cause (R199). -/
def handWoken (s : State) : State :=
  match s.power.state, s.power.sleepOpts, s.power.wakeCause with
  | .sleep, some ⟨true, true, _⟩, none => { s with power := { s.power with wakeCause := some .hand } }
  | _, _, _ => s

/-- No runner is RUNNING. -/
def NoRun (s : State) : Prop := ∀ r run, s.run r = some run → run.state ≠ .running

/-- Two axes agree on everything but the duties of the present 10 ms interval and the skew mark, which the timing of commands
decides. -/
def SameAxis (x y : Axis) : Prop := y = { x with dutyLo := y.dutyLo, dutyHi := y.dutyHi, skewRaised := y.skewRaised }

/-! ### What control leaves alone -/

/-- Two axes agree on their configuration and on everything that is measured or counted; a VALID reference may have fallen to
SUSPECT. -/
structure Measured (x y : Axis) : Prop where
  config : y.config = x.config
  pos : y.pos = x.pos
  overrun : y.overrun = x.overrun
  lashDir : y.lashDir = x.lashDir
  lashRem : y.lashRem = x.lashRem
  ref : y.ref = x.ref ∨ (x.ref = .valid ∧ y.ref = .suspect)
  heat : y.heat = x.heat
  lockout : y.lockout = x.lockout
  lastCheck : y.lastCheck = x.lastCheck

/-- What motion control leaves of an axis: what is configured and measured, and the first fault's entries in its record
(R62). Only where `F` holds may a reference have fallen. -/
structure KeptAxis (F : Prop) (x y : Axis) : Prop extends Measured x y where
  falls : y.ref ≠ x.ref → F
  fault : ∀ f, x.fault = some f →
    ∃ g, y.fault = some g ∧ g.kind = f.kind ∧ g.cause = f.cause ∧ g.pos = f.pos ∧ g.entry = f.entry

/-- `t` is reached from `s` by control alone: starts and stops of axes, grants, blocks, faults, the progress of runs, and
their reports. Nothing that is measured, configured or received changes; of the supply monitor the grant counter alone moves;
a RETIRED channel stays RETIRED. Only where `F` holds may a reference have fallen: that is the skew check alone (R82). -/
structure Controls (F : Prop) (s t : State) : Prop where
  axes : ∀ a, KeptAxis F (s.ax a) (t.ax a)
  store : t.store = s.store
  entries : t.entries = s.entries
  places : t.places = s.places
  slots : t.slots = s.slots
  inhibit : t.inhibit = s.inhibit
  wakeLine : t.wakeLine = s.wakeLine
  pending : t.pending = s.pending
  rx : t.link.rx = s.link.rx
  intake : t.link.intake = s.link.intake
  slot : t.link.slot = s.link.slot
  tx : t.link.tx = s.link.tx
  cadence : t.link.cadence = s.link.cadence
  supervision : t.link.supervision = s.link.supervision
  setup : t.link.setup = s.link.setup
  supply : t.supply = { s.supply with grantCounter := t.supply.grantCounter }
  inReset : t.power.inReset = s.power.inReset
  sleepOpts : t.power.sleepOpts = s.power.sleepOpts
  sleepTime : t.power.sleepTime = s.power.sleepTime
  sleepTicks : t.power.sleepTicks = s.power.sleepTicks
  wakeCause : t.power.wakeCause = s.power.wakeCause
  power : t.power.state = s.power.state ∨ (s.power.state = .doze ∧ t.power.state = .active)
  reports : s.link.reports.length ≤ Config.reportQueueSize → t.link.reports.length ≤ Config.reportQueueSize
  retired : ∀ c, (s.ch c).state = .retired → (t.ch c).state = .retired

/-! ### The laws of the device -/

/-- The position law of one axis (R2, R3, R8, R9): a position exactly with a reference, within the travel; overrun within the end
zone, only at a bound, and 0 without a position; the lash remaining within the lash where there is a reference, and within the
largest lash of any record always. An UNKNOWN axis may hold more than its present lash: a change of travel or reference end keeps
the lash state beside whatever lash the new record has (R3). -/
def PositionLaw (x : Axis) : Prop :=
  (x.pos.isSome ↔ x.ref ≠ .unknown) ∧
  (x.pos = none → x.overrun = 0) ∧
  x.lashRem ≤ 63 ∧
  (∀ c, x.config = some c → c.lash ≤ 63 ∧ (x.lashRem ≤ c.lash ∨ x.ref = .unknown)) ∧
  (∀ c p, x.config = some c → x.pos = some p →
    p ≤ c.travel ∧ x.overrun ≤ c.endZone ∧ (0 < x.overrun → p = 0 ∨ p = c.travel))

/-- The position law holds for every axis. -/
def PositionsLawful (s : State) : Prop := ∀ a, PositionLaw (s.ax a)

/-- The available budget is what R104 computes. -/
def BudgetLawful (s : State) : Prop :=
  s.supply.avail = availOf s.supply.base s.supply.band s.supply.thermal s.supply.handshake

/-- The report queue and the intake buffer hold no more than they have places for (R177, R182). -/
def BuffersLawful (s : State) : Prop :=
  s.link.reports.length ≤ Config.reportQueueSize ∧ s.link.intake.length ≤ Config.intakeSize

end Sys2Proof.Safety
end

