-- ==== Sys2Proof/Certificates/Slice0/Obligations.lean ====
section
/-! DEFINITION. The statements for the provers. A statement of what a command does has the form `exec c s = .next t`, with `t`
written out; where automatic consequences can follow at the same moment (grants, starts of moves, ends of runs, timers, the
transmitter), `t` is the settling of the state written out, and `SettleKeepsWhatIsMeasured` and `CalmSettleIsTheClocks` say
what settling leaves unchanged. `Listens s` says that a request arriving now is taken at once. -/

open Sys2Proof Sys2Proof.Machine Sys2Proof.Safety

/-! ### Steps, resets, settling -/

/-- A step runs the command at the front of the queue on the state with the queue's rest. On an empty queue it idles,
which is the model's choice (log 6). Choices of the model: log 1. -/
def Obligations.StepRunsFrontCommand : Prop :=
  (∀ (c : Instr) (rest : List Instr) (s : State), s.pending = c :: rest → step s = exec c { s with pending := rest }) ∧
  (∀ s : State, s.pending = [] → step s = .next s)

/-- The values that the power-on reset tables give, at the start of INIT (R21, R29, R99, R117, R134, R151, R173, R187,
R191, R194, R203), and that the invariants of this file hold there. Choices of the model: log 3. -/
def Obligations.ResetIsStartOfInit : Prop :=
  (let s := State.reset
   (s.power.state = .init ∧ s.power.stage = .off ∧ s.power.dwell = none ∧ s.power.sleepOpts = none ∧
     s.power.wakeCause = none ∧ s.power.sleepTime = 0) ∧
   (∀ a, (s.ax a).config = none ∧ (s.ax a).ref = .unknown ∧ (s.ax a).pos = none ∧ (s.ax a).overrun = 0 ∧
     (s.ax a).lashDir = .low ∧ (s.ax a).lashRem = 0 ∧ (s.ax a).episode = none ∧ (s.ax a).motion = .idle ∧
     (s.ax a).owner = .none ∧ (s.ax a).move = none ∧ (s.ax a).fault = none ∧ (s.ax a).link = none ∧
     (s.ax a).lastCheck = none ∧ (s.ax a).heat = 0 ∧ (s.ax a).lockout = false ∧ (s.ax a).escalated = false) ∧
   (∀ c, s.ch c = ⟨.free, none, none, 0, none, false⟩) ∧ s.queue = [] ∧
   (∀ k i, s.profile k i = ⟨30, 80, 60, 35, 80, 3, 4, 40, 80, 150⟩) ∧ s.store.active = .a ∧
   (∀ g : Fin 3, s.store.scales[g] = 100) ∧
   (s.supply.band = .normal ∧ s.supply.thermal = .cool ∧ s.supply.base = 200 ∧ s.supply.falling = 0 ∧ s.supply.rising = 0 ∧
     s.supply.heating = 0 ∧ s.supply.cooling = 0 ∧ s.supply.handshake = .quiet ∧ s.supply.shareAck = false ∧
     s.supply.avail = 200 ∧ s.inUse = 0) ∧
   (∀ n : EntryNo, s.entries[n] = none) ∧ (∀ i : Fin 64, s.places[i] = none) ∧ (∀ k : SlotNo, s.slots[k].length = 0) ∧
   s.marks = 0 ∧ (∀ r, s.run r = none) ∧ s.inhibit = false ∧
   (s.link.rx = .hunt ∧ s.link.intake = [] ∧ s.link.slot = none ∧ s.link.tx = none ∧ s.link.reports = [] ∧
     s.link.overflow = false ∧ s.link.cadence = none ∧ s.link.supervision = .off ∧ s.link.setup = ⟨500, 200, 8, 20⟩)) ∧
  (PositionsLawful State.reset ∧ BudgetLawful State.reset ∧ BuffersLawful State.reset)



/-- What follows an event at the same moment changes nothing that is configured, stored or measured, unless it completes a
soft reset: of the axes it keeps configuration, reference, position, lash, heat, lockout and the last winding test. Choices of
the model: log 10. -/
def Obligations.SettleKeepsWhatIsMeasured : Prop :=
  ∀ s : State, s.power.state ≠ .resetting →
    (∀ a, Measured (s.ax a) (s.settle.ax a) ∧ (s.settle.ax a).ref = (s.ax a).ref) ∧ s.settle.store = s.store ∧
    s.settle.entries = s.entries ∧
    s.settle.places = s.places ∧ s.settle.slots = s.slots ∧ s.settle.inhibit = s.inhibit ∧
    s.settle.wakeLine = s.wakeLine ∧ s.settle.pending = s.pending ∧ s.settle.link.rx = s.link.rx ∧
    s.settle.link.intake = s.link.intake ∧ s.settle.link.setup = s.link.setup ∧ s.settle.supply.band = s.supply.band ∧
    s.settle.supply.thermal = s.supply.thermal ∧ s.settle.supply.base = s.supply.base ∧
    s.settle.supply.shareReq = s.supply.shareReq ∧ s.settle.power.sleepOpts = s.power.sleepOpts ∧
    s.settle.power.sleepTime = s.power.sleepTime ∧ (∀ c, (s.ch c).state = .retired → (s.settle.ch c).state = .retired)

/-- Where nothing is due, settling is the following of the timers and the transmitter alone. These change no block but the
link and the power controller's idleness: every axis stands as it did but for the duties of the present interval, which take
up the duty applied now (R47), and the skew mark, which a gang out of motion loses (R74). The idle dwell timer runs where
ACTIVE is idle, and what ends idleness ends DOZE (R195, R196); supervision starts its window where some runner or axis is at
work and is OFF where none is (R185); the cadence timer runs while an axis drives, stops or backs off, unless the cadence is 0
(R184). A reply that waits while the line is idle begins to be sent (R181); else the oldest report does, or nothing. What
settling does, in the order of the model: the activation passes, the runners at rest, the link operations whose end is
decided, the share handshake, the completion of a soft reset, the clocks. Choices of the model: log 10. -/
def Obligations.CalmSettleIsTheClocks : Prop :=
  (∀ s : State, Calm s → s.settle = s.clocks) ∧
  (∀ s : State,
     (∀ a, SameAxis (s.ax a) (s.clocks.ax a)) ∧ s.clocks.store = s.store ∧ s.clocks.chans = s.chans ∧
     s.clocks.queue = s.queue ∧ s.clocks.stamps = s.stamps ∧ s.clocks.supply = s.supply ∧ s.clocks.entries = s.entries ∧
     s.clocks.places = s.places ∧ s.clocks.slots = s.slots ∧ s.clocks.marks = s.marks ∧ s.clocks.runners = s.runners ∧
     s.clocks.inhibit = s.inhibit ∧ s.clocks.pending = s.pending ∧ s.clocks.link.rx = s.link.rx ∧
     s.clocks.link.intake = s.link.intake ∧ s.clocks.link.overflow = s.link.overflow ∧
     s.clocks.link.setup = s.link.setup ∧
     (∀ r, s.link.slot = some r → s.link.tx = none → s.power.state.runs = true →
       s.clocks.link.tx = some ⟨r.frame.bytes, s.power.sleepOpts.isSome⟩ ∧ s.clocks.link.slot = none ∧
       s.clocks.link.reports = s.link.reports) ∧
     (∀ r rs, s.link.slot = none → s.link.reports = r :: rs → s.link.tx = none → s.power.state.runs = true →
       s.clocks.link.tx = some ⟨r.frame.bytes, false⟩ ∧ s.clocks.link.reports = rs) ∧
     (∀ f, s.link.tx = some f →
       s.clocks.link.tx = some f ∧ s.clocks.link.slot = s.link.slot ∧ s.clocks.link.reports = s.link.reports)) ∧
  (∀ s : State,
     let p := s.power
     (p.state = .active → s.idle = true → s.clocks.power = { p with dwell := some (p.dwell.getD 0) }) ∧
     (p.state = .active → s.idle = false → s.clocks.power = { p with dwell := none }) ∧
     (p.state = .doze → s.idle = true → s.clocks.power = p) ∧
     (p.state = .doze → s.idle = false → s.clocks.power = { p with state := .active, dwell := none }) ∧
     (p.state = .init ∨ p.state = .sleep ∨ p.state = .resetting → s.clocks.power = { p with dwell := none })) ∧
  (∀ s : State,
     let due := Awake s ∧ ((∃ r run, s.run r = some run ∧ (run.state = .running ∨ run.state = .pausing)) ∨
       ∃ a, (s.ax a).motion ≠ .idle ∧ (s.ax a).motion ≠ .fault)
     let listed := ∃ a, (s.ax a).motion = .driving ∨ (s.ax a).motion = .stopping ∨ (s.ax a).motion = .backoff
     (due → s.link.supervision = .off → s.clocks.link.supervision = .watching 0 s.link.setup.window) ∧
     (due → s.link.supervision ≠ .off → s.clocks.link.supervision = s.link.supervision) ∧
     (¬ due → s.clocks.link.supervision = .off) ∧
     (listed → s.link.setup.cadence ≠ 0 → s.clocks.link.cadence = some (s.link.cadence.getD 0)) ∧
     (¬ listed ∨ s.link.setup.cadence = 0 → s.clocks.link.cadence = none)) ∧
  (∀ s : State, (s.power.inReset = true → s.settle = s) ∧ (s.power.inReset = false →
     s.settle = s.engine.restRunners.concludeOps.yieldShare.completeReset.clocks) ∧
     s.restRunners = allRunners.foldl State.restRunner s ∧ s.concludeOps = allAxes.foldl State.concludeOp s) ∧
  (∀ (s : State) (a : AxisNo),
     let inMotion (x : Axis) := x.homing = false ∧ x.check = none ∧
       (x.motion = .engaging ∨ x.motion = .driving ∨ x.motion = .stopping ∨ x.motion = .backoff)
     (s.clocks.ax a).dutyLo = min (s.ax a).dutyLo (s.dutyNow a) ∧
     (s.clocks.ax a).dutyHi = max (s.ax a).dutyHi (s.dutyNow a) ∧
     ((∃ b ∈ s.members a, inMotion (s.ax b)) → (s.clocks.ax a).skewRaised = (s.ax a).skewRaised) ∧
     ((∀ b ∈ s.members a, ¬ inMotion (s.ax b)) → (s.clocks.ax a).skewRaised = false)) ∧
  (∀ s : State, s.link.tx = none → s.power.state.runs = false ∨ (s.link.slot = none ∧ s.link.reports = []) →
     s.clocks.link.tx = none ∧ s.clocks.link.slot = s.link.slot ∧ s.clocks.link.reports = s.link.reports)

/-! ### Invariants of every step -/

/-- The position law of the device (R2, R3, R8, R9): a position exactly with a reference, always within 0..travel; overrun only
while the position rests on a bound, never above the end zone, and 0 without a position; lash remaining never above the lash of an
axis with a reference, and never above 63, the largest lash a record may have, where the reference is UNKNOWN. -/
def Obligations.PositionsStayLawful : Prop :=
  ∀ s t : State, PositionsLawful s → step s = .next t → PositionsLawful t

/-- The available budget is at every moment what R104 computes from the base budget, the factors and the handshake. -/
def Obligations.BudgetStaysLawful : Prop := ∀ s t : State, BudgetLawful s → step s = .next t → BudgetLawful t

/-- The report queue never holds more than sixteen reports, the intake buffer never more than four frames (R177, R182). -/
def Obligations.BuffersStayLawful : Prop := ∀ s t : State, BuffersLawful s → step s = .next t → BuffersLawful t

/-- A RETIRED channel stays RETIRED until a power-on reset (R95): no other command frees it. -/
def Obligations.RetiredStaysRetired : Prop :=
  ∀ (s t : State) (c : ChanNo), (s.ch c).state = .retired → (∀ rest, s.pending ≠ .powerOnReset :: rest) →
    (∀ rest, s.pending ≠ .initStart :: rest) → step s = .next t → (t.ch c).state = .retired

/-! ### The wire -/

/-- The CRC of R176: bit by bit, most significant bit first, polynomial 0x1021, initial value 0xFFFF, no inversion; 0x29B1
over the nine check bytes; sent high byte first over all but the sync byte of every frame sent, and compared with the two
bytes received. -/
def Obligations.CrcIsThatOfTheSpec : Prop :=
  (∀ bytes : List Byte, crc bytes = (bytes.flatMap (fun b => (List.range 8).map b.getMsbD)).foldl
    (fun (c : BitVec 16) bit => if c.msb != bit then (c <<< 1) ^^^ 0x1021#16 else c <<< 1) 0xFFFF#16) ∧
  crc [0x31, 0x32, 0x33, 0x34, 0x35, 0x36, 0x37, 0x38, 0x39] = 0x29B1#16 ∧
  (∀ f : Frame, let body := BitVec.ofNat 8 (f.payload.length + 2) :: f.kind :: f.tag :: f.payload
    f.bytes = 0x5A :: body ++ [(crc body).extractLsb' 8 8, (crc body).extractLsb' 0 8]) ∧
  (∀ s : State, s.startTx.link.tx = s.link.tx ∨ ∃ (f : Frame) (b : Bool), s.startTx.link.tx = some ⟨f.bytes, b⟩) ∧
  (∀ (len : Nat) (kind tag : Byte) (payload : List Byte) (hi lo : Byte),
    (rxByte (.crc len (kind :: tag :: payload) (some hi)) lo).2 =
      if hi ++ lo = crc (BitVec.ofNat 8 len :: kind :: tag :: payload) then some ⟨kind, tag, payload⟩ else none)

/-- Every well-formed request is decoded from its own frame with every field as it was sent, and an unknown kind as such;
every frame fits the 60 payload bytes, and is the kind and the payload that section 10.8 and the layouts of section 10.9 give
its request. A PLAN_WRITE whose entry count and gate counts are those declared, within 60 bytes, is well-formed (R179).
Choices of the model: log 9. -/
def Obligations.RequestFramesDecode : Prop :=
  (∀ (c : Instr) (f : Frame), c.wellFormed = true → c.frame? = some f →
    f.payload.length ≤ 60 ∧
    (requestKinds.contains f.kind = true → f.decode = .request c) ∧
    (requestKinds.contains f.kind = false → f.decode = .unknownKind)) ∧
  (let two (h : Half) : List Byte := [h.extractLsb' 8 8, h.extractLsb' 0 8]
   let opt (b : Option Byte) : List Byte := b.toList
   ∀ (tag a b c d e : Byte) (h i j : Half) (o : Option Byte) (x : AxisArgs) (p : ProfileArgs) (k : KeepoutArgs)
     (es : List EntryArgs),
    (Instr.ident tag).frame? = some ⟨0x01, tag, []⟩ ∧ (Instr.status tag).frame? = some ⟨0x02, tag, []⟩ ∧
    (Instr.setup tag h i a j).frame? = some ⟨0x03, tag, two h ++ two i ++ [a] ++ two j⟩ ∧
    (Instr.reset tag).frame? = some ⟨0x04, tag, []⟩ ∧
    (Instr.axisSet tag a x).frame? = some ⟨0x10, tag, [a] ++ two x.travel ++ [x.refEnd, x.lash, x.endZone] ++ two x.stop0 ++
      two x.stop1 ++ two x.stop2 ++ two x.stop3 ++ [x.draw] ++ two x.stallWindow ++ [x.scaleGroup, x.reach, x.partner,
      x.skewLimit, x.pinchPresent] ++ two x.pinchLo ++ two x.pinchHi ++ [x.pinchDir] ++ two x.backoff ++
      [x.handMovable, x.heatLimit]⟩ ∧
    (Instr.axisGet tag a o).frame? = some ⟨0x11, tag, [a] ++ opt o⟩ ∧ (Instr.ack tag a).frame? = some ⟨0x12, tag, [a]⟩ ∧
    (Instr.jog tag a b c h).frame? = some ⟨0x13, tag, [a, b, c] ++ two h⟩ ∧
    (Instr.home tag a).frame? = some ⟨0x14, tag, [a]⟩ ∧ (Instr.check tag a).frame? = some ⟨0x15, tag, [a]⟩ ∧
    (Instr.profileWrite tag a b p).frame? = some ⟨0x18, tag, [a, b] ++ [p.startDuty, p.cruiseDuty] ++ two p.rampUp ++
      [p.creepDuty] ++ two p.creepZone ++ [p.coast, p.tolerance] ++ two p.minSpeed ++ [p.obstruction] ++ two p.blanking⟩ ∧
    (Instr.profileRead tag a b).frame? = some ⟨0x19, tag, [a, b]⟩ ∧
    (Instr.profileSwap tag).frame? = some ⟨0x1A, tag, []⟩ ∧ (Instr.scaleSet tag a b).frame? = some ⟨0x1B, tag, [a, b]⟩ ∧
    (Instr.keepoutSet tag a b k).frame? = some ⟨0x20, tag, [a, b] ++ [k.enabled, k.axisA] ++ two k.loA ++ two k.hiA ++
      [k.axisB] ++ two k.loB ++ two k.hiB ++ [k.guard]⟩ ∧
    (Instr.keepoutGet tag a).frame? = some ⟨0x21, tag, [a]⟩ ∧
    (Instr.planWrite tag a b es).frame? = some ⟨0x28, tag, [a, b] ++ es.flatMap (fun e => [e.axis, e.kind] ++ two e.value ++
      [e.packed, e.setMark] ++ e.gates.flatMap (fun g => [g.kind, g.a] ++ two g.b))⟩ ∧
    (Instr.planRead tag a o).frame? = some ⟨0x29, tag, [a] ++ opt o⟩ ∧
    (Instr.planDefine tag a b c d e).frame? = some ⟨0x2A, tag, [a, b, c, d, e]⟩ ∧
    (Instr.run tag a).frame? = some ⟨0x30, tag, [a]⟩ ∧ (Instr.pause tag a).frame? = some ⟨0x31, tag, [a]⟩ ∧
    (Instr.resume tag a).frame? = some ⟨0x32, tag, [a]⟩ ∧ (Instr.halt tag a).frame? = some ⟨0x33, tag, [a]⟩ ∧
    (Instr.mark tag a b).frame? = some ⟨0x34, tag, [a, b]⟩ ∧
    (Instr.runGet tag a o).frame? = some ⟨0x35, tag, [a] ++ opt o⟩ ∧
    (Instr.budgetSet tag h).frame? = some ⟨0x38, tag, two h⟩ ∧
    (Instr.power tag a b c d).frame? = some ⟨0x3A, tag, [a, b, c, d]⟩) ∧
  (∀ (count : Byte) (es : List EntryArgs), planWriteFits count es = true ↔ count.toNat = es.length ∧
    (∀ e ∈ es, e.packed.toNat / 64 = e.gates.length) ∧ 2 + (es.map (fun e => 6 + 4 * (e.packed.toNat / 64))).sum ≤ 60)

/-- The receiver assembles every frame from its bytes: exactly at the last byte, and it is back in HUNT then (R174, R175). -/
def Obligations.ReceiverAssemblesEveryFrame : Prop :=
  ∀ (f : Frame) (n : Nat), f.payload.length ≤ 60 → n ≤ f.bytes.length →
    let r := (f.bytes.take n).foldl (fun p b => rxByte p.1 b) (Rx.hunt, none)
    (n = f.bytes.length → r = (.hunt, some f)) ∧ (n < f.bytes.length → r.2 = none)

/-- BYTE_RECEIVED and INTER_BYTE_GAP (R174, R175, R177): in ACTIVE, DOZE and RESETTING a framing error and a gap discard
the frame in progress, any other byte moves the receive state by the table, and a frame that it completes restarts the
supervision window and is taken, admitted, or discarded where four wait; in INIT bytes are ignored, in SLEEP the edge
wakes. Choices of the model: log 10, log 18, log 23. -/
def Obligations.ReceiverFollowsItsTable : Prop :=
  (∀ b : Byte, rxByte .hunt b = (if b = 0x5A then .length else .hunt, none)) ∧
  (∀ b : Byte, rxByte .length b = (if 2 ≤ b.toNat ∧ b.toNat ≤ 62 then .body b.toNat [] else .hunt, none)) ∧
  (∀ (len : Nat) (stored : List Byte) (b : Byte), stored.length + 1 < len →
    rxByte (.body len stored) b = (.body len (stored ++ [b]), none)) ∧
  (∀ (len : Nat) (stored : List Byte) (b : Byte), stored.length + 1 = len →
    rxByte (.body len stored) b = (.crc len (stored ++ [b]) none, none)) ∧
  (∀ (len : Nat) (stored : List Byte) (b : Byte), rxByte (.crc len stored none) b = (.crc len stored (some b), none)) ∧
  (∀ (len : Nat) (stored : List Byte) (hi b : Byte), (rxByte (.crc len stored (some hi)) b).1 = .hunt) ∧
  (∀ (b : Byte) (s : State), s.power.inReset = false → s.power.state.runs = true →
    exec (.byteReceived b true) s = .next (State.settle { s with link := { s.link with rx := .hunt } }) ∧
    exec .interByteGap s = .next (State.settle { s with link := { s.link with rx := .hunt } }) ∧
    (∀ rx, rxByte s.link.rx b = (rx, none) →
      exec (.byteReceived b false) s = .next (State.settle { s with link := { s.link with rx := rx } })) ∧
    (∀ rx f, rxByte s.link.rx b = (rx, some f) →
      let u := State.frameHeard { s with link := { s.link with rx := rx } }
      (Takes s → exec (.byteReceived b false) s = .next (takeFrame f u).settle) ∧
      (¬ Takes s → s.link.intake.length < 4 → exec (.byteReceived b false) s =
        .next (State.settle { u with link := { u.link with intake := u.link.intake ++ [f] } })) ∧
      (¬ Takes s → 4 ≤ s.link.intake.length → exec (.byteReceived b false) s = .next u.settle))) ∧
  (∀ (b : Byte) (e : Bool) (s : State), s.power.inReset = false → s.power.state = .init →
    exec (.byteReceived b e) s = .next s.settle ∧ exec .interByteGap s = .next s.settle) ∧
  (∀ (b : Byte) (e : Bool) (s : State), s.power.inReset = false → s.power.state = .sleep →
    exec (.byteReceived b e) s = exec (.wakeEvent .rxEdge) s ∧ exec .interByteGap s = .next s.settle)

/-- Any request that cannot be taken at once waits in the intake buffer, or is discarded where four wait, and restarts the
supervision window either way; in INIT it is lost, in SLEEP its edge is a wake event (R175, R177, R178, R199). One that can be
taken at once is the taking of its frame, as one from the buffer is (R178). Choices of the model: log 5, log 10, log 23. -/
def Obligations.RequestsWaitTheirTurn : Prop :=
  (∀ (c : Instr) (f : Frame) (s : State), c.frame? = some f → s.power.inReset = false →
    (s.power.state.runs = true → ¬ Takes s → s.link.intake.length < 4 → exec c s =
      .next (State.settle { s.frameHeard with link := { s.frameHeard.link with intake := s.link.intake ++ [f] } })) ∧
    (s.power.state.runs = true → ¬ Takes s → 4 ≤ s.link.intake.length → exec c s = .next s.frameHeard.settle) ∧
    (s.power.state = .init → exec c s = .next s) ∧
    (s.power.state = .sleep → exec c s = exec (.wakeEvent .rxEdge) s) ∧
    (s.link.supervision = .off → s.frameHeard = s) ∧
    (s.link.supervision ≠ .off → s.frameHeard =
      { s with link := { s.link with supervision := .watching 0 s.link.setup.window } })) ∧
  (∀ (c : Instr) (f : Frame) (s : State), c.wellFormed = true → c.frame? = some f → s.power.inReset = false →
    s.power.state.runs = true → Takes s → exec c s = .next (takeFrame f s.frameHeard).settle) ∧
  (∀ p : PowerState, p.runs = true ↔ p = .active ∨ p = .doze ∨ p = .resetting)

/-- A taken frame of an unknown kind is answered UNKNOWN_KIND, one of a wrong length BAD_LENGTH, in every power state in which
requests are taken; the lengths that fit a kind are those of section 10.8, that of PLAN_WRITE the one its count and its
entries give; the reply's kind is the request's plus 0x80, or itself from 0x80 on, and it carries the code alone (R179, R180).
UNKNOWN_KIND runs by this statement. Every reply is its kind, the tag of its request, the result code of section 10.8 and the
data. In RESETTING every request of the catalogue but IDENT and STATUS is refused BUSY, and changes nothing (R179, R201).
Choices of the model: log 5, log 10. -/
def Obligations.LinkChecksAndResettingRefuse : Prop :=
  ((∀ (tag kind : Byte) (payload : List Byte) (s : State), Instr.wellFormed (.unknownKind tag kind payload) = true →
     s.power.inReset = false → s.power.state.runs = true → Takes s →
     exec (.unknownKind tag kind payload) s =
       .next (State.settle { s.frameHeard with link := { s.frameHeard.link with
         slot := some ⟨if kind.toNat < 128 then kind + 0x80 else kind, tag, .unknownKind, []⟩ } })) ∧
   (∀ (f : Frame) (s : State), requestKinds.contains f.kind = true → decodePayload f.kind f.tag f.payload = none →
     takeFrame f s = { s with link := { s.link with slot := some ⟨f.kind + 0x80, f.tag, .badLength, []⟩ } }) ∧
   (∀ (tag start count : Byte) (es : List EntryArgs) (s : State), planWriteFits count es = false →
     s.power.inReset = false → s.power.state.runs = true → Takes s →
     exec (.planWrite tag start count es) s = .next (State.settle (s.frameHeard.reply 0x28 tag .badLength [])))) ∧
  (∀ (c : Instr) (f : Frame) (s : State), c.wellFormed = true → c.frame? = some f → requestKinds.contains f.kind = true →
     f.kind ≠ 0x01 → f.kind ≠ 0x02 → Resets s →
     exec c s = .next (State.settle (s.frameHeard.reply f.kind f.tag .busy []))) ∧
  (∀ (s : State) (kind tag : Byte) (result : Result) (data : List Byte),
    s.reply kind tag result data = { s with link := { s.link with
      slot := some ⟨if kind.toNat < 128 then kind + 0x80 else kind, tag, result, data⟩ } } ∧
    (Reply.mk kind tag result data).frame = ⟨kind, tag, BitVec.ofNat 8 result.code :: data⟩) ∧
  [Result.ok, .unknownKind, .badLength, .badArg, .busy, .badState, .claimed, .noRunner, .isProtected, .faultPending,
    .lockedOut, .inhibited, .badPlan, .notConfigured, .noChannel, .unreferenced].map Result.code = List.range 16 ∧
  (∀ kind : Byte, requestKinds.contains kind = true ↔ kind ∈ ([0x01, 0x02, 0x03, 0x04, 0x10, 0x11, 0x12, 0x13, 0x14, 0x15,
    0x18, 0x19, 0x1A, 0x1B, 0x20, 0x21, 0x28, 0x29, 0x2A, 0x30, 0x31, 0x32, 0x33, 0x34, 0x35, 0x38, 0x3A] : List Byte)) ∧
  (∀ (tag : Byte) (p : List Byte), (∀ row ∈ ([(0x01, [0]), (0x02, [0]), (0x03, [7]), (0x04, [0]), (0x10, [31]), (0x11, [1, 2]),
      (0x12, [1]), (0x13, [5]), (0x14, [1]), (0x15, [1]), (0x18, [16]), (0x19, [2]), (0x1A, [0]), (0x1B, [2]), (0x20, [14]),
      (0x21, [1]), (0x29, [1, 2]), (0x2A, [5]), (0x30, [1]), (0x31, [1]), (0x32, [1]), (0x33, [1]), (0x34, [2]), (0x35, [1, 2]),
      (0x38, [2]), (0x3A, [4])] : List (Byte × List Nat)), decodePayload row.1 tag p = none ↔ p.length ∉ row.2) ∧
    (p.length ≤ 60 → (decodePayload 0x28 tag p = none ↔ ∀ (start count : Byte) (es : List EntryArgs),
      planWriteFits count es = true → (Instr.planWrite tag start count es).frame? ≠ some ⟨0x28, tag, p⟩)))


/-- Numbers and codes that name nothing are refused BAD_ARG, and the request changes nothing; every other number, direction
and bank names what its value says (R6, R15, R25, R26, R28, R65, R119, R120, R139, R140, R149, R154, R166 to R168, R190).
Choices of the model: log 10. -/
def Obligations.NumbersOutOfRangeAreRefused : Prop :=
  (∀ (tag n m : Byte) (s : State), Listens s →
    let refused (kind : Byte) := Host.Outcome.next (State.settle (s.frameHeard.reply kind tag .badArg []))
    (12 ≤ n.toNat →
      (∀ args, exec (.axisSet tag n args) s = refused 0x10) ∧ (∀ f, exec (.axisGet tag n f) s = refused 0x11) ∧
      exec (.ack tag n) s = refused 0x12 ∧ (∀ d k h, exec (.jog tag n d k h) s = refused 0x13) ∧
      exec (.home tag n) s = refused 0x14 ∧ exec (.check tag n) s = refused 0x15) ∧
    (2 ≤ n.toNat ∨ 8 ≤ m.toNat →
      exec (.profileRead tag n m) s = refused 0x19 ∧ (∀ v, exec (.profileWrite tag n m v) s = refused 0x18)) ∧
    (3 ≤ n.toNat ∨ m.toNat < 20 ∨ 100 < m.toNat → exec (.scaleSet tag n m) s = refused 0x1B) ∧
    (24 ≤ n.toNat →
      exec (.keepoutGet tag n) s = refused 0x21 ∧ (∀ p k, exec (.keepoutSet tag n p k) s = refused 0x20)) ∧
    (8 ≤ n.toNat →
      exec (.planRead tag n none) s = refused 0x29 ∧ exec (.run tag n) s = refused 0x30 ∧
      (∀ st l k t, exec (.planDefine tag n st l k t) s = refused 0x2A)) ∧
    (3 ≤ n.toNat →
      exec (.pause tag n) s = refused 0x31 ∧ exec (.resume tag n) s = refused 0x32 ∧ exec (.halt tag n) s = refused 0x33 ∧
      (∀ f, exec (.runGet tag n f) s = refused 0x35)) ∧
    (8 ≤ n.toNat ∨ 2 ≤ m.toNat → exec (.mark tag n m) s = refused 0x34)) ∧
  (∀ (k : Nat) (b : Byte) (i : Fin k), finOf k b = some i ↔ b.toNat = i.val) ∧
  (∀ b : Byte, (dirOf b = some .low ↔ b = 0) ∧ (dirOf b = some .high ↔ b = 1) ∧
    (bankOf b = some .a ↔ b = 0) ∧ (bankOf b = some .b ↔ b = 1))

/-! ### Requests of the Seat Link controller -/

/-- IDENT (R188): vendor 0x3C, family 0x11, part 712, revision 1, 12 axes, 4 channels, 3 runners, 64 places, 8 slots, 24
entries, 16 reports; no state changes but the reply. STATUS (R189): the snapshot as the state stands, and the overflow flag
cleared as the only change; the order of the bytes within the reply follows R189's list, and a line level is 1 where asserted,
0 where released (log 9). Both are taken in every power state in which requests are taken. Choices of the model: log 9, log
10. -/
def Obligations.IdentAndStatusAnswer : Prop :=
  (∀ (tag : Byte) (s : State), s.power.inReset = false → s.power.state.runs = true → Takes s →
     exec (.ident tag) s = .next (State.settle (s.frameHeard.reply 0x01 tag .ok
       ([0x3C, 0x11] ++ [BitVec.ofNat 8 (712 / 256), BitVec.ofNat 8 (712 % 256)] ++ [1, 12, 4, 3, 64, 8, 24, 16])))) ∧
  (∀ (tag : Byte) (s : State), s.power.inReset = false → s.power.state.runs = true → Takes s →
     let u := s.frameHeard
     let bit (b : Bool) : Byte := if b then 1 else 0
     exec (.status tag) s = .next (State.settle
       (State.reply { u with link := { u.link with overflow := false } } 0x02 tag .ok
         ([BitVec.ofNat 8 u.power.state.code, BitVec.ofNat 8 u.supply.band.code, BitVec.ofNat 8 u.supply.thermal.code] ++
           b2 u.supply.avail ++ b2 u.inUse ++
           [BitVec.ofNat 8 u.supply.handshake.code, bit u.supply.shareReq, bit u.supply.shareAck, bit u.inhibit] ++
           [BitVec.ofNat 8 (runnerCode (u.run 0)), BitVec.ofNat 8 (runnerCode (u.run 1)),
            BitVec.ofNat 8 (runnerCode (u.run 2))] ++
           [BitVec.ofNat 8 (u.ch 0).state.code, BitVec.ofNat 8 (u.ch 1).state.code, BitVec.ofNat 8 (u.ch 2).state.code,
            BitVec.ofNat 8 (u.ch 3).state.code] ++ [u.marks, bit u.link.overflow]))))


/-- SETUP (R187): a value out of its range is refused BAD_ARG; otherwise the four values are replaced, and a changed
cadence restarts its timer. Where no block timer and no dwell timer has passed a new value, nothing else changes; a dwell
timer that has passed the new idle dwell takes the part to DOZE. Choices of the model: log 10, log 27. -/
def Obligations.SetupReplacesTheValues : Prop :=
  ∀ (tag : Byte) (w c : Half) (b : Byte) (d : Half) (s : State), Listens s →
    let u := s.frameHeard
    let good := 100 ≤ w.toNat ∧ w.toNat ≤ 2000 ∧ (c = 0 ∨ (50 ≤ c.toNat ∧ c.toNat ≤ 1000)) ∧ 1 ≤ b.toNat ∧ b.toNat ≤ 60 ∧
      5 ≤ d.toNat ∧ d.toNat ≤ 300
    let v : Setup := ⟨w.toNat, c.toNat, b.toNat, d.toNat⟩
    let t : State := { u with link := { u.link with
      setup := v, cadence := if c.toNat = u.link.setup.cadence then u.link.cadence else none } }
    (¬ good → exec (.setup tag w c b d) s = .next (State.settle (u.reply 0x03 tag .badArg []))) ∧
    (good → exec (.setup tag w c b d) s = .next (State.settle ((u.applySetup v).reply 0x03 tag .ok []))) ∧
    (good → (b.toNat = u.link.setup.blockTimeout ∨ ∀ a, u.blockedPast b.toNat a = false) →
      (d.toNat = u.link.setup.dwell ∨ u.power.state ≠ .active ∨ ∀ n, u.power.dwell = some n → n < d.toNat * 100) →
      u.applySetup v = t) ∧
    (good → (b.toNat = u.link.setup.blockTimeout ∨ ∀ a, u.blockedPast b.toNat a = false) →
      d.toNat ≠ u.link.setup.dwell → u.power.state = .active → (∃ n, u.power.dwell = some n ∧ d.toNat * 100 ≤ n) →
      u.applySetup v = t.enterDoze) ∧
    (let expired := allAxes.foldl (fun (q : State) a => match (q.ax a).motion, (q.ax a).link with
       | .blocked, some l => if b.toNat * 1000 ≤ l.timer ∧ l.copy = false then
           (q.raiseFault a .blockTimeout (.partner l.partner) (some l.entry) none).passSince q else q
       | _, _ => q) t
     let x := if b.toNat = u.link.setup.blockTimeout then t else expired
     let past := d.toNat ≠ u.link.setup.dwell ∧ x.power.state = .active ∧ ∃ n, x.power.dwell = some n ∧ d.toNat * 100 ≤ n
     (past → u.applySetup v = x.enterDoze) ∧ (¬ past → u.applySetup v = x))

/-! ### Requests of the axis units -/

/-- AXIS_SET takes a configuration record exactly when every field lies in the range of the record's table and the field
checks pass (R1, R2), and then the record holds every field as it was sent, stops, pinch zone and partner included. -/
def Obligations.ConfigRecordsLieInRange : Prop :=
  ∀ (a : AxisNo) (r : AxisArgs) (c : AxisConfig), configOf a r = some c ↔
    let travel := r.travel.toNat
    let stop (h : Half) : Option Nat := if h = 0xFFFF then none else some h.toNat
    (200 ≤ travel ∧ travel ≤ 16000) ∧ r.refEnd.toNat ≤ 1 ∧ r.lash.toNat ≤ 63 ∧
    (8 ≤ r.endZone.toNat ∧ r.endZone.toNat ≤ 200) ∧
    (∀ h ∈ [r.stop0, r.stop1, r.stop2, r.stop3], h = 0xFFFF ∨ h.toNat ≤ travel) ∧
    (5 ≤ r.draw.toNat ∧ r.draw.toNat ≤ 150) ∧ (20 ≤ r.stallWindow.toNat ∧ r.stallWindow.toNat ≤ 500) ∧
    r.scaleGroup.toNat ≤ 2 ∧ (1 ≤ r.reach.toNat ∧ r.reach.toNat ≤ 15) ∧
    (r.partner = 0xFF ∨ (r.partner.toNat ≤ 11 ∧ r.partner.toNat ≠ a.val)) ∧
    (2 ≤ r.skewLimit.toNat ∧ r.skewLimit.toNat ≤ 200) ∧
    (r.pinchPresent = 0 ∨ (r.pinchPresent = 1 ∧ r.pinchLo.toNat ≤ r.pinchHi.toNat ∧ r.pinchHi.toNat ≤ travel ∧
      r.pinchDir.toNat ≤ 1 ∧ r.backoff.toNat ≤ 400)) ∧
    r.handMovable.toNat ≤ 1 ∧ (5 ≤ r.heatLimit.toNat ∧ r.heatLimit.toNat ≤ 120) ∧
    c = { travel := travel
          refEnd := if r.refEnd = 1 then .high else .low
          lash := r.lash.toNat
          endZone := r.endZone.toNat
          stops := #v[stop r.stop0, stop r.stop1, stop r.stop2, stop r.stop3]
          draw := r.draw.toNat
          stallWindow := r.stallWindow.toNat
          scaleGroup := Fin.ofNat 3 r.scaleGroup.toNat
          reach := BitVec.ofNat 4 r.reach.toNat
          partner := if r.partner = 0xFF then none else some (Fin.ofNat 12 r.partner.toNat)
          skewLimit := r.skewLimit.toNat
          pinch := if r.pinchPresent = 1 then some ⟨r.pinchLo.toNat, r.pinchHi.toNat,
            if r.pinchDir = 1 then .high else .low, r.backoff.toNat⟩ else none
          handMovable := decide (r.handMovable = 1)
          heatLimit := r.heatLimit.toNat }

/-- AXIS_SET (R1, R3): the checks in their order, and a taken record. With travel and reference end as they were the position
is kept, lash remaining and overrun reduced to the new lash and end zone (an overrun cut makes the reference SUSPECT); with
either changed the axis becomes UNKNOWN, and a position lost is handed on. A heat at or above the new limit is set to it and
locks the axis out. The pairing (R4): where the partner's record names a partner, it must name this axis, with equal travel
and reference end and two distinct channels; two axes are a gang when each names the other, and an axis whose partner does not
name it back is pending. No keep-out entry and no gate of a plan that runs may lie beyond the new travel (R2). Choices of the
model: log 10, log 19. -/
def Obligations.AxisSetReplacesTheRecord : Prop :=
  (∀ (tag axis : Byte) (args : AxisArgs) (s : State) (a : AxisNo), Listens s → finOf 12 axis = some a →
     let u := s.frameHeard
     let x := u.ax a
     let answers (r : Result) := exec (.axisSet tag axis args) s = .next (State.settle (u.reply 0x10 tag r []))
     (configOf a args = none → answers .badArg) ∧
     (∀ c : AxisConfig, configOf a args = some c →
       let others := (u.partner a).toList ++ c.partner.toList
       let free (b : AxisNo) := (u.ax b).owner = .none
       let idle (b : AxisNo) := (u.ax b).motion = .idle
       let pairs := ∀ b d, c.partner = some b → (u.ax b).config = some d → d.partner ≠ none →
         d.partner = some a ∧ c.travel = d.travel ∧ c.refEnd = d.refEnd ∧
           ∃ i j : ChanNo, i ≠ j ∧ c.reach.getLsbD i.val = true ∧ d.reach.getLsbD j.val = true
       let regions := ∀ (n : EntryNo) (e : KeepoutEntry), u.entries[n] = some e →
         (e.axisA = a → e.hiA ≤ c.travel) ∧ (e.axisA ≠ a → e.axisB = a → e.hiB ≤ c.travel)
       let gates := ∀ (r : RunnerNo) (run : Run) (i : Nat) (e : PlanEntry) (p : Nat), u.run r = some run →
         i < run.moves.length → u.places[u.slots[run.slot].start + i]? = some (some e) →
         (.whenGe a p ∈ e.gates ∨ .whenLe a p ∈ e.gates) → p ≤ c.travel
       let fits := pairs ∧ regions ∧ gates
       let cap := c.heatLimit * 10000
       let y : Axis := { x with
         config := some c, heat := min x.heat cap,
         lockout := if cap ≤ x.heat then true else x.lockout && !decide (x.heat * 100 ≤ cap * 60) }
       let same := ∃ o, x.config = some o ∧ o.travel = c.travel ∧ o.refEnd = c.refEnd
       (¬ free a → answers .claimed) ∧
       (free a → ¬ idle a → answers .busy) ∧
       (free a → idle a → (∃ b ∈ others, ¬ free b) → answers .claimed) ∧
       (free a → idle a → (∀ b ∈ others, free b) → (∃ b ∈ others, ¬ idle b) → answers .busy) ∧
       (free a → idle a → (∀ b ∈ others, free b ∧ idle b) → ¬ fits → answers .badArg) ∧
       (free a → idle a → (∀ b ∈ others, free b ∧ idle b) → fits → same → x.overrun ≤ c.endZone →
         exec (.axisSet tag axis args) s = .next (State.settle
           ((u.setAx a { y with lashRem := min x.lashRem c.lash }).reply 0x10 tag .ok []))) ∧
       (free a → idle a → (∀ b ∈ others, free b ∧ idle b) → fits → same → c.endZone < x.overrun →
         exec (.axisSet tag axis args) s = .next (State.settle
           (((u.setAx a { y with lashRem := min x.lashRem c.lash, overrun := c.endZone }).suspect a .overrun).reply
             0x10 tag .ok []))) ∧
       (free a → idle a → (∀ b ∈ others, free b ∧ idle b) → fits → ¬ same →
         let v := u.setAx a { y with ref := .unknown, pos := none, overrun := 0 }
         let v := if x.ref = .unknown then v else v.report (.reference a x.ref .unknown .config none)
         let v := if x.pos = none then v else v.positionChange a x.pos false
         exec (.axisSet tag axis args) s = .next (State.settle (v.reply 0x10 tag .ok []))))) ∧
  (∀ (s : State) (a b : AxisNo),
    let names (x y : AxisNo) := ∃ c, (s.ax x).config = some c ∧ c.partner = some y
    (s.partner a = some b ↔ names a b ∧ names b a) ∧
    (s.gangPending a = true ↔ (∃ d, names a d) ∧ ∀ d, names a d → ¬ names d a) ∧
    (∀ c d, (s.ax a).config = some c → (s.ax b).config = some d → s.skewLimit a b = min c.skewLimit d.skewLimit) ∧
    (s.partner a = none → s.members a = [a]) ∧
    (s.partner a = some b → s.members a = if a < b then [a, b] else [b, a])) ∧
  (∀ (s : State) (a b : AxisNo), s.names a = some b ↔ ∃ c, (s.ax a).config = some c ∧ c.partner = some b)

/-- AXIS_GET (R6): either form answers a snapshot, whose bytes are spelled out in the order of the rule's list, and changes
nothing, and fits the reply payload; a form byte other than 1 is refused BAD_ARG. RUN_GET (R190): a FREE runner answers its
state alone; any other its summary, the first move index, the number of move records, and as many whole records as fit up to
the end of the plan; nothing changes. Choices of the model: log 8, log 9, log 10, log 29, log 43, log 47, log 60. -/
def Obligations.AxisGetAndRunGetAnswerSnapshots : Prop :=
  ((∀ (tag axis form : Byte) (s : State) (a : AxisNo), Listens s → finOf 12 axis = some a →
     let u := s.frameHeard
     exec (.axisGet tag axis none) s = .next (State.settle (u.reply 0x11 tag .ok (u.configReply a))) ∧
     exec (.axisGet tag axis (some 1)) s = .next (State.settle (u.reply 0x11 tag .ok (u.runtimeReply a))) ∧
     (form ≠ 1 → exec (.axisGet tag axis (some form)) s = .next (State.settle (u.reply 0x11 tag .badArg [])))) ∧
   (∀ (s : State) (a : AxisNo),
     let x := s.ax a
     let bit (b : Bool) : List Byte := if b then [1] else [0]
     let dir (d : Dir) : List Byte := match d with
       | .low => [0]
       | .high => [1]
     let pinch (z : Option Pinch) : List Byte := match z with
       | none => List.replicate 8 0
       | some z => b1 1 ++ b2 z.lo ++ b2 z.hi ++ dir z.dir ++ b2 z.distance
     let config : List Byte := match x.config with
       | none => b1 0 ++ List.replicate 20 0xFF ++ [0] ++ List.replicate 7 0 ++ [0xFF, 0xFF]
       | some c => b1 1 ++ b2 c.travel ++ dir c.refEnd ++ b1 c.lash ++ b1 c.endZone ++ bOpt2 c.stops[0] ++ bOpt2 c.stops[1] ++
         bOpt2 c.stops[2] ++ bOpt2 c.stops[3] ++ b1 c.draw ++ b2 c.stallWindow ++ b1 c.scaleGroup.val ++ b1 c.reach.toNat ++
         bOpt1 (c.partner.map Fin.val) ++ b1 c.skewLimit ++
         pinch c.pinch ++
         bit c.handMovable ++ b1 c.heatLimit
     let gang : List Byte := match s.names a, s.partner a with
       | some _, some b => b1 2 ++ b1 b.val ++ b1 (s.skewLimit a b)
       | some b, none => b1 1 ++ b1 b.val ++ [0xFF]
       | none, _ => [0, 0xFF, 0xFF]
     let owner : List Byte := match s.ownerTag a with
       | .none => [0, 0xFF, 0xFF]
       | .runner r m => b1 1 ++ b1 r.val ++ bOpt1 m
       | .link op => b1 2 ++ b1 op.code ++ [0xFF]
     let move : List Byte := match x.move with
       | none => [0, 0, 0, 0, 0, 0]
       | some m => b1 1 ++ b2 m.target ++ b1 m.bank.code ++ b1 m.index.val ++ b1 m.corrections
     let cause (c : Cause) : List Byte := match c with
       | .current | .overrun => [0, 0]
       | .stall | .search => [0, 1]
       | .skew n => b2 n
       | .channel c => b2 c.val
       | .partner p => b2 p.val
       | .remaining r => bOpt2 r
     let fault : List Byte := match x.fault with
       | none => List.replicate 9 0
       | some f => b1 1 ++ b1 f.kind.code ++
         cause f.cause ++
         bOpt2 f.pos ++ b1 f.backoff.code ++ bOpt1 (f.entry.map Fin.val) ++ bit f.further
     let link : List Byte := match x.link with
       | none => [0, 0, 0]
       | some l => b1 1 ++ b1 l.entry.val ++ b1 l.partner.val
     let episode : List Byte := match x.episode with
       | none => [0, 0, 0]
       | some e => b1 1 ++ bInt e.net
     s.configReply a = config ++ gang ∧
     s.runtimeReply a = b1 x.motion.code ++ bOpt1 (x.phase.map Phase.code) ++ bit x.held ++ b1 x.ref.code ++ bOpt2 x.pos ++
       b1 x.overrun ++ dir x.lashDir ++ b1 x.lashRem ++ owner ++ move ++ b4 x.heat ++ bit x.lockout ++ bit x.escalated ++
       fault ++ link ++ bOpt1 (x.lastCheck.map CheckResult.code) ++ episode) ∧
   ([Motion.idle, .queued, .engaging, .driving, .stopping, .backoff, .blocked, .fault, .checking].map Motion.code =
      List.range 9 ∧
    [Phase.ramp, .cruise, .creep, .correct].map Phase.code = List.range 4 ∧
    [Ref.unknown, .suspect, .valid].map Ref.code = List.range 3 ∧ [Bank.a, .b].map Bank.code = List.range 2 ∧
    [OpKind.jog, .home, .check].map OpKind.code = List.range 3 ∧
    [FaultKind.obstruction, .noStop, .skew, .short, .opened, .keepoutBreach, .keepoutDeadlock, .blockTimeout, .overheat,
      .noChannel].map FaultKind.code = List.range 10 ∧
    [BackoffOutcome.none, .done, .cutShort].map BackoffOutcome.code = List.range 3 ∧
    [CheckResult.ok, .opened, .short].map CheckResult.code = List.range 3) ∧
   (∀ (s : State) (a : AxisNo), (s.configReply a).length ≤ 59 ∧ (s.runtimeReply a).length ≤ 59)) ∧
  (∀ (tag n : Byte) (s : State) (r : RunnerNo), Listens s → n.toNat = r.val →
     let u := s.frameHeard
     (u.run r = none → ∀ f, exec (.runGet tag n f) s = .next (State.settle (u.reply 0x35 tag .ok [0]))) ∧
     (∀ run, u.run r = some run →
       (exec (.runGet tag n none) s = .next (State.settle (u.reply 0x35 tag .ok (run.getReply 0)))) ∧
       (∀ f : Byte, f.toNat < run.moves.length →
         exec (.runGet tag n (some f)) s = .next (State.settle (u.reply 0x35 tag .ok (run.getReply f.toNat)))) ∧
       (∀ f : Byte, run.moves.length ≤ f.toNat →
         exec (.runGet tag n (some f)) s = .next (State.settle (u.reply 0x35 tag .badArg []))))) ∧
  ((∀ (run : Run) (f : Nat),
     let summary : List Byte :=
       b1 (match run.state with
         | .running => 1
         | .pausing => 2
         | .paused => 3
         | .halting => 4) ++
       b1 run.slot.val ++ b2 (axisBits run.claim) ++
       b1 ((if run.reasons.host then 1 else 0) + (if run.reasons.fault then 2 else 0) + (if run.reasons.inhibit then 4 else 0) +
         (if run.reasons.link then 8 else 0) + (if run.reasons.planError then 16 else 0)) ++
       (match run.firstFault with
         | none => [0, 0, 0]
         | some (a, k) => b1 1 ++ b1 a.val ++ b1 k.code) ++
       (match run.planError with
         | none => [0, 0, 0]
         | some (i, .badTarget) => b1 1 ++ b1 i ++ [0]
         | some (i, .unreferenced) => b1 1 ++ b1 i ++ [1]) ++
       (match run.endKind with
         | none => [0xFF]
         | some .complete => [0]
         | some .aborted => [1]
         | some .timeout => [2]
         | some .reset => [3]) ++
       b4 run.elapsed ++ b1 run.timeout ++ b1 run.moves.length
     let record (m : RunMove) : List Byte :=
       (match m.state with
         | .pending => [0, 0xFF]
         | .ready => [1, 0xFF]
         | .active => [2, 0xFF]
         | .done o => b1 3 ++ b1 o.code) ++
       m.gates.flatMap (fun g => match g with
         | .closed => [0, 0xFF, 0xFF]
         | .timing n => b1 1 ++ b2 (10 * n)
         | .opened => [2, 0xFF, 0xFF])
     let answer (k : Nat) := summary ++ [BitVec.ofNat 8 f, BitVec.ofNat 8 k] ++ ((run.moves.drop f).take k).flatMap record
     ∃ k, k ≤ run.moves.length - f ∧ run.getReply f = answer k ∧ (answer k).length ≤ 59 ∧
       (k < run.moves.length - f → 59 < (answer (k + 1)).length)) ∧
   [MoveOutcome.done, .near, .atEnd, .endEarly, .already, .released, .fault, .inhibited, .linkSilent].map MoveOutcome.code =
     List.range 9) ∧
  (∀ (s : State) (a : AxisNo), s.ownerTag a = match (s.ax a).owner with
    | .none => .none
    | .link op => .link op.kind
    | .runner r => .runner r (match s.run r with
      | none => none
      | some run => s.activeOn run a)) ∧
  (∀ (as : List AxisNo) (i : Nat), (axisBits as).testBit i = true ↔ ∃ a ∈ as, a.val = i)

/-- ACK (R65): OK with nothing changed where there is no fault record; BUSY while the axis is not yet in FAULT; in FAULT
the record is removed, the axis is IDLE, and the reply carries the kind the record held; nothing else of the axis
changes. Choices of the model: log 9, log 10. -/
def Obligations.AckClearsTheFault : Prop :=
  ∀ (tag axis : Byte) (s : State) (a : AxisNo), Listens s → finOf 12 axis = some a →
    let u := s.frameHeard
    ((u.ax a).fault = none → exec (.ack tag axis) s = .next (State.settle (u.reply 0x12 tag .ok []))) ∧
    (∀ f, (u.ax a).fault = some f → (u.ax a).motion ≠ .fault →
      exec (.ack tag axis) s = .next (State.settle (u.reply 0x12 tag .busy []))) ∧
    (∀ f, (u.ax a).fault = some f → (u.ax a).motion = .fault →
      exec (.ack tag axis) s = .next (State.settle
        ((u.setAx a { u.ax a with fault := none, motion := .idle }).reply 0x12 tag .ok [BitVec.ofNat 8 f.kind.code])))

/-- The operation checks 3 to 8 of R15 in their order, on both axes of a gang, for HOME and CHECK, and what a taken one does:
the link owns the axes; a HOME latches profile 0 of the active bank with the reference end as its target and priority 1; each
asks the keep-out question and joins the queue or goes to BLOCKED (R15, R66, R70). To latch is to give every axis the record,
with the profile as it stands in the active bank, no correction, and forced creep on all where some reference is not VALID
(R33, R37). Choices of the model: log 10, log 28. -/
def Obligations.HomeAndCheckBegin : Prop :=
  (∀ (tag axis : Byte) (s : State) (a : AxisNo), Listens s → finOf 12 axis = some a →
    let u := s.frameHeard
    let as := u.members a
    let usable := (u.ax a).config ≠ none ∧ u.gangPending a = false
    let free := ∀ b ∈ as, (u.ax b).owner = .none
    let sound := ∀ b ∈ as, (u.ax b).motion ≠ .fault
    let cool := ∀ b ∈ as, (u.ax b).lockout = false
    let owned (k : OpKind) (d : Dir) :=
      u.modAll as (fun x => { x with owner := .link ⟨k, a, false, d, none, none⟩, search := 0 })
    (∀ (c : Instr) (k : Byte), (c = .home tag axis ∧ k = 0x14) ∨ (c = .check tag axis ∧ k = 0x15) →
      let answers (r : Result) := exec c s = .next (State.settle (u.reply k tag r []))
      (¬ usable → answers .notConfigured) ∧
      (usable → u.inhibit = true → answers .inhibited) ∧
      (usable → u.inhibit = false → ¬ free → answers .claimed) ∧
      (usable → u.inhibit = false → free → ¬ sound → answers .faultPending) ∧
      (usable → u.inhibit = false → free → sound → ¬ cool → answers .lockedOut) ∧
      (usable → u.inhibit = false → free → sound → cool → u.reachable as = false → answers .noChannel)) ∧
    (usable → u.inhibit = false → free → sound → cool → u.reachable as = true → ∀ c, (u.ax a).config = some c →
      exec (.home tag axis) s = .next (State.settle
        ((((owned .home c.refEnd).latch as a (match c.refEnd with
            | .low => 0
            | .high => c.travel) false 1 0).startOrBlock as).reply 0x14 tag .ok []))) ∧
    (usable → u.inhibit = false → free → sound → cool → u.reachable as = true →
      exec (.check tag axis) s = .next (State.settle
        ((((owned .check .low).modAll as (fun x => { x with check := some ⟨0, none, 0, 0⟩ })).startOrBlock as).reply
          0x15 tag .ok [])))) ∧
  (∀ x : Axis, x.homing = true ↔ ∃ op, x.owner = .link op ∧ op.kind = .home) ∧
  (∀ (s : State) (as : List AxisNo) (a : AxisNo) (target : Nat) (endFlag : Bool) (priority : Nat) (k : Fin 8),
    let m : MoveRec := ⟨a, target, endFlag, priority, s.store.active, k, s.profile s.store.active k, false, 0, 0, false⟩
    let v := s.modAll as (fun x => { x with move := some m })
    s.latch as a target endFlag priority k = if ∀ b ∈ as, (v.ax b).ref = .valid then v else
      v.modAll as (fun x => { x with move := x.move.map (fun m => { m with forcedCreep := true }) }))

/-- JOG on an unowned axis (R49): the link owns the axes; COUNTS aims at the present position plus or minus the distance,
clamped to the travel, HOLD at the bound with the end flag and opens the jog window; a COUNTS target within the tolerance of
profile 0 ends with ALREADY, any other is latched with profile 0 and priority 3 and joins the queue or goes to BLOCKED. A
direction or mode that names nothing, or a COUNTS distance of 0 or above 2000, is refused BAD_ARG at check 2, whatever the
state of the axis; a COUNTS jog of an UNKNOWN axis is refused UNREFERENCED; an axis that another owner holds, or the link with
a HOME or a CHECK, is refused CLAIMED, and the checks on FAULT, lockout and channels follow in their order. Choices of the
model: log 10, log 16. -/
def Obligations.JogBegins : Prop :=
  (∀ (tag axis dir mode : Byte) (n : Half) (s : State), Listens s →
    2 ≤ dir.toNat ∨ 2 ≤ mode.toNat ∨ (mode = 0 ∧ (n = 0 ∨ 2000 < n.toNat)) →
    exec (.jog tag axis dir mode n) s = .next (State.settle (s.frameHeard.reply 0x13 tag .badArg []))) ∧
  (∀ (tag axis dir mode : Byte) (n : Half) (s : State) (a : AxisNo) (d : Dir) (counts : Option Nat), Listens s →
    finOf 12 axis = some a → (dir = 0 ∧ d = .low ∨ dir = 1 ∧ d = .high) →
    (mode = 0 ∧ 1 ≤ n.toNat ∧ n.toNat ≤ 2000 ∧ counts = some n.toNat ∨ mode = 1 ∧ counts = none) →
    let u := s.frameHeard
    let as := u.members a
    let usable := (u.ax a).config ≠ none ∧ u.gangPending a = false
    let lost := counts ≠ none ∧ ∃ b ∈ as, (u.ax b).ref = .unknown
    let ready := usable ∧ ¬ lost ∧ u.inhibit = false ∧ (∀ b ∈ as, (u.ax b).owner = .none) ∧
      (∀ b ∈ as, (u.ax b).motion ≠ .fault) ∧ (∀ b ∈ as, (u.ax b).lockout = false) ∧ u.reachable as = true
    let answers (r : Result) := exec (.jog tag axis dir mode n) s = .next (State.settle (u.reply 0x13 tag r []))
    let op : LinkOp := ⟨.jog, a, counts.isNone, d, if counts = none then some 0 else none, none⟩
    let v := u.modAll as (fun x => { x with owner := .link op, search := 0 })
    let p := (u.ax a).pos.getD 0
    let near (t : Nat) := ∀ b ∈ as, ∀ q, (u.ax b).pos = some q → apart t q ≤ (u.profile u.store.active 0).tolerance
    (¬ usable → answers .notConfigured) ∧
    (usable → lost → answers .unreferenced) ∧
    (usable → ¬ lost → u.inhibit = true → answers .inhibited) ∧
    (usable → ¬ lost → u.inhibit = false → (∀ o, (u.ax a).owner = .link o → o.kind ≠ .jog) →
      (∃ b ∈ as, (u.ax b).owner ≠ .none) → answers .claimed) ∧
    (usable → ¬ lost → u.inhibit = false → (∀ b ∈ as, (u.ax b).owner = .none) →
      ((∃ b ∈ as, (u.ax b).motion = .fault) → answers .faultPending) ∧
      ((∀ b ∈ as, (u.ax b).motion ≠ .fault) → (∃ b ∈ as, (u.ax b).lockout = true) → answers .lockedOut) ∧
      ((∀ b ∈ as, (u.ax b).motion ≠ .fault) → (∀ b ∈ as, (u.ax b).lockout = false) → u.reachable as = false →
        answers .noChannel)) ∧
    (ready → ∀ k, counts = some k →
      let t := match d with
        | .low => p - k
        | .high => min (p + k) (u.travel a)
      ((∀ b ∈ as, (u.ax b).pos ≠ none) ∧ near t → exec (.jog tag axis dir mode n) s =
        .next (State.settle ((v.tellOutcome a .already []).reply 0x13 tag .ok []))) ∧
      (¬ ((∀ b ∈ as, (u.ax b).pos ≠ none) ∧ near t) → exec (.jog tag axis dir mode n) s =
        .next (State.settle (((v.latch as a t false 3 0).startOrBlock as).reply 0x13 tag .ok [])))) ∧
    (ready → counts = none → exec (.jog tag axis dir mode n) s =
      .next (State.settle (((v.notIdle.latch as a (match d with
          | .low => 0
          | .high => u.travel a) true 3 0).startOrBlock as).reply 0x13 tag .ok []))))

/-- A repeated HOLD restarts the jog window and changes nothing else; any other JOG in the same direction is refused BUSY, and
so is every JOG once the end of the jog is decided or its axis has a fault record; at the window's expiry the jog ends
RELEASED and its axes take the stop of a link-operation end (R50). A JOG in the other direction reverses the jog, by the
motion state of its axes (R51, R81): a new window of a HOLD, none of a COUNTS jog (log 69); the new target in the records with
corrections used 0; a controlled stop from the duty at the request, a changed destination, a question at the end of the
settle, or the question asked at once in QUEUED and BLOCKED. Choices of the model: log 4, log 10, log 11, log 12, log 16, log
18, log 33, log 34, log 36, log 40, log 42, log 48, log 55, log 69. -/
def Obligations.JogWindowRestartsAndExpires : Prop :=
  (∀ (tag axis dir mode : Byte) (n : Half) (s : State) (a : AxisNo) (op : LinkOp), Listens s → finOf 12 axis = some a →
    let u := s.frameHeard
    (u.ax a).owner = .link op → op.kind = .jog → op.result = none → (∀ b ∈ u.members a, (u.ax b).fault = none) →
    (u.ax a).config ≠ none → u.gangPending a = false → u.inhibit = false → dirOf dir = some op.dir →
    (mode = 1 → op.hold = true → exec (.jog tag axis dir mode n) s = .next (State.settle
      ((u.modOp a (fun o => { o with window := some 0 })).reply 0x13 tag .ok []))) ∧
    (mode = 1 → op.hold = false → exec (.jog tag axis dir mode n) s = .next (State.settle (u.reply 0x13 tag .busy []))) ∧
    (mode = 0 → 1 ≤ n.toNat → n.toNat ≤ 2000 → (∀ b ∈ u.members a, (u.ax b).ref ≠ .unknown) →
      exec (.jog tag axis dir mode n) s = .next (State.settle (u.reply 0x13 tag .busy [])))) ∧
  (∀ (tag axis dir mode : Byte) (n : Half) (s : State) (a : AxisNo) (op : LinkOp) (d : Dir), Listens s →
    finOf 12 axis = some a →
    let u := s.frameHeard
    (u.ax a).owner = .link op → op.kind = .jog → op.result ≠ none ∨ (∃ b ∈ u.members a, (u.ax b).fault ≠ none) →
    (u.ax a).config ≠ none → u.gangPending a = false → u.inhibit = false → dirOf dir = some d →
    (mode = 0 ∧ 1 ≤ n.toNat ∧ n.toNat ≤ 2000 ∧ (∀ b ∈ u.members a, (u.ax b).ref ≠ .unknown)) ∨ mode = 1 →
    exec (.jog tag axis dir mode n) s = .next (State.settle (u.reply 0x13 tag .busy []))) ∧
  (∀ (s : State) (a : AxisNo), s.power.inReset = false →
    (∀ op, (s.ax a).owner = .link op → op.kind = .jog → op.window ≠ none → op.result = none →
      (∀ b ∈ s.members a, (s.ax b).motion ≠ .checking ∧ ∀ st, (s.ax b).stop = some st → st.dest ≠ .checkDone) →
      exec (.jogWindowExpiry a) s = .next (State.settle
        (((s.modOp a (fun o => { o with result := some (.released, none), window := none })).stopAll (s.members a)
          .halt).passSince s))) ∧
    ((∀ op, (s.ax a).owner = .link op → op.kind = .jog → op.window = none) →
      exec (.jogWindowExpiry a) s = .next s.settle)) ∧
  (∀ (tag axis dir mode : Byte) (n : Half) (s : State) (a : AxisNo) (op : LinkOp) (d : Dir) (counts : Option Nat),
    Listens s → finOf 12 axis = some a →
    let u := s.frameHeard
    let as := u.members a
    (u.ax a).owner = .link op → op.kind = .jog → op.result = none → (∀ b ∈ as, (u.ax b).fault = none) →
    (u.ax a).config ≠ none → u.gangPending a = false → u.inhibit = false → u.partner a ≠ some a →
    dirOf dir = some d → d ≠ op.dir →
    (mode = 0 ∧ 1 ≤ n.toNat ∧ n.toNat ≤ 2000 ∧ counts = some n.toNat ∧ (∀ b ∈ as, (u.ax b).ref ≠ .unknown) ∨
      mode = 1 ∧ counts = none) →
    let p := (u.ax a).pos.getD 0
    let target := match counts, d with
      | some k, .low => p - k
      | some k, .high => min (p + k) (u.travel a)
      | none, .low => 0
      | none, .high => u.travel a
    let w := u.modOp a (fun o =>
      { o with hold := counts.isNone, dir := d, window := if counts = none then some 0 else none })
    let v := (if counts = none then w.notIdle else w).modAll as (fun x => { x with move := x.move.map (fun m =>
      { m with named := a, target := target, endFlag := counts.isNone, corrections := 0 }) })
    let answers (t : State) := exec (.jog tag axis dir mode n) s = .next (State.settle (t.reply 0x13 tag .ok []))
    ((u.ax a).motion = .queued → v.anyBlocked as = false → answers v) ∧
    ((u.ax a).motion = .queued → v.anyBlocked as = true → answers
      ((((as.foldl State.leaveQueue v).modAll as (fun x => { x with motion := .idle, held := false })).blockEntry as).passSince
        v)) ∧
    ((u.ax a).motion = .blocked → answers (v.reevaluate a)) ∧
    ((u.ax a).motion ≠ .queued → (u.ax a).motion ≠ .blocked → ∃ t, answers t ∧ t = { v with axes := t.axes } ∧
      (∀ b, b ∉ as → t.ax b = v.ax b) ∧
      (∀ b ∈ as,
        let y := v.ax b
        (y.motion = .driving → t.ax b = { y with
          motion := .stopping, phase := none, blanking := false, backoff := none,
          check := y.check.map (fun k => { k with pulse := none }),
          stop := some ⟨.reversal, .controlled, v.dutyNow b, true, 0, false, false⟩ }) ∧
        (∀ st, y.motion = .stopping → y.stop = some st → t.ax b = { y with
          noted := none,
          stop := some { st with dest := match st.dest with
            | .held => .held
            | .fault => .fault
            | .completion _ | .idle _ | .blocked _ _ | .reversal | .checkDone =>
              if st.revoked then .held else .reversal } }) ∧
        (y.motion = .engaging → t.ax b = { y with move := y.move.map (fun m => { m with reversed := true }) }) ∧
        (y.motion ≠ .driving → y.motion ≠ .stopping → y.motion ≠ .engaging → t.ax b = y)))) ∧
  (∀ (s : State) (a : AxisNo) (f : LinkOp → LinkOp), s.modOp a f = s.modAll (s.members a) (fun x => match x.owner with
    | .link op => { x with owner := .link (f op) }
    | .none | .runner _ => x))

/-- How a stop request takes effect on one axis by its motion state (R39 to R43, R164, R75): a controlled stop from DRIVING
that ramps down from the duty applied; the destination alone in STOPPING, by the table of R43, of a reversal by R51, R106 and
R109, of a winding test after its pulses by R69, of a gang axis at its noted outcome by R79; the destination recorded in
ENGAGING, and changed as in STOPPING where one is recorded already; in CHECKING a keep-out block abandons the test, and
nothing else reaches it (R69); a QUEUED axis leaves the queue, to IDLE, at a keep-out block with its records for the BLOCKED
that its caller enters (R124), and takes no revocation; BLOCKED and IDLE take a pause and a halt alone, by their own lines;
FAULT and BACKOFF untouched. A request that reaches several axes, such as both axes of a driving gang, reaches each in turn
and stops each from the effective duty it had at the request (R75). Choices of the model: log 63. -/
def Obligations.StopRequestsActByMotionState : Prop :=
  (∀ (s : State) (a : AxisNo) (r : StopReq),
    let x := s.ax a
    (x.motion = .driving → s.stopAxis a r = s.setAx a
      { x with motion := .stopping, phase := none, blanking := false, backoff := none,
               check := x.check.map (fun k => { k with pulse := none }),
               stop := some ⟨r.dest, .controlled, s.dutyNow a, true, 0, false, false⟩ }) ∧
    (x.motion = .engaging → x.stop = none → s.stopAxis a r =
      s.setAx a { x with stop := some ⟨r.dest, .coast, 0, false, 0, false, false⟩ }) ∧
    (∀ st, x.motion = .stopping ∨ x.motion = .engaging → x.stop = some st →
      let waits := st.arrived && x.noted.isSome
      let d := match st.dest, r with
        | .completion .correct, .revoke => if waits then .held else .completion .held
        | .completion c, .revoke => if waits then .held else .completion c
        | .completion _, .block e p => if waits then .blocked e p else .completion (.blocked e p)
        | .completion _, .pause => .idle true
        | .completion _, .halt => .idle false
        | .idle _, .halt => .idle false
        | .idle k, _ => .idle k
        | .held, .revoke => .held
        | .held, .block e p => .blocked e p
        | .held, .pause => .idle true
        | .held, .halt => .idle false
        | .blocked _ _, .pause => .idle true
        | .blocked _ _, .halt => .idle false
        | .blocked e p, _ => .blocked e p
        | .fault, _ => .fault
        | .reversal, .pause => .idle true
        | .reversal, .halt => .idle false
        | .reversal, .revoke => .held
        | .reversal, .block e p => .blocked e p
        | .checkDone, .block e p => .blocked e p
        | .checkDone, _ => .checkDone
      s.stopAxis a r = s.setAx a { x with
        stop := some { st with dest := d, revoked := st.revoked || decide (r = .revoke) },
        noted := if waits = true ∧ r ≠ .pause ∧ r ≠ .halt then none else x.noted }) ∧
    (∀ st c, x.motion = .stopping → x.stop = some st → st.arrived = true → x.noted ≠ none → st.dest = .completion c →
      (r = .revoke → s.stopAxis a r = s.setAx a { x with stop := some { st with dest := .held, revoked := true }, noted := none }) ∧
      (∀ e p, r = .block e p → s.stopAxis a r =
        s.setAx a { x with stop := some { st with dest := .blocked e p }, noted := none })) ∧
    (x.motion = .checking →
      (∀ e p, r = .block e p → s.stopAxis a r = s.setAx a { x with
        motion := .stopping, phase := none, blanking := false, backoff := none,
        check := x.check.map (fun k => { k with pulse := none }),
        stop := some ⟨.blocked e p, .coast, s.dutyNow a, false, 0, false, false⟩ }) ∧
      ((∀ e p, r ≠ .block e p) → s.stopAxis a r = s)) ∧
    (∀ keep, x.toIdle keep = { x with
      motion := .idle, phase := none, held := false, blanking := false, stop := none, backoff := none, check := none,
      noted := none, link := none, move := if keep = true then x.move else none }) ∧
    (x.motion = .queued → r = .halt → s.stopAxis a r = (s.leaveQueue a).setAx a (x.toIdle false)) ∧
    (x.motion = .queued → r = .pause → s.stopAxis a r = (s.leaveQueue a).setAx a (x.toIdle true)) ∧
    (x.motion = .blocked → r = .halt → s.stopAxis a r = s.setAx a (x.toIdle false)) ∧
    (x.motion = .blocked → r = .pause → s.stopAxis a r = s.setAx a (x.toIdle true)) ∧
    (x.motion = .idle → r = .halt → s.stopAxis a r = s.setAx a { x with move := none }) ∧
    (∀ e p, x.motion = .queued → r = .block e p → s.stopAxis a r = (s.leaveQueue a).setAx a
      { x with motion := .idle, held := false }) ∧
    (x.motion = .queued → r = .revoke → s.stopAxis a r = s) ∧
    (x.motion = .blocked → r ≠ .halt → r ≠ .pause → s.stopAxis a r = s) ∧
    (x.motion = .idle → r ≠ .halt → s.stopAxis a r = s) ∧
    (x.motion = .fault ∨ x.motion = .backoff → s.stopAxis a r = s) ∧
    (∀ b, b ≠ a → x.motion = .driving → (s.ax b).motion = .driving →
      ((s.stopAll [a, b] r).ax a).stop = some ⟨r.dest, .controlled, s.dutyNow a, true, 0, false, false⟩ ∧
      ((s.stopAll [a, b] r).ax b).stop = some ⟨r.dest, .controlled, s.dutyNow b, true, 0, false, false⟩)) ∧
  (∀ (s : State) (duty : Nat) (a : AxisNo) (r : StopReq), s.stopAxisFrom duty a r =
    (s.stopAxis a r).modAx a (fun y => match (s.ax a).motion, r with
      | .driving, _ | .checking, .block _ _ => { y with stop := y.stop.map (fun st => { st with rampFrom := duty }) }
      | _, _ => y)) ∧
  (∀ (s : State) (as : List AxisNo) (r : StopReq),
    s.stopAll as r = as.foldl (fun t b => t.stopAxisFrom (s.dutyNow b) b r) s)

/-! ### Requests of the profile store -/

/-- PROFILE_READ (R26): the ten values of the profile, in the order of the profile table and the layout of PROFILE_WRITE; a
bank or index that names nothing is refused BAD_ARG, and RESETTING refuses BUSY. PROFILE_SWAP (R27): the inactive bank becomes
active, and the reply carries the bank that is now active; BUSY in RESETTING. Choices of the model: log 10. -/
def Obligations.ProfilesAreReadAndSwapped : Prop :=
  (∀ (tag bank index : Byte) (s : State),
     (∀ (k : Bank) (i : Fin 8), Listens s → (bank = 0 ∧ k = .a ∨ bank = 1 ∧ k = .b) → index.toNat = i.val →
       let u := s.frameHeard
       let p := u.profile k i
       exec (.profileRead tag bank index) s = .next (State.settle (u.reply 0x19 tag .ok
         (b1 p.startDuty ++ b1 p.cruiseDuty ++ b2 p.rampUp ++ b1 p.creepDuty ++ b2 p.creepZone ++ b1 p.coast ++
           b1 p.tolerance ++ b2 p.minSpeed ++ b1 p.obstruction ++ b2 p.blanking)))) ∧
     (Listens s → 2 ≤ bank.toNat ∨ 8 ≤ index.toNat →
       exec (.profileRead tag bank index) s = .next (State.settle (s.frameHeard.reply 0x19 tag .badArg []))) ∧
     (Resets s → exec (.profileRead tag bank index) s = .next (State.settle (s.frameHeard.reply 0x19 tag .busy [])))) ∧
  (∀ (tag : Byte) (s : State),
     (Listens s → exec (.profileSwap tag) s = .next (State.settle
       (State.reply { s.frameHeard with store := { s.store with active := if s.store.active = .a then .b else .a } }
         0x1A tag .ok [if s.store.active = .a then 1 else 0]))) ∧
     (Resets s → exec (.profileSwap tag) s = .next (State.settle (s.frameHeard.reply 0x1A tag .busy [])))) ∧
  (∀ (s : State) (i : Fin 8), s.profile .a i = s.store.bankA[i] ∧ s.profile .b i = s.store.bankB[i])

/-- PROFILE_WRITE (R25): each value in its range or BAD_ARG; the active bank is PROTECTED while an axis is in one of the
six states or a runner is not FREE; else the ten values replace the profile. SCALE_SET (R28): the group's factor changes
at once, and escalation clears on every axis whose configuration names the group and on the gang partner of every such
axis, and on no other; nothing else of any axis changes. Choices of the model: log 10. -/
def Obligations.ProfileWriteAndScaleSet : Prop :=
  ((∀ (v : ProfileArgs) (p : Profile), profileOf v = some p ↔
     (10 ≤ v.startDuty.toNat ∧ v.startDuty.toNat ≤ 100 ∧ 20 ≤ v.cruiseDuty.toNat ∧ v.cruiseDuty.toNat ≤ 100 ∧
       v.rampUp.toNat ≤ 500 ∧ 10 ≤ v.creepDuty.toNat ∧ v.creepDuty.toNat ≤ 60 ∧ v.creepZone.toNat ≤ 500 ∧
       v.coast.toNat ≤ 30 ∧ 1 ≤ v.tolerance.toNat ∧ v.tolerance.toNat ≤ 20 ∧ 5 ≤ v.minSpeed.toNat ∧
       v.minSpeed.toNat ≤ 500 ∧ 5 ≤ v.obstruction.toNat ∧ v.obstruction.toNat ≤ 200 ∧ 50 ≤ v.blanking.toNat ∧
       v.blanking.toNat ≤ 500) ∧
     p = ⟨v.startDuty.toNat, v.cruiseDuty.toNat, v.rampUp.toNat, v.creepDuty.toNat, v.creepZone.toNat, v.coast.toNat,
       v.tolerance.toNat, v.minSpeed.toNat, v.obstruction.toNat, v.blanking.toNat⟩) ∧
   (∀ (tag bank index : Byte) (v : ProfileArgs) (s : State) (k : Bank) (i : Fin 8), Listens s → bankOf bank = some k →
     finOf 8 index = some i →
     let u := s.frameHeard
     let inUse := (∃ a, (u.ax a).motion = .queued ∨ (u.ax a).motion = .engaging ∨ (u.ax a).motion = .driving ∨
       (u.ax a).motion = .stopping ∨ (u.ax a).motion = .backoff ∨ (u.ax a).motion = .blocked) ∨ ∃ r, u.run r ≠ none
     (profileOf v = none →
       exec (.profileWrite tag bank index v) s = .next (State.settle (u.reply 0x18 tag .badArg []))) ∧
     (∀ p, profileOf v = some p → k = u.store.active → inUse →
       exec (.profileWrite tag bank index v) s = .next (State.settle (u.reply 0x18 tag .isProtected []))) ∧
     (∀ p, profileOf v = some p → k ≠ u.store.active ∨ ¬ inUse →
       exec (.profileWrite tag bank index v) s = .next (State.settle ((u.setProfile k i p).reply 0x18 tag .ok [])) ∧
       (u.setProfile k i p).profile k i = p ∧
       (∀ l j, l ≠ k ∨ j ≠ i → (u.setProfile k i p).profile l j = u.profile l j)))) ∧
  (∀ (tag group factor : Byte) (s : State) (g : Fin 3), Listens s → group.toNat = g.val → 20 ≤ factor.toNat →
     factor.toNat ≤ 100 →
     let u := s.frameHeard
     let named (a : AxisNo) := ∃ b ∈ u.members a, ∃ c, (u.ax b).config = some c ∧ c.scaleGroup = g
     ∃ v : State,
       exec (.scaleSet tag group factor) s = .next (State.settle (v.reply 0x1B tag .ok [])) ∧
       v = { u with store := { u.store with scales := u.store.scales.set g factor.toNat }, axes := v.axes } ∧
       (∀ a, (named a → v.ax a = { u.ax a with escalated := false }) ∧ (¬ named a → v.ax a = u.ax a))) ∧
  (∀ (s : State) (a : AxisNo), ((s.ax a).config = none → s.scale a = 100) ∧
    (∀ c, (s.ax a).config = some c → s.scale a = s.store.scales[c.scaleGroup]))



/-! ### Requests of the keep-out monitor, and its judgements -/

/-- KEEPOUT_SET (R119): the checks in their order; the entry takes the new contents in full or becomes empty, and nothing
else changes. Choices of the model: log 10. -/
def Obligations.KeepoutSetReplacesAnEntry : Prop :=
  ∀ (tag entry present : Byte) (args : KeepoutArgs) (s : State) (n : EntryNo), Listens s → entry.toNat = n.val →
    let u := s.frameHeard
    let rests (e : Option KeepoutEntry) := ∀ k, e = some k → ∀ a, a = k.axisA ∨ a = k.axisB →
      (u.ax a).motion = .idle ∨ (u.ax a).motion = .fault
    let answers (r : Result) := exec (.keepoutSet tag entry present args) s = .next (State.settle (u.reply 0x20 tag r []))
    let takes (e : Option KeepoutEntry) := exec (.keepoutSet tag entry present args) s =
      .next (State.settle (State.reply { u with entries := u.entries.set n e } 0x20 tag .ok []))
    let good := args.enabled.toNat ≤ 1 ∧ args.axisA.toNat < 12 ∧ args.axisB.toNat < 12 ∧ args.axisA ≠ args.axisB ∧
      args.loA.toNat ≤ args.hiA.toNat ∧ args.loB.toNat ≤ args.hiB.toNat ∧ 5 ≤ args.guard.toNat ∧ args.guard.toNat ≤ 200
    (2 ≤ present.toNat → answers .badArg) ∧
    (present = 0 → ¬ rests u.entries[n] → answers .busy) ∧
    (present = 0 → rests u.entries[n] → takes none) ∧
    (present = 1 → ¬ good → answers .badArg) ∧
    (∀ a b : AxisNo, present = 1 → good → args.axisA.toNat = a.val → args.axisB.toNat = b.val →
      let e : KeepoutEntry := ⟨args.enabled = 1, a, args.loA.toNat, args.hiA.toNat, b, args.loB.toNat, args.hiB.toNat,
        args.guard.toNat⟩
      let fits := ∃ c d, (u.ax a).config = some c ∧ (u.ax b).config = some d ∧ e.hiA ≤ c.travel ∧ e.hiB ≤ d.travel
      (¬ fits → answers .badArg) ∧
      (fits → ¬ (rests u.entries[n] ∧ rests (some e)) → answers .busy) ∧
      (fits → rests u.entries[n] → rests (some e) → takes (some e)))

/-- KEEPOUT_GET (R120): whether the entry is empty, its contents, and for an enabled entry whether each axis occupies
its guarded region and whether the entry is in conflict (R121), as they stand; no state changes. Choices of the model:
log 9, log 10. -/
def Obligations.KeepoutGetAnswersTheEntry : Prop :=
  ∀ (tag entry : Byte) (s : State),
    (∀ n : EntryNo, Listens s → entry.toNat = n.val →
      let u := s.frameHeard
      let answers (d : List Byte) := exec (.keepoutGet tag entry) s = .next (State.settle (u.reply 0x21 tag .ok d))
      let inside (a : AxisNo) (lo hi guard : Nat) :=
        (u.ax a).pos = none ∨ ∃ p, (u.ax a).pos = some p ∧ lo ≤ p + guard ∧ p ≤ hi + guard
      (u.entries[n] = none → answers ([1] ++ List.replicate 12 0 ++ [0xFF, 0xFF, 0xFF])) ∧
      (∀ e, u.entries[n] = some e →
        let contents := b1 e.axisA.val ++ b2 e.loA ++ b2 e.hiA ++ b1 e.axisB.val ++ b2 e.loB ++ b2 e.hiB ++ b1 e.guard
        (e.enabled = false → answers ([0, 0] ++ contents ++ [0xFF, 0xFF, 0xFF])) ∧
        (∀ oa ob : Bool, e.enabled = true → e.axisA ≠ e.axisB → (oa = true ↔ inside e.axisA e.loA e.hiA e.guard) →
          (ob = true ↔ inside e.axisB e.loB e.hiB e.guard) →
          answers ([0, 1] ++ contents ++ [if oa then 1 else 0, if ob then 1 else 0, if oa && ob then 1 else 0])))) ∧
    (Listens s → 24 ≤ entry.toNat →
      exec (.keepoutGet tag entry) s = .next (State.settle (s.frameHeard.reply 0x21 tag .badArg []))) ∧
    (Resets s → exec (.keepoutGet tag entry) s = .next (State.settle (s.frameHeard.reply 0x21 tag .busy [])))

/-- Deeper or leaving, by the table of R122: below the region, above it, nearer to one exit edge or the other, equidistant
from two, with no exit edge, and without a position. The question of R123 names the lowest-numbered enabled entry in conflict
in which a direction is deeper, occupied regions widened by the guard (R121). The directions judged, by motion state and
target (R122). The blocks of a position change (R124): a walk over the enabled entries in conflict that name the moved axis,
the lowest-numbered first, and within an entry over axis A, then axis B (log 41), each taken where the table of motion states
names it and its movement is deeper, QUEUED axes and gangs among them; where no gang is formed and no axis is QUEUED, an axis
that the table names stops toward BLOCKED by the lowest-numbered entry of the moved axis in which its movement is deeper,
every other axis goes on; a block of one axis of a gang is applied to both (R75), and one in REVERSE ends a joint backoff
(R78). Choices of the model: log 7, log 11, log 38, log 41, log 42. -/
def Obligations.DeeperFollowsTheTable : Prop :=
  (∀ (travel lo hi p : Nat) (d : Dir), lo ≤ hi → hi ≤ travel → p ≤ travel →
    (p < lo → (isDeeper travel lo hi (some p) d = true ↔ d = .high)) ∧
    (hi < p → (isDeeper travel lo hi (some p) d = true ↔ d = .low)) ∧
    (lo ≤ p → p ≤ hi → lo ≠ 0 → hi ≠ travel → p - lo < hi - p → (isDeeper travel lo hi (some p) d = true ↔ d = .high)) ∧
    (lo ≤ p → p ≤ hi → lo ≠ 0 → hi ≠ travel → hi - p < p - lo → (isDeeper travel lo hi (some p) d = true ↔ d = .low)) ∧
    (lo ≤ p → p ≤ hi → lo ≠ 0 → hi ≠ travel → p - lo = hi - p → isDeeper travel lo hi (some p) d = false) ∧
    (lo ≤ p → p ≤ hi → lo ≠ 0 → hi = travel → (isDeeper travel lo hi (some p) d = true ↔ d = .high)) ∧
    (lo ≤ p → p ≤ hi → lo = 0 → hi ≠ travel → (isDeeper travel lo hi (some p) d = true ↔ d = .low)) ∧
    (lo ≤ p → p ≤ hi → lo = 0 → hi = travel → isDeeper travel lo hi (some p) d = true) ∧
    isDeeper travel lo hi none d = true) ∧
  (∀ (s : State) (a : AxisNo) (dirs : List Dir),
    let lo (e : KeepoutEntry) (x : AxisNo) := if e.axisA = x then e.loA else e.loB
    let hi (e : KeepoutEntry) (x : AxisNo) := if e.axisA = x then e.hiA else e.hiB
    let inside (e : KeepoutEntry) (x : AxisNo) :=
      (s.ax x).pos = none ∨ ∃ p, (s.ax x).pos = some p ∧ lo e x ≤ p + e.guard ∧ p ≤ hi e x + e.guard
    let holds (n : EntryNo) (b : AxisNo) := ∃ e, s.entries[n] = some e ∧ e.enabled = true ∧
      (e.axisA = a ∧ b = e.axisB ∨ e.axisA ≠ a ∧ e.axisB = a ∧ b = e.axisA) ∧ inside e e.axisA ∧ inside e e.axisB ∧
      ∃ d ∈ dirs, isDeeper (s.travel a) (lo e a) (hi e a) (s.ax a).pos d = true
    (∀ n b, s.ask a dirs = some (n, b) ↔ holds n b ∧ ∀ m, m < n → ∀ c, ¬ holds m c) ∧
    (s.ask a dirs = none ↔ ∀ n b, ¬ holds n b)) ∧
  (∀ (s : State) (a : AxisNo),
    let x := s.ax a
    (x.motion = .driving → s.nowDirs a = [x.driveDir]) ∧
    (∀ k, x.motion = .backoff → x.backoff = some k → s.nowDirs a = if k.step = .reverse then [k.dir] else []) ∧
    (∀ k, x.motion = .checking → x.check = some k → s.nowDirs a = k.pulse.toList) ∧
    (x.motion ≠ .driving → x.motion ≠ .backoff → x.motion ≠ .checking → s.nowDirs a = s.wantDirs a) ∧
    (x.check ≠ none → s.wantDirs a = [.low, .high]) ∧
    (x.check = none → x.move = none → s.wantDirs a = []) ∧
    (∀ m, x.check = none → x.move = some m →
      (∀ c, x.homing = true → x.config = some c → s.wantDirs a = [c.refEnd]) ∧
      (x.homing = false → x.pos = none → s.wantDirs a = [if m.target = 0 then .low else .high]) ∧
      (∀ p, x.homing = false → x.pos = some p →
        (p < m.target → s.wantDirs a = [.high]) ∧
        (m.target < p → s.wantDirs a = [.low]) ∧
        (p = m.target → m.endFlag = true → s.wantDirs a = [if m.target = 0 then .low else .high]) ∧
        (p = m.target → m.endFlag = false → s.partner a = none → s.wantDirs a = []) ∧
        (∀ b q, p = m.target → m.endFlag = false → s.partner a = some b → (s.ax b).pos = some q →
          (q < m.target → s.wantDirs a = [.high]) ∧ (m.target < q → s.wantDirs a = [.low]) ∧
          (q = m.target → s.wantDirs a = []))))) ∧
  (∀ (s : State) (a x : AxisNo), (∀ b, s.partner b = none) → (∀ b, (s.ax b).motion ≠ .queued) →
    let y := s.ax x
    let takes := y.motion = .driving ∨ y.motion = .checking ∨ (y.motion = .engaging ∧ y.stop = none) ∨
      (y.motion = .backoff ∧ ∃ k, y.backoff = some k ∧ k.step = .reverse)
    let hits (n : EntryNo) (b : AxisNo) := ∃ e, s.entries[n] = some e ∧ e.enabled = true ∧ (e.axisA = a ∨ e.axisB = a) ∧
      s.conflict e = true ∧ (e.axisA = x ∧ b = e.axisB ∨ e.axisA ≠ x ∧ e.axisB = x ∧ b = e.axisA) ∧
      s.deeperIn e x (s.nowDirs x) = true
    (¬ takes ∨ (∀ n b, ¬ hits n b) → (s.blocks a).ax x = y) ∧
    (∀ n b, takes → hits n b → (∀ m, m < n → ∀ c, ¬ hits m c) →
      (y.motion = .driving → (s.blocks a).ax x = { y with
        motion := .stopping, phase := none, blanking := false, backoff := none,
        check := y.check.map (fun k => { k with pulse := none }),
        stop := some ⟨.blocked n b, .controlled, s.dutyNow x, true, 0, false, false⟩ }) ∧
      (y.motion = .checking → (s.blocks a).ax x = { y with
        motion := .stopping, phase := none, blanking := false, backoff := none,
        check := y.check.map (fun k => { k with pulse := none }),
        stop := some ⟨.blocked n b, .coast, s.dutyNow x, false, 0, false, false⟩ }) ∧
      (y.motion = .engaging → (s.blocks a).ax x =
        { y with stop := some ⟨.blocked n b, .coast, 0, false, 0, false, false⟩ }) ∧
      (y.motion = .backoff → (s.blocks a).ax x = { y with
        motion := .stopping, blanking := false, backoff := none,
        fault := y.fault.map (fun f => if f.kind = .obstruction then { f with backoff := .cutShort } else f),
        stop := some ⟨if y.fault.isSome then .fault else .idle false, .quick, 0, false, 0, false,
          (y.backoff.map Backoff.rest).getD false⟩ }))) ∧
  (∀ (s : State) (a : AxisNo) (n : EntryNo) (b : AxisNo),
    ((s.ax a).motion ≠ .queued → (s.ax a).motion ≠ .backoff →
      s.blockGang a n b = s.stopAll (s.members a) (.block n b)) ∧
    ((s.ax a).motion = .backoff → s.blockGang a n b = s.cutBackoff a .quick) ∧
    ((s.ax a).motion = .queued →
      s.blockGang a n b = (s.stopAll (s.members a) (.block n b)).blockEntry (s.members a))) ∧
  (∀ (s : State) (a : AxisNo),
    let takes (t : State) (x : AxisNo) := (t.ax x).motion = .driving ∨ (t.ax x).motion = .queued ∨
      (t.ax x).motion = .checking ∨ ((t.ax x).motion = .engaging ∧ (t.ax x).stop = none) ∨
      ((t.ax x).motion = .backoff ∧ (t.ax x).backoff.map Backoff.step = some .reverse)
    let deeper (t : State) (e : KeepoutEntry) (x : AxisNo) := takes t x ∧ t.deeperIn e x (t.nowDirs x) = true
    let taken (n : EntryNo) (e : KeepoutEntry) (t : State) (x b : AxisNo) : State :=
      if deeper t e x then t.blockGang x n b else t
    let entry (t : State) (n : EntryNo) : State := match t.entries[n] with
      | none => t
      | some e => if e.enabled = true ∧ (e.axisA = a ∨ e.axisB = a) ∧ t.conflict e = true then
          taken n e (taken n e t e.axisA e.axisB) e.axisB e.axisA else t
    s.blocks a = (List.finRange 24).foldl entry s) ∧
  (∀ (s : State) (e : KeepoutEntry) (a : AxisNo) (dirs : List Dir),
    let lo (x : AxisNo) := if e.axisA = x then e.loA else e.loB
    let hi (x : AxisNo) := if e.axisA = x then e.hiA else e.hiB
    let inside (x : AxisNo) := (s.ax x).pos = none ∨ ∃ p, (s.ax x).pos = some p ∧ lo x ≤ p + e.guard ∧ p ≤ hi x + e.guard
    (s.conflict e = true ↔ e.enabled = true ∧ inside e.axisA ∧ inside e.axisB) ∧
    (s.deeperIn e a dirs = true ↔ ∃ d ∈ dirs, isDeeper (s.travel a) (lo a) (hi a) (s.ax a).pos d = true) ∧
    ((s.ax a).config = none → s.travel a = 0) ∧ (∀ c, (s.ax a).config = some c → s.travel a = c.travel)) ∧
  (∀ (s : State) (a : AxisNo) (m : MoveRec), (s.ax a).check = none → (s.ax a).move = some m →
    (s.moveDir a m).toList = s.wantDirs a) ∧
  (∀ (s : State) (as : List AxisNo), s.anyBlocked as = true ↔ ∃ a ∈ as, s.ask a (s.wantDirs a) ≠ none)

/-! ### Requests of the plan engine and the runners -/

/-- PLAN_WRITE and PLAN_DEFINE (R137, R138, R140): the checks in their order; a taken write replaces exactly the places of its
range, a taken definition replaces the slot's record, and length 0 undefines it with all four fields at 0. The entries of a
write are taken when each is the empty form or a well-formed move entry, by the conditions of R136, and each then holds the
fields as they were sent. Choices of the model: log 9, log 10, log 68. -/
def Obligations.PlanWriteAndDefineReplace : Prop :=
  (∀ (tag start count : Byte) (es : List EntryArgs) (s : State), Listens s → planWriteFits count es = true →
    let u := s.frameHeard
    let answers (r : Result) := exec (.planWrite tag start count es) s = .next (State.settle (u.reply 0x28 tag r []))
    let inRange := start.toNat < 64 ∧ 1 ≤ count.toNat ∧ start.toNat + count.toNat ≤ 64
    let protectedPlace (i : Nat) := ∃ r run, u.run r = some run ∧ (u.slots[run.slot]).start ≤ i ∧
      i < (u.slots[run.slot]).start + (u.slots[run.slot]).length
    (¬ inRange → answers .badArg) ∧
    (inRange → entriesOf es = none → answers .badArg) ∧
    (∀ xs, inRange → entriesOf es = some xs →
      (∃ i, start.toNat ≤ i ∧ i < start.toNat + count.toNat ∧ protectedPlace i) → answers .isProtected) ∧
    (∀ xs, inRange → entriesOf es = some xs →
      (∀ i, start.toNat ≤ i → i < start.toNat + count.toNat → ¬ protectedPlace i) →
      ∃ ps : Vector (Option PlanEntry) 64,
        exec (.planWrite tag start count es) s =
          .next (State.settle (State.reply { u with places := ps } 0x28 tag .ok [])) ∧
        (∀ (k : Fin 64) (e : Option PlanEntry), start.toNat ≤ k.val → xs[k.val - start.toNat]? = some e → ps[k] = e) ∧
        (∀ k : Fin 64, k.val < start.toNat ∨ start.toNat + count.toNat ≤ k.val → ps[k] = u.places[k]))) ∧
  (∀ (es : List EntryArgs) (xs : List (Option PlanEntry)), entriesOf es = some xs ↔
    List.Forall₂ (fun e x => entryOf e = some x) es xs) ∧
  (∀ (e : EntryArgs) (x : Option PlanEntry), entryOf e = some x ↔
    (e.axis = 0xFF ∧ x = none) ∨
    ∃ y : PlanEntry, x = some y ∧ e.axis.toNat = y.axis.val ∧
      (e.kind = 0 ∧ e.value.toNat ≤ 16000 ∧ y.target = .abs e.value.toNat ∨
        (∃ k : Fin 4, e.kind = 1 ∧ e.value.toNat = k.val ∧ y.target = .stop k) ∨
        e.kind = 2 ∧ e.value = 0 ∧ y.target = .endLow ∨ e.kind = 3 ∧ e.value = 0 ∧ y.target = .endHigh ∨
        e.kind = 4 ∧ -16000 ≤ e.value.toInt ∧ e.value.toInt ≤ 16000 ∧ y.target = .rel e.value.toInt) ∧
      e.packed.toNat % 16 = y.profile.val ∧ y.priority = e.packed.toNat / 16 % 4 ∧
      List.Forall₂ (fun (g : GateArgs) (h : Gate) =>
        g.kind = 1 ∧ g.a.toNat ≤ 31 ∧ g.b.toNat ≤ 1000 ∧ h = .after g.a.toNat g.b.toNat ∨
        (∃ a : AxisNo, g.a.toNat = a.val ∧ g.b.toNat ≤ 16000 ∧
          (g.kind = 2 ∧ h = .whenGe a g.b.toNat ∨ g.kind = 3 ∧ h = .whenLe a g.b.toNat)) ∨
        (∃ m : MarkNo, g.kind = 4 ∧ g.a.toNat = m.val ∧ g.b = 0 ∧ h = .mark m)) e.gates y.gates ∧
      (e.setMark = 0xFF ∧ y.setMark = none ∨ ∃ m : MarkNo, e.setMark.toNat = m.val ∧ y.setMark = some m)) ∧
  (∀ (tag slot start length clear timeout : Byte) (s : State) (n : SlotNo), Listens s → slot.toNat = n.val →
    let u := s.frameHeard
    let answers (r : Result) := exec (.planDefine tag slot start length clear timeout) s =
      .next (State.settle (u.reply 0x2A tag r []))
    let inRange := start.toNat < 64 ∧ length.toNat ≤ 32 ∧ start.toNat + length.toNat ≤ 64 ∧ timeout.toNat ≤ 120
    let used := ∃ r run, u.run r = some run ∧ run.slot = n
    let record : Slot := if length = 0 then ⟨0, 0, 0, 0⟩ else ⟨start.toNat, length.toNat, clear, timeout.toNat⟩
    (¬ inRange → answers .badArg) ∧
    (inRange → used → answers .isProtected) ∧
    (inRange → ¬ used → exec (.planDefine tag slot start length clear timeout) s =
      .next (State.settle (State.reply { u with slots := u.slots.set n record } 0x2A tag .ok []))))

/-- PLAN_READ (R139): the entry form answers the start, the number returned and as many whole entries as fit, in the form
PLAN_WRITE takes: a place holds the bytes of the entry that was written, six for the axis, kind, value, profile with priority
and gate count, and set-mark, and four for each gate, or the empty form (R135, R192); the slot form answers the slot record
and its runner; neither changes anything. Choices of the model: log 9, log 10. -/
def Obligations.PlanReadAnswersEntriesAndSlots : Prop :=
  (∀ (tag first n : Byte) (s : State), Listens s →
    let u := s.frameHeard
    let inRange := first.toNat < 64 ∧ 1 ≤ n.toNat ∧ first.toNat + n.toNat ≤ 64
    let bytes (k : Nat) := ((u.places.toList.drop first.toNat).take k).flatMap placeBytes
    (¬ inRange → exec (.planRead tag first (some n)) s = .next (State.settle (u.reply 0x29 tag .badArg []))) ∧
    (inRange → ∃ k : Nat,
      k ≤ n.toNat ∧
      (bytes k).length ≤ 57 ∧
      exec (.planRead tag first (some n)) s =
        .next (State.settle (u.reply 0x29 tag .ok ([first, BitVec.ofNat 8 k] ++ bytes k))) ∧
      (k < n.toNat → 57 < (bytes (k + 1)).length))) ∧
  (∀ (tag slot : Byte) (s : State) (n : SlotNo), Listens s → slot.toNat = n.val →
    let u := s.frameHeard
    let d := u.slots[n]
    let record : List Byte := [if d.length = 0 then 0 else 1, BitVec.ofNat 8 d.start, BitVec.ofNat 8 d.length,
      d.clearMarks, BitVec.ofNat 8 d.timeout]
    let runs (r : RunnerNo) := ∃ run, u.run r = some run ∧ run.slot = n
    ((∀ r, ¬ runs r) →
      exec (.planRead tag slot none) s = .next (State.settle (u.reply 0x29 tag .ok (record ++ [0, 0xFF])))) ∧
    (∀ r, runs r → (∀ q, q < r → ¬ runs q) → exec (.planRead tag slot none) s =
      .next (State.settle (u.reply 0x29 tag .ok (record ++ [1, BitVec.ofNat 8 r.val]))))) ∧
  placeBytes none = [0xFF, 0, 0, 0, 0, 0] ∧
  (∀ (e : EntryArgs) (x : PlanEntry), entryOf e = some (some x) → e.packed.toNat / 64 = e.gates.length →
    let two (h : Half) : List Byte := [BitVec.ofNat 8 (h.toNat / 256), BitVec.ofNat 8 h.toNat]
    placeBytes (some x) = [e.axis, e.kind] ++ two e.value ++ [e.packed, e.setMark] ++
      e.gates.flatMap (fun g => [g.kind, g.a] ++ two g.b))

/-- The entry checks of validation on one move, in the order of R146, and validation ends at the lowest-numbered move that
fails one. A plan whose entries pass every entry check is refused for a cycle exactly when some move can be reached from
itself by AFTER gates, with the lowest-numbered move that lies on any cycle; and RUN answers BAD_PLAN with that move and the
cause CYCLE, which is the seventh of R146's list (R147, R154). Choices of the model: log 9, log 10, log 44. -/
def Obligations.CycleCheckFindsTheLowestCycle : Prop :=
  (∀ (s : State) (slot : Slot) (i : Nat),
    (∀ k : Fin 64, k.val = slot.start + i → s.slotEntry slot i = s.places[k]) ∧
    (s.slotEntry slot i = none → s.checkMove slot i = some .emptyEntry) ∧
    (∀ e, s.slotEntry slot i = some e →
      let configured := (s.ax e.axis).config ≠ none
      let pending := ∃ c b, (s.ax e.axis).config = some c ∧ c.partner = some b ∧
        ∀ d, (s.ax b).config = some d → d.partner ≠ some e.axis
      let beyond := ∃ k d, Gate.after k d ∈ e.gates ∧ slot.length ≤ k
      let itself := ∃ d, Gate.after i d ∈ e.gates
      let unwatched := ∃ a p, (Gate.whenGe a p ∈ e.gates ∨ Gate.whenLe a p ∈ e.gates) ∧
        ∀ c, (s.ax a).config = some c → c.travel < p
      (¬ configured → s.checkMove slot i = some .axisUnconfigured) ∧
      (configured → pending → s.checkMove slot i = some .gangPending) ∧
      (configured → ¬ pending → beyond → s.checkMove slot i = some .afterRange) ∧
      (configured → ¬ pending → ¬ beyond → itself → s.checkMove slot i = some .afterSelf) ∧
      (configured → ¬ pending → ¬ beyond → ¬ itself → unwatched → s.checkMove slot i = some .whenRange) ∧
      (configured → ¬ pending → ¬ beyond → ¬ itself → ¬ unwatched → s.checkMove slot i = none))) ∧
  (∀ (s : State) (slot : Slot) (i : Nat) (c : BadPlan), c ≠ .cycle → (s.validate slot = some (i, c) ↔
    i < slot.length ∧ s.checkMove slot i = some c ∧ ∀ j, j < i → s.checkMove slot j = none)) ∧
  (∀ (s : State) (slot : Slot), (∀ i, i < slot.length → s.checkMove slot i = none) →
    let edge (i k : Nat) := ∃ e d, s.slotEntry slot i = some e ∧ Gate.after k d ∈ e.gates
    let cyclic (i : Nat) := Relation.TransGen edge i i
    (s.validate slot = none ↔ ∀ i, i < slot.length → ¬ cyclic i) ∧
    (∀ i c, s.validate slot = some (i, c) ↔
      c = .cycle ∧ i < slot.length ∧ cyclic i ∧ ∀ j, j < i → ¬ cyclic j)) ∧
  [BadPlan.emptyEntry, .axisUnconfigured, .gangPending, .afterRange, .afterSelf, .whenRange, .cycle].map BadPlan.code =
    List.range 7 ∧
  (∀ (tag slot : Byte) (s : State) (n : SlotNo) (i : Nat), Listens s → slot.toNat = n.val →
    (s.slots[n]).length ≠ 0 → s.validate s.slots[n] = some (i, .cycle) →
    exec (.run tag slot) s = .next (State.settle (s.frameHeard.reply 0x30 tag .badPlan [BitVec.ofNat 8 i, 6])))

/-- RUN (R154 to R156): the checks in their order; a taken RUN starts the slot on the lowest-numbered FREE runner, claims
every axis its entries name with its gang partner, clears the clear-marks, then judges every gate once: of the PENDING moves
with CLOSED gates, a MARK gate whose mark is still set and a WHEN gate whose condition holds are OPEN, and a move with no
other gate is READY (R142, R156). It answers the runner; nothing else changes but the dwell timer and DOZE (R196). An
activation (R30 to R33, R71, R163): the target resolved against the named axis, UNREFERENCED where the axis or its gang
partner has no reference, BAD_TARGET beyond the travel or at an undefined stop, each pausing the runner with PLAN_ERROR;
ALREADY within the tolerance of every position; else the record latched on every axis, forced creep where a reference is not
VALID, and BLOCKED or the grant queue. Choices of the model: log 9, log 10. -/
def Obligations.RunStartsThePlan : Prop :=
  (∀ (tag slot : Byte) (s : State) (n : SlotNo), Listens s → slot.toNat = n.val →
     let u := s.frameHeard
     let d := u.slots[n]
     let claim := u.claimSet d
     let answers (r : Result) (b : List Byte) := exec (.run tag slot) s = .next (State.settle (u.reply 0x30 tag r b))
     let free := ∀ a ∈ claim, (u.ax a).owner = .none
     let sound := ∀ a ∈ claim, (u.ax a).motion ≠ .fault
     let valid := d.length ≠ 0 ∧ u.validate d = none
     (d.length = 0 → answers .badArg []) ∧
     (∀ i c, d.length ≠ 0 → u.validate d = some (i, c) → answers .badPlan [BitVec.ofNat 8 i, BitVec.ofNat 8 c.code]) ∧
     (valid → u.inhibit = true → answers .inhibited []) ∧
     (valid → u.inhibit = false → ¬ free → answers .claimed []) ∧
     (valid → u.inhibit = false → free → ¬ sound → answers .faultPending []) ∧
     (valid → u.inhibit = false → free → sound → (∀ r, u.run r ≠ none) → answers .noRunner []) ∧
     (∀ a, a ∈ claim ↔ ∃ i e, i < d.length ∧ u.slotEntry d i = some e ∧ (e.axis = a ∨ u.partner e.axis = some a)) ∧
     (∀ r, valid → u.inhibit = false → free → sound → u.run r = none → (∀ q, q < r → u.run q ≠ none) →
       let marks := u.marks &&& ~~~d.clearMarks
       let opens (g : Gate) : Bool := match g with
         | .mark m => marks.getLsbD m.val
         | .whenGe a p => (match (u.ax a).pos with
           | some q => decide (p ≤ q)
           | none => false)
         | .whenLe a p => (match (u.ax a).pos with
           | some q => decide (q ≤ p)
           | none => false)
         | .after _ _ => false
       let judged (i : Nat) : RunMove := match u.slotEntry d i with
         | some e => ⟨if e.gates.all opens then .ready else .pending,
             e.gates.map (fun g => if opens g then .opened else .closed)⟩
         | none => ⟨.ready, []⟩
       let run : Run :=
         { state := .running, slot := n, claim := claim, reasons := ⟨false, false, false, false, false⟩, firstFault := none,
           planError := none, endKind := none, elapsed := 0, timeout := d.timeout,
           moves := (List.range d.length).map judged }
       let v : State := { u.modAll claim (fun x => { x with owner := .runner r }) with
         marks := marks, runners := u.runners.set r (some run),
         power := { u.power with dwell := none, state := if u.power.state = .doze then .active else u.power.state } }
       exec (.run tag slot) s = .next (State.settle (v.reply 0x30 tag .ok [BitVec.ofNat 8 r.val])) ∧
       (∀ q, q ≠ r → v.run q = u.run q) ∧
       (∀ a, a ∈ claim → v.ax a = { u.ax a with owner := .runner r }) ∧ (∀ a, a ∉ claim → v.ax a = u.ax a))) ∧
  (∀ (s : State) (r : RunnerNo) (run : Run) (i : Nat) (e : PlanEntry), s.run r = some run →
    let as := s.members e.axis
    let creep (t : State) : State := if ∀ a ∈ as, (t.ax a).ref = .valid then t else
      t.modAll as (fun x => { x with move := x.move.map (fun m => { m with forcedCreep := true }) })
    let answers (t : State) := s.activate r run i e = t
    let fails (c : PlanCause) := answers (((s.setRun r (some { run with planError := some (i, c) })).pauseFor r
      .planError).passSince s)
    let unreferenced := ∃ a ∈ as, (s.ax a).ref = .unknown
    let resolves (t : Nat) (endFlag : Bool) := match e.target with
      | .endLow => t = 0 ∧ endFlag = true
      | .endHigh => t = s.travel e.axis ∧ endFlag = true
      | .abs p => ¬ unreferenced ∧ p ≤ s.travel e.axis ∧ t = p ∧ endFlag = false
      | .stop k => ¬ unreferenced ∧ (∃ c, (s.ax e.axis).config = some c ∧ c.stops[k] = some t) ∧ endFlag = false
      | .rel d => ¬ unreferenced ∧ (∃ p, (s.ax e.axis).pos = some p ∧ (t : Int) = p + d) ∧ t ≤ s.travel e.axis ∧
          endFlag = false
    (e.target ≠ .endLow → e.target ≠ .endHigh → unreferenced → fails .unreferenced) ∧
    (e.target ≠ .endLow → e.target ≠ .endHigh → ¬ unreferenced → (∀ t f, ¬ resolves t f) → fails .badTarget) ∧
    (∀ t endFlag, resolves t endFlag →
      let profile := s.profile s.store.active e.profile
      let near := endFlag = false ∧ ∀ a ∈ as, ∃ p, (s.ax a).pos = some p ∧ apart t p ≤ profile.tolerance
      let started := (s.setRun r (some { run with
        moves := run.moves.modify i (fun m => { m with state := .active }) })).modAll as (fun x => { x with
          move := some ⟨e.axis, t, endFlag, e.priority, s.store.active, e.profile, profile, false, 0, 0, false⟩ })
      (near → answers (s.completeMove r i .already
        ((e.axis :: (s.partner e.axis).toList).map (fun a => (⟨a, (s.ax a).pos, 0⟩ : FinalPos))))) ∧
      (¬ near → answers ((creep started).startOrBlock as)))) ∧
  (∀ (s : State) (as : List AxisNo),
    let blocked := ∃ a ∈ as, s.ask a (s.wantDirs a) ≠ none
    (blocked → s.startOrBlock as = (s.blockEntry as).passSince s) ∧ (¬ blocked → s.startOrBlock as = s.joinQueue as false)) ∧
  (∀ (s : State) (d : Slot), (s.claimSet d).Pairwise (fun a b => a < b))

/-- At the first judging of a run and at every later one a PENDING move whose gates are all OPEN becomes READY, an OPEN gate
stays OPEN, and no move leaves READY, ACTIVE or DONE (R142, R153, R157). When a gate opens (R142 to R145): an AFTER gate at
the completion of the move it names, at once or TIMING with its whole delay; a WHEN gate where the watched axis has a position
at or beyond its own. The completion of a move (R160): DONE, its set-mark, MOVE_END, the AFTER gates, and the end of a run
whose moves are all DONE; of a HALTING runner the first three alone; that end reports RUN_END, releases the claims and frees
the runner (R161). A set mark and a position change are judged by every runner, 0, 1 and 2 in turn, each of which judges its
own gates alone (log 59). MARK (R149, R150): SET hands a mark that was clear to every runner that judges gates and to the
activation passes that follow; CLEAR clears it and hands nothing on; the reply carries the eight marks as they stand after the
request. The end of a move (R46): its axes come to IDLE without a record, a grant pass follows, and the owner is told: a link
operation takes the outcome as its end unless that is decided, a runner completes the ACTIVE move of the axis. Choices of the
model: log 10, log 48, log 59. -/
def Obligations.GatesAndMarks : Prop :=
  (∀ (s : State) (run : Run) (cond : Gate → Bool) (i : Nat) (m : RunMove), run.moves[i]? = some m →
     ∃ m' : RunMove, (s.judgeMoves run (openIf cond) 0 run.moves)[i]? = some m' ∧
       (m.state ≠ .pending → m' = m) ∧
       (m.state = .pending →
         m'.gates = List.zipWith (openIf cond) (((s.moveEntry run i).map PlanEntry.gates).getD []) m.gates ∧
         (m'.state = .ready ↔ ∀ g ∈ m'.gates, g = .opened) ∧ (m'.state = .ready ∨ m'.state = .pending))) ∧
  ((∀ (cond : Gate → Bool) (g : Gate) (n : Nat), openIf cond g .opened = .opened ∧ openIf cond g (.timing n) = .timing n ∧
     openIf cond g .closed = if cond g then .opened else .closed) ∧
   (∀ (k j d n : Nat) (g : Gate),
     afterDone k (.after j d) .closed = (if j = k then (if d = 0 then .opened else .timing d) else .closed) ∧
     ((∀ j d, g ≠ .after j d) → afterDone k g .closed = .closed) ∧
     afterDone k g .opened = .opened ∧ afterDone k g (.timing n) = .timing n) ∧
   (∀ (a b : AxisNo) (p : Nat) (pos : Option Nat),
     (whenHolds a pos (.whenGe b p) = true ↔ b = a ∧ ∃ q, pos = some q ∧ p ≤ q) ∧
     (whenHolds a pos (.whenLe b p) = true ↔ b = a ∧ ∃ q, pos = some q ∧ q ≤ p) ∧
     (∀ g, (∀ c q, g ≠ .whenGe c q) → (∀ c q, g ≠ .whenLe c q) → whenHolds a pos g = false))) ∧
  (∀ (s : State) (r : RunnerNo) (f : Gate → GateState → GateState),
     (s.run r = none → s.judgeRun r f = s) ∧
     (∀ run, s.run r = some run → s.judgeRun r f = if run.state = .halting then s else
       s.setRun r (some { run with moves := s.judgeMoves run f 0 run.moves }))) ∧
  (∀ (s : State) (r : RunnerNo) (run : Run) (i : Nat) (o : MoveOutcome) (fins : List FinalPos), s.run r = some run →
     let done := s.setRun r (some { run with moves := run.moves.modify i (fun m => { m with state := .done o }) })
     let marked := match (s.moveEntry run i).bind PlanEntry.setMark with
       | none => done
       | some m => done.setMark m
     let told := marked.report (.moveEnd r run.slot i o fins run.elapsed)
     let judged := told.judgeRun r (afterDone i)
     (run.state = .halting → s.completeMove r i o fins = told) ∧
     (run.state ≠ .halting → ∀ now, judged.run r = some now →
       ((∀ m ∈ now.moves, ∃ e, m.state = .done e) → s.completeMove r i o fins = judged.endRun r .complete) ∧
       ((∃ m ∈ now.moves, ∀ e, m.state ≠ .done e) → s.completeMove r i o fins = judged))) ∧
  (∀ (s : State) (m : MarkNo), s.setMark m = if s.marks.getLsbD m.val then s else
     ({ s with marks := s.marks ||| BitVec.ofNat 8 (1 <<< m.val) } : State).judgeAll (openIf (fun g => match g with
       | .mark k => decide (k = m)
       | .after _ _ | .whenGe _ _ | .whenLe _ _ => false))) ∧
  (∀ (tag mark action : Byte) (s : State) (m : MarkNo), Listens s → mark.toNat = m.val →
     let u := s.frameHeard
     let one : BitVec 8 := BitVec.ofNat 8 (1 <<< m.val)
     (action = 1 → exec (.mark tag mark action) s = .next (State.settle
       (State.reply { u with marks := u.marks &&& ~~~one } 0x34 tag .ok [u.marks &&& ~~~one]))) ∧
     (action = 0 → u.marks.getLsbD m.val = true →
       exec (.mark tag mark action) s = .next (State.settle (u.engine.reply 0x34 tag .ok [u.engine.marks]))) ∧
     (action = 0 → u.marks.getLsbD m.val = false →
       let v := State.engine (({ u with marks := u.marks ||| one } : State).judgeAll
         (openIf (fun g => match g with
           | .mark k => decide (k = m)
           | .after _ _ | .whenGe _ _ | .whenLe _ _ => false)))
       exec (.mark tag mark action) s = .next (State.settle (v.reply 0x34 tag .ok [v.marks]))) ∧
     (2 ≤ action.toNat → exec (.mark tag mark action) s = .next (State.settle (u.reply 0x34 tag .badArg [])))) ∧
  (∀ (s : State) (run : Run) (a : AxisNo) (i : Nat),
     let active (i : Nat) := ∃ m e, run.moves[i]? = some m ∧ m.state = .active ∧ s.moveEntry run i = some e ∧
       a ∈ s.members e.axis
     (s.activeOn run a = some i ↔ active i ∧ ∀ j, j < i → ¬ active j)) ∧
  (∀ (s : State) (a : AxisNo) (o : MoveOutcome) (fins : List FinalPos),
     ((s.ax a).owner = .none → s.tellOutcome a o fins = s) ∧
     (∀ op, (s.ax a).owner = .link op → s.tellOutcome a o fins = s.modAll (s.members a) (fun x => match x.owner with
       | .link p => if p.result = none then { x with owner := .link { p with result := some (o, none), window := none } } else x
       | .none | .runner _ => x)) ∧
     (∀ r, (s.ax a).owner = .runner r →
       (s.run r = none → s.tellOutcome a o fins = s) ∧
       (∀ run, s.run r = some run →
         (s.activeOn run a = none → s.tellOutcome a o fins = s) ∧
         (∀ i, s.activeOn run a = some i → s.tellOutcome a o fins = s.completeMove r i o fins)))) ∧
  (∀ (s : State) (a : AxisNo) (rest : List AxisNo) (o : MoveOutcome),
     let named := match (s.ax a).owner, (s.ax a).move with
       | .link op, _ => op.named
       | _, some m => m.named
       | _, none => a
     let final (b : AxisNo) : FinalPos := ⟨b, (s.ax b).pos, match (s.ax b).move with
       | some m => m.corrections
       | none => 0⟩
     s.finish (a :: rest) o = ((s.modAll (a :: rest) (Axis.toIdle false)).passSince s).tellOutcome a o
       ((named :: (s.partner named).toList).map final)) ∧
  (∀ (s : State) (f : Gate → GateState → GateState),
     s.judgeAll f = ((s.judgeRun 0 f).judgeRun 1 f).judgeRun 2 f ∧
     (∀ r, (s.judgeAll f).run r = (s.judgeRun r f).run r)) ∧
  (∀ (s : State) (r : RunnerNo) (kind : EndKind),
     (s.run r = none → s.endRun r kind = s) ∧
     (∀ run, s.run r = some run → s.endRun r kind =
       ((s.report (.runEnd r run.slot kind run.elapsed run.doneCount run.moves.length run.firstFault)).modAll run.claim
         (fun x => { x with owner := .none, escalated := false })).setRun r none)) ∧
  (∀ (s : State) (run : Run) (i : Nat) (a : AxisNo),
     run.doneCount = run.moves.countP (fun m => match m.state with
       | .done _ => true
       | .pending | .ready | .active => false) ∧
     (∀ k : Fin 64, k.val = (s.slots[run.slot]).start + i → s.moveEntry run i = s.places[k]) ∧
     (s.moveOn run i a = true ↔ ∃ e, s.moveEntry run i = some e ∧ a ∈ s.members e.axis))

/-- PAUSE, RESUME and HALT (R164, R166 to R168), by the runner's state; a refused one changes nothing. The activation passes
that RESUME and the other events of R158 make due: of a RUNNING runner each takes the lowest-indexed move that is READY, with
no ACTIVE move of the run on its axes, or suspended, with its axes IDLE and not locked out (R158, R159, R167); a READY move is
activated, a suspended one restarts with its record (R24): DONE within the tolerance, else BLOCKED or the grant queue. Choices
of the model: log 9, log 10, log 11, log 25, log 45, log 62. -/
def Obligations.PauseResumeHaltActOnTheRunner : Prop :=
  (∀ (tag n : Byte) (s : State) (r : RunnerNo), Listens s → n.toNat = r.val →
     let u := s.frameHeard
     let answers (c : Instr) (k : Byte) (e : Result) := exec c s = .next (State.settle (u.reply k tag e []))
     (u.run r = none → answers (.pause tag n) 0x31 .badState ∧ answers (.resume tag n) 0x32 .badState ∧
       answers (.halt tag n) 0x33 .badState) ∧
     (∀ run, u.run r = some run →
       let asked : Run := { run with reasons := { run.reasons with host := true } }
       let halting : Run := { run with state := .halting, endKind := some .aborted }
       let faulted := ∃ a ∈ run.claim, (u.ax a).motion = .fault
       (run.state = .running → exec (.pause tag n) s = .next (State.settle
         ((((u.setRun r (some { asked with state := .pausing })).stopAll (u.busyAxes run) .pause).passSince u).reply
           0x31 tag .ok []))) ∧
       (run.state = .pausing → exec (.pause tag n) s = .next (State.settle
         ((u.setRun r (some asked)).reply 0x31 tag .ok []))) ∧
       (run.state = .paused → run.reasons.host = true → exec (.pause tag n) s = .next (State.settle
         (u.reply 0x31 tag .ok []))) ∧
       (run.state = .paused → run.reasons.host = false → exec (.pause tag n) s = .next (State.settle
         (((u.setRun r (some asked)).report (.runPaused r run.slot asked.reasons run.firstFault run.planError run.doneCount
           run.elapsed)).reply 0x31 tag .ok []))) ∧
       (run.state = .halting → answers (.pause tag n) 0x31 .badState) ∧
       (run.state ≠ .paused → answers (.resume tag n) 0x32 .badState) ∧
       (run.state = .paused → u.inhibit = true → answers (.resume tag n) 0x32 .inhibited) ∧
       (run.state = .paused → u.inhibit = false → faulted → answers (.resume tag n) 0x32 .faultPending) ∧
       (∀ i c, run.state = .paused → u.inhibit = false → ¬ faulted → run.reasons.planError = true →
         run.planError = some (i, c) → exec (.resume tag n) s = .next (State.settle
           (u.reply 0x32 tag .badPlan [BitVec.ofNat 8 i, BitVec.ofNat 8 c.code]))) ∧
       (run.state = .paused → u.inhibit = false → ¬ faulted → run.reasons.planError = false →
         exec (.resume tag n) s = .next (State.settle ((u.setRun r (some { run with
           state := .running, reasons := ⟨false, false, false, false, false⟩, firstFault := none })).notIdle.reply
             0x32 tag .ok []))) ∧
       (run.state ≠ .halting → exec (.halt tag n) s = .next (State.settle
         (((((u.setRun r (some halting)).stopAll run.claim .halt).passSince u).notIdle).reply 0x33 tag .ok []))) ∧
       (run.state = .halting → answers (.halt tag n) 0x33 .ok))) ∧
  (∀ (n : Nat) (s : State),
    s.engine = State.passes 128 s ∧ State.passes 0 s = s ∧ (s.nextMove = none → State.passes (n + 1) s = s) ∧
    (∀ r run i, s.nextMove = some (r, run, i) → State.passes (n + 1) s = State.passes n (s.takeUp r run i))) ∧
  (∀ (s : State) (r : RunnerNo) (run : Run) (i : Nat),
    let up (run : Run) (i : Nat) := ∃ e m, s.moveEntry run i = some e ∧ run.moves[i]? = some m ∧
      (∀ a ∈ s.members e.axis, (s.ax a).motion = .idle ∧ (s.ax a).lockout = false) ∧
      (m.state = .active ∨ m.state = .ready ∧ ∀ a ∈ s.members e.axis, ∀ j n f, run.moves[j]? = some n → n.state = .active →
        s.moveEntry run j = some f → a ∉ s.members f.axis)
    s.nextMove = some (r, run, i) ↔ s.run r = some run ∧ run.state = .running ∧ up run i ∧ (∀ j, j < i → ¬ up run j) ∧
      ∀ q other, q < r → s.run q = some other → other.state = .running → ∀ j, ¬ up other j) ∧
  (∀ (s : State) (r : RunnerNo) (run : Run) (i : Nat) (e : PlanEntry) (m : RunMove), s.moveEntry run i = some e →
    run.moves[i]? = some m →
    let as := s.members e.axis
    let creep (t : State) : State := if ∀ a ∈ as, (t.ax a).ref = .valid then t else
      t.modAll as (fun x => { x with move := x.move.map (fun m => { m with forcedCreep := true }) })
    let there := ∀ a ∈ as, ∃ v p, ((creep s).ax a).move = some v ∧ ((creep s).ax a).pos = some p ∧ v.endFlag = false ∧
      ((creep s).ax a).homing = false ∧ apart v.target p ≤ v.profile.tolerance
    (m.state ≠ .active → s.takeUp r run i = s.activate r run i e) ∧
    (m.state = .active → there → s.takeUp r run i = (creep s).finish as .done) ∧
    (m.state = .active → ¬ there → s.takeUp r run i = (creep s).startOrBlock as)) ∧
  (∀ (s : State) (run : Run), s.busyAxes run = run.claim.filter (fun a => (s.activeOn run a).isSome))

/-! ### The supply monitor -/

/-- The band filter and the thermal filter (R102, R103): which samples count, the counts they add to and clear, a fall at the
fourth consecutive sample, to HOLD (HOT) where all four lay beyond the second threshold, a rise by one step at the twentieth,
both counts cleared at every change, and the factor of each band and thermal state. SUPPLY_SAMPLE (R101, R104, R116): a pair
of samples moves the band filter, then the thermal filter; a change of either computes the available budget afresh and is
reported, but in INIT, after the grant pass of a rise or of a revocation (log 37); in SLEEP nothing is sampled. Choices of the
model: log 10, log 37, log 57, log 66. -/
def Obligations.SupplySamplesMoveTheFilters : Prop :=
  (∀ (m : Supply) (mv : Nat) (t : Int),
     let deep := decide (mv < 9000) && (m.fallDeep || m.falling == 0)
     let hot := decide (1500 ≤ t) && (m.heatDeep || m.heating == 0)
     let falls := m.band = .normal ∧ mv < 11000 ∨ m.band = .reduced ∧ mv < 9000
     let rises := m.band = .reduced ∧ 11400 ≤ mv ∨ m.band = .hold ∧ 9400 ≤ mv
     let heats := m.thermal = .cool ∧ 1250 ≤ t ∨ m.thermal = .warm ∧ 1500 ≤ t
     let cools := m.thermal = .warm ∧ t < 1150 ∨ m.thermal = .hot ∧ t < 1300
     (¬ falls → ¬ rises → bandSample m mv = { m with falling := 0, rising := 0, fallDeep := false }) ∧
     (falls → m.falling < 3 → bandSample m mv = { m with falling := m.falling + 1, rising := 0, fallDeep := deep }) ∧
     (falls → 3 ≤ m.falling → bandSample m mv =
       { m with band := if m.band = .normal ∧ ¬ deep then .reduced else .hold, falling := 0, rising := 0,
                fallDeep := false }) ∧
     (rises → m.rising < 19 → bandSample m mv = { m with rising := m.rising + 1, falling := 0, fallDeep := false }) ∧
     (rises → 19 ≤ m.rising → bandSample m mv =
       { m with band := if m.band = .hold then .reduced else .normal, falling := 0, rising := 0, fallDeep := false }) ∧
     (¬ heats → ¬ cools → thermalSample m t = { m with heating := 0, cooling := 0, heatDeep := false }) ∧
     (heats → m.heating < 3 → thermalSample m t = { m with heating := m.heating + 1, cooling := 0, heatDeep := hot }) ∧
     (heats → 3 ≤ m.heating → thermalSample m t =
       { m with thermal := if m.thermal = .cool ∧ ¬ hot then .warm else .hot, heating := 0, cooling := 0,
                heatDeep := false }) ∧
     (cools → m.cooling < 19 → thermalSample m t = { m with cooling := m.cooling + 1, heating := 0, heatDeep := false }) ∧
     (cools → 19 ≤ m.cooling → thermalSample m t =
       { m with thermal := if m.thermal = .hot then .warm else .cool, heating := 0, cooling := 0, heatDeep := false })) ∧
  (∀ (mv : Nat) (t : Int) (s : State), s.power.inReset = false →
     let told (c : SupplyCause) (v : State) := if s.power.state = .init then v else v.supplyReport c
     let m := bandSample s.supply mv
     let u : State := { s with supply := m }
     let u := if m.band = s.supply.band then u else told .band u.recompute
     let k := thermalSample u.supply t
     let v : State := { u with supply := k }
     let v := if k.thermal = u.supply.thermal then v else told .thermal v.recompute
     (s.power.state = .sleep → exec (.supplySample mv t) s = .next s) ∧
     (s.power.state ≠ .sleep → exec (.supplySample mv t) s = .next v.settle)) ∧
  (∀ s : State, s.recompute.supply.avail = if s.supply.handshake = .quiet then s.supply.base * ((match s.supply.band with
      | .normal => 100
      | .reduced => 50
      | .hold => 0) * (match s.supply.thermal with
      | .cool => 100
      | .warm => 50
      | .hot => 0)) / 10000 else 0) ∧
  (∀ (base : Nat) (band : Band) (thermal : Thermal) (h : Handshake), availOf base band thermal h =
    if h = .quiet then base * ((match band with
      | .normal => 100
      | .reduced => 50
      | .hold => 0) * (match thermal with
      | .cool => 100
      | .warm => 50
      | .hot => 0)) / 10000 else 0) ∧
  (∀ (s : State) (c : SupplyCause), s.supplyReport c = s.report (.supply c s.supply.band s.supply.thermal s.supply.handshake
    s.supply.shareReq s.supply.shareAck s.supply.avail s.inUse))

/-- BUDGET_SET (R104, R105): a value outside 5.0–60.0 A is refused BAD_ARG; else the base budget is replaced, the available
budget computed afresh, a rise makes a grant pass and a value that is no rise and lies below the budget in use revokes, with
the grant pass that follows (R91, R107), before the reply, which carries the new available budget. No SUPPLY report is sent.
Choices of the model: log 10, log 11, log 57. -/
def Obligations.BudgetSetReplacesTheBase : Prop :=
  ∀ (tag : Byte) (n : Half) (s : State),
    let u := s.frameHeard
    let m := u.supply
    let factor := (match m.band with
      | .normal => 100
      | .reduced => 50
      | .hold => 0) * (match m.thermal with
      | .cool => 100
      | .warm => 50
      | .hot => 0)
    let avail := if m.handshake = .quiet then n.toNat * factor / 10000 else 0
    let v : State := { u with supply := { m with base := n.toNat, avail := avail } }
    let w := if m.avail < avail then v.grantPass
      else if avail < v.inUse then (revokeLoop 12 v).passSince v else v
    (Resets s → exec (.budgetSet tag n) s = .next (State.settle (u.reply 0x38 tag .busy []))) ∧
    (Listens s → n.toNat < 50 ∨ 600 < n.toNat →
      exec (.budgetSet tag n) s = .next (State.settle (u.reply 0x38 tag .badArg []))) ∧
    (Listens s → 50 ≤ n.toNat → n.toNat ≤ 600 →
      exec (.budgetSet tag n) s = .next (State.settle (w.reply 0x38 tag .ok (b2 avail))))

/-- Revocation ends with the budget in use at or below the available budget, or with no revocable grant left (R107). The
budget in use is the sum of the draws of the axes that are charged, by their motion states and destinations (R90), a revoked
stop no longer (R106), and the revocable grants are those of R108. A revocation takes the grant of the lowest priority, and
within one priority the most recent, with its gang as one, and takes no more once the budget in use is at or below the
available budget (R106, R107); in RESETTING there is none (R108). Choices of the model: log 11, log 48. -/
def Obligations.RevocationReachesTheBudget : Prop :=
  (∀ s : State, (revokeLoop 12 s).inUse ≤ s.supply.avail ∨ ∀ a, ((revokeLoop 12 s).ax a).revocable = false) ∧
  (∀ x : Axis,
    let stops (dests : Stop → Prop) := x.motion = .stopping ∧ ∃ st, x.stop = some st ∧ dests st
    (x.charged = true ↔ x.motion = .driving ∨ x.motion = .backoff ∨ x.motion = .checking ∨
      (x.motion = .engaging ∧ x.stop = none) ∨
      stops (fun st => ((∃ k, st.dest = .completion k) ∨ st.dest = .reversal) ∧ st.revoked = false ∨ st.dest = .checkDone)) ∧
    (x.revocable = true ↔ x.motion = .driving ∨ (x.motion = .engaging ∧ x.stop = none) ∨
      stops (fun st => ((∃ k, st.dest = .completion k) ∨ st.dest = .reversal) ∧ st.revoked = false))) ∧
  (∀ s : State, s.inUse = (allAxes.map (fun a => if (s.ax a).charged = true then (match (s.ax a).config with
    | some c => c.draw
    | none => 0) else 0)).sum) ∧
  (∀ s : State,
    let priority (a : AxisNo) := match (s.ax a).check, (s.ax a).move with
      | none, some m => m.priority
      | _, _ => 1
    let before (a b : AxisNo) := priority a < priority b ∨
      (priority a = priority b ∧ (s.ax b).grantStamp < (s.ax a).grantStamp)
    (s.nextRevoked = none ↔ ∀ a, (s.ax a).revocable = false) ∧
    (∀ a, s.nextRevoked = some a →
      (s.ax a).revocable = true ∧ ∀ b, (s.ax b).revocable = true → ¬ before b a ∧ (¬ before a b → a ≤ b))) ∧
  (∀ (n : Nat) (s : State),
    (s.inUse ≤ s.supply.avail → revokeLoop n s = s) ∧
    (s.nextRevoked = none → revokeLoop n s = s) ∧
    (∀ a, s.supply.avail < s.inUse → s.nextRevoked = some a →
      revokeLoop (n + 1) s = revokeLoop n (s.stopAll (s.members a) .revoke))) ∧
  (∀ s : State, s.revoke = if s.power.state = .resetting then s else (revokeLoop 12 s).passSince s)


/-- The share handshake (R113 to R115): a request makes the available budget 0 and revokes, also where it was 0 before, and is
YIELDED at once where nothing moves, else DRAINING; a release returns to QUIET; each sends a SUPPLY report; in INIT and SLEEP
the handshake follows the level without one; a level already taken changes nothing; SHARE_YIELD yields where nothing moves
while DRAINING, and every settling does at that moment (log 10). Choices of the model: log 10, log 14, log 18, log 37, log 57.
-/
def Obligations.ShareHandshakeFollowsTheRequest : Prop :=
  (∀ (level : Bool) (s : State), s.power.inReset = false →
    let u := State.revoke { s with supply := { s.supply with shareReq := true, handshake := .draining, avail := 0 } }
    let still (t : State) := ∀ a, (t.ax a).motion.moving = false
    let yielded (t : State) : State := { t with supply := { t.supply with handshake := .yielded, shareAck := true } }
    (level = s.supply.shareReq → exec (.shareReqChange level) s = .next s) ∧
    (level = true → s.supply.shareReq = false → s.power.state.runs = true →
      u.supply.avail = 0 ∧
      (still u → exec (.shareReqChange level) s = .next (State.settle ((yielded u).supplyReport .share))) ∧
      (¬ still u → exec (.shareReqChange level) s = .next (State.settle (u.supplyReport .share)))) ∧
    (level = false → s.supply.shareReq = true → s.power.state.runs = true →
      exec (.shareReqChange level) s = .next (State.settle ((State.recompute
        { s with supply := { s.supply with shareReq := false, handshake := .quiet, shareAck := false } }).supplyReport
          .share))) ∧
    (level ≠ s.supply.shareReq → s.power.state.runs = false →
      exec (.shareReqChange level) s = .next (State.settle { s with supply := { s.supply with
        shareReq := level, handshake := if level then .yielded else .quiet, shareAck := level,
        avail := if level then 0 else availOf s.supply.base s.supply.band s.supply.thermal .quiet } })) ∧
    (s.supply.handshake = .draining → s.power.state.runs = true → still s →
      exec .shareYield s = .next (State.settle (State.supplyReport { s with supply := { s.supply with
        handshake := .yielded, shareAck := true, avail := 0 } } .share))) ∧
    (s.supply.handshake ≠ .draining ∨ s.power.state.runs = false ∨ ¬ still s → exec .shareYield s = .next s.settle)) ∧
  (∀ m : Motion, m.moving = true ↔ m = .engaging ∨ m = .driving ∨ m = .stopping ∨ m = .backoff ∨ m = .checking) ∧
  (∀ s : State,
    let due := s.supply.handshake = .draining ∧ s.power.state.runs = true ∧ ∀ a, (s.ax a).motion.moving = false
    (due → s.yieldShare = State.supplyReport { s with supply := { s.supply with
      handshake := .yielded, shareAck := true, avail := 0 } } .share) ∧
    (¬ due → s.yieldShare = s))

/-! ### Power states -/

/-- RESET, its sequence and its completion (R172, R182, R201, R202): every runner HALTING with end kind RESET, the queue
empty, no move record, no link operation, every driven axis stopping toward IDLE, an axis in ENGAGING or STOPPING bound for
IDLE unless for FAULT, a winding test after its pulses by a quick stop (R69), a backoff cut short; the supply, the marks, the
plans, the entries, the link but for its supervision window, and of every axis the position, reference and heat, as they were;
RESETTING_COMPLETE when nothing moves completes the reset (R202) and leaves configuration, reference, position, lash and heat,
clears faults, and returns the other blocks to their soft-reset values: a channel is RETIRED where it was or is TRIPPED at its
third trip, and FREE otherwise, with its trip count (R98, R99); band, thermal state and their counters are kept, the base
budget is 20.0 A, and the handshake is YIELDED or QUIET by the level of SHARE_REQ as taken, the available budget following it
(R104, R115, R117); the age stamps and the grant counter restart, at the number 0 (log 3). Choices of the model: log 3,
log 10, log 15, log 18, log 51. -/
def Obligations.SoftResetRunsToItsEnd : Prop :=
  (∀ (tag : Byte) (s : State), Listens s → ∃ v : State,
    exec (.reset tag) s = .next (State.settle (v.reply 0x04 tag .ok [])) ∧
    v.power = { s.power with state := .resetting, dwell := none } ∧ v.queue = [] ∧
    (∀ r, v.run r = (s.run r).map (fun run => { run with state := .halting, endKind := some .reset })) ∧
    (∀ a, Measured (s.ax a) (v.ax a) ∧ (v.ax a).ref = (s.ax a).ref ∧ (v.ax a).move = none ∧
      (v.ax a).owner = (match (s.ax a).owner with
        | .link _ => .none
        | .runner r => .runner r
        | .none => .none) ∧
      ((s.ax a).motion = .driving ∨ (s.ax a).motion = .checking → (v.ax a).motion = .stopping ∧
        (v.ax a).stop.map Stop.dest = some (.idle false) ∧ (v.ax a).stop.map Stop.mode = some .quick) ∧
      ((s.ax a).motion = .queued ∨ (s.ax a).motion = .blocked → (v.ax a).motion = .idle ∧ (v.ax a).link = none) ∧
      (let x := s.ax a
       let y := v.ax a
       let reset (st : Stop) : Stop := if st.dest = .fault then st
         else if st.dest = .checkDone then { st with dest := .idle false, mode := .quick }
         else { st with dest := .idle false }
       (∀ st, x.motion = .stopping ∨ x.motion = .engaging → x.stop = some st → y.motion = x.motion ∧ y.stop = some (reset st)) ∧
       (x.motion = .engaging → x.stop = none → y.motion = .engaging ∧
         y.stop = some ⟨.idle false, .coast, 0, false, 0, false, false⟩) ∧
       (∀ k, x.motion = .backoff → x.backoff = some k → y.motion = .stopping ∧ y.backoff = none ∧
         y.stop = some ⟨if x.fault = none then .idle false else .fault, .quick, 0, false, 0, false, k.rest⟩) ∧
       (x.motion = .idle ∨ x.motion = .fault → y.motion = x.motion) ∧
       y.fault = (if x.motion = .backoff then x.fault.map (fun f =>
         if f.kind = .obstruction then { f with backoff := .cutShort } else f) else x.fault))) ∧
    v.link = s.frameHeard.link ∧ v.supply = s.supply ∧ v.marks = s.marks ∧ v.inhibit = s.inhibit ∧
    v.store = s.store ∧ v.entries = s.entries ∧ v.places = s.places ∧ v.slots = s.slots ∧ v.chans = s.chans) ∧
  (∀ s : State, s.power.inReset = false → s.power.state = .resetting → (∀ a, (s.ax a).motion.moving = false) →
    ∃ v : State, exec .resettingComplete s = .next v.settle ∧
      v.power.state = .active ∧ v.store = Store.reset ∧ v.queue = [] ∧ (∀ n : EntryNo, v.entries[n] = none) ∧
      (∀ i : Fin 64, v.places[i] = none) ∧ (∀ k : SlotNo, v.slots[k].length = 0) ∧ v.marks = 0 ∧
      (∀ r, v.run r = none) ∧ v.supply.base = 200 ∧ v.link.setup = ⟨500, 200, 8, 20⟩ ∧
      v.link.reports = [.wake .softReset 0 none, .supply .wake v.supply.band v.supply.thermal v.supply.handshake
        v.supply.shareReq v.supply.shareAck v.supply.avail v.inUse] ∧
      v.link.overflow = false ∧ v.link.slot = s.link.slot ∧ v.link.intake = s.link.intake ∧ v.inhibit = s.inhibit ∧
      (∀ a, Measured (s.ax a) (v.ax a) ∧ (v.ax a).ref = (s.ax a).ref ∧ (v.ax a).motion = .idle ∧ (v.ax a).fault = none ∧
        (v.ax a).owner = .none ∧ (v.ax a).move = none ∧ (v.ax a).escalated = false ∧ (v.ax a).episode = (s.ax a).episode ∧
        (v.ax a).stop = none ∧ (v.ax a).backoff = none ∧ (v.ax a).check = none ∧ (v.ax a).link = none) ∧
      (∀ c, let k := s.ch c
        ((k.state = .retired ∨ (k.state = .tripped ∧ 3 ≤ k.trips)) → v.ch c = ⟨.retired, none, none, k.trips, none, false⟩) ∧
        (k.state ≠ .retired → k.state ≠ .tripped ∨ k.trips < 3 → v.ch c = ⟨.free, none, none, k.trips, none, false⟩)) ∧
      v.supply = { s.supply with
        base := 200, grantCounter := 0, handshake := if s.supply.shareReq then .yielded else .quiet,
        shareAck := s.supply.shareReq,
        avail := if s.supply.shareReq then 0 else availOf 200 s.supply.band s.supply.thermal .quiet } ∧
      v.inUse = 0 ∧ v.stamps = 0 ∧ v.link.cadence = none ∧ v.link.supervision = .off ∧ v.link.rx = s.link.rx ∧
      v.link.tx = s.link.tx ∧ v.power = { s.power with
        state := .active, dwell := none, sleepOpts := none, wakeCause := none }) ∧
  (∀ s : State, s.power.inReset = false → s.power.state ≠ .resetting ∨ (∃ a, (s.ax a).motion.moving = true) →
    exec .resettingComplete s = .next s.settle) ∧
  (∀ s : State, s.power.inReset = false → exec .resettingComplete s = .next s.completeReset.settle) ∧
  (∀ s : State, s.power.state ≠ .resetting ∨ (∃ a, (s.ax a).motion.moving = true) → s.completeReset = s)

/-- POWER and the entry to SLEEP (R115, R177, R197): the checks in their order; a taken POWER records the options, and
the end of the transmission of its reply is the entry to SLEEP, which keeps every axis, plan, profile and entry. There a
channel is RETIRED where it was or is TRIPPED at its third trip, and FREE otherwise, with its trip count (R98, R99), and the
handshake is YIELDED with SHARE_ACK asserted while SHARE_REQ as taken is asserted, else QUIET with it released, the available
budget following it (R104, R115). Choices of the model: log 10, log 20. -/
def Obligations.PowerTakesThePartToSleep : Prop :=
  (∀ (tag mode w h q : Byte) (s : State), Listens s →
    let u := s.frameHeard
    let good := mode = 0 ∧ w.toNat ≤ 1 ∧ h.toNat ≤ 1 ∧ q.toNat ≤ 1 ∧ ¬ (h = 1 ∧ w = 0)
    let quiet := (∀ r, u.run r = none) ∧ ∀ a, (u.ax a).motion = .idle ∨ (u.ax a).motion = .fault
    (¬ good → exec (.power tag mode w h q) s = .next (State.settle (u.reply 0x3A tag .badArg []))) ∧
    (good → ¬ quiet → exec (.power tag mode w h q) s = .next (State.settle (u.reply 0x3A tag .busy []))) ∧
    (good → quiet → exec (.power tag mode w h q) s = .next (State.settle
      (State.reply { u with power := { u.power with sleepOpts := some ⟨w = 1, h = 1, q = 1⟩ } } 0x3A tag .ok [])))) ∧
  (∀ (s : State) (o : SleepOpts) (f : TxFrame), s.power.inReset = false → s.power.sleepOpts = some o →
    s.link.tx = some f → f.sleepReply = true →
    exec .transmitEnd s = .next (State.settle (State.enterSleep { s with link := { s.link with tx := none } }))) ∧
  (∀ (s : State) (o : SleepOpts), s.power.inReset = false → s.power.sleepOpts = some o → Awake s → s.link.slot = none →
    s.link.tx = none → exec .sleepEntry s = .next s.enterSleep.settle) ∧
  (∀ s : State, s.power.inReset = false → s.power.sleepOpts = none → exec .sleepEntry s = .next s.settle) ∧
  (∀ s : State,
    s.enterSleep.axes = s.axes ∧ s.enterSleep.store = s.store ∧ s.enterSleep.entries = s.entries ∧
    s.enterSleep.places = s.places ∧ s.enterSleep.slots = s.slots ∧ s.enterSleep.marks = s.marks ∧
    s.enterSleep.link = { s.link with rx := .hunt, intake := [], slot := none, tx := none } ∧
    s.enterSleep.power = { s.power with
      state := .sleep, stage := .off, dwell := none, sleepTime := 0, sleepTicks := 0,
      wakeCause := if s.wakeLine then some .line else none } ∧
    s.enterSleep.supply = { s.supply with
      handshake := if s.supply.shareReq then .yielded else .quiet, shareAck := s.supply.shareReq,
      avail := if s.supply.shareReq then 0 else availOf s.supply.base s.supply.band s.supply.thermal .quiet } ∧
    (∀ c, let k := s.ch c
      ((k.state = .retired ∨ (k.state = .tripped ∧ 3 ≤ k.trips)) →
        s.enterSleep.ch c = ⟨.retired, none, none, k.trips, none, false⟩) ∧
      (k.state ≠ .retired → k.state ≠ .tripped ∨ k.trips < 3 →
        s.enterSleep.ch c = ⟨.free, none, none, k.trips, none, false⟩)) ∧
    s.enterSleep.queue = s.queue ∧ s.enterSleep.stamps = s.stamps ∧ s.enterSleep.runners = s.runners ∧
    s.enterSleep.inhibit = s.inhibit ∧ s.enterSleep.wakeLine = s.wakeLine)

/-- WAKE_EVENT and WAKE_TIME_END (R199, R200): the first wake event names the cause and later ones change nothing; a hand
count wakes only with watch and wake-on-hand; at the end of the wake time the part is ACTIVE, heat has fallen by 2000 for each
second of sleep, the lockout is judged anew, the counters of the supply filters are 0 with band, thermal state, base budget and
handshake kept (R117), WAKE and SUPPLY have joined the reports, after them a REFERENCE of cause WAKE for each VALID hand-movable
axis of an unwatched sleep, which is SUSPECT (R20), in increasing axis number, and then a HAND_MOVED for each episode that has
rested, which closes (R19). Choices of the model: log 10, log 18, log 50. -/
def Obligations.WakeEndsTheSleep : Prop :=
  (∀ s : State, s.power.inReset = false → s.power.state = .sleep →
    let woken (c : WakeCause) (t : State) : State :=
      if s.power.wakeCause = none then { t with power := { t.power with wakeCause := some c } } else t
    exec (.wakeEvent .rxEdge) s = .next (woken .link s).settle ∧
    exec (.wakeEvent (.line true)) s = .next (woken .line { s with wakeLine := true }).settle ∧
    exec (.wakeEvent (.line false)) s = .next (State.settle { s with wakeLine := false }) ∧
    (∀ o, s.power.sleepOpts = some o → o.watch = true → o.wakeOnHand = true →
      exec (.wakeEvent .hand) s = .next (woken .hand s).settle) ∧
    (∀ o, s.power.sleepOpts = some o → o.watch = false ∨ o.wakeOnHand = false →
      exec (.wakeEvent .hand) s = .next s.settle)) ∧
  (∀ (w : WakeSource) (s : State), s.power.inReset = false → s.power.state ≠ .sleep → (∀ l, w ≠ .line l) →
    exec (.wakeEvent w) s = .next s.settle) ∧
  (∀ (l : Bool) (s : State), s.power.state ≠ .sleep →
    exec (.wakeEvent (.line l)) s = .next (State.settle { s with wakeLine := l })) ∧
  (∀ (s : State) (cause : WakeCause) (o : SleepOpts), s.power.inReset = false → s.power.state = .sleep →
    s.power.wakeCause = some cause → s.power.sleepOpts = some o → ∃ v : State,
      exec .wakeTimeEnd s = .next v.settle ∧
      (let credited (x : Axis) : Axis :=
          let h := x.heat - 2000 * s.power.sleepTime
          { x with heat := h, lockout := match x.config with
            | none => x.lockout
            | some c => x.lockout && !decide (h * 100 ≤ c.heatLimit * 10000 * 60) }
        let m := s.supply
        let begun : State := { s.modAll allAxes credited with
          supply := { m with falling := 0, rising := 0, fallDeep := false, heating := 0, cooling := 0, heatDeep := false,
                             avail := availOf m.base m.band m.thermal m.handshake },
          link := { s.link with rx := .hunt },
          power := { s.power with state := .active, dwell := none, sleepOpts := none, wakeCause := none } }
        let told := (begun.report (.wake cause s.power.sleepTime (some o))).report (.supply .wake m.band m.thermal m.handshake
          m.shareReq m.shareAck (availOf m.base m.band m.thermal m.handshake) begun.inUse)
        let suspected := if o.watch = true then told else allAxes.foldl (fun t a => match (t.ax a).config with
          | some c => if c.handMovable = true then t.suspect a .wake else t
          | none => t) told
        v = allAxes.foldl (fun t a => match (t.ax a).episode with
          | some ⟨n, true⟩ => (t.setAx a { t.ax a with episode := none }).report
            (.handMoved a n (t.ax a).pos (t.ax a).ref)
          | _ => t) suspected) ∧
      v.supply = { s.supply with
        falling := 0, rising := 0, fallDeep := false, heating := 0, cooling := 0, heatDeep := false,
        avail := availOf s.supply.base s.supply.band s.supply.thermal s.supply.handshake } ∧
      (∀ a, (v.ax a).episode = match (s.ax a).episode with
        | some ⟨_, true⟩ => none
        | e => e) ∧
      v.power = { s.power with state := .active, dwell := none, sleepOpts := none, wakeCause := none } ∧
      v.link.rx = .hunt ∧ v.store = s.store ∧ v.entries = s.entries ∧ v.places = s.places ∧ v.slots = s.slots ∧
      v.marks = s.marks ∧ v.chans = s.chans ∧
      (s.link.reports.length ≤ 14 → ∃ rest, v.link.reports = s.link.reports ++
        [.wake cause s.power.sleepTime (some o), .supply .wake v.supply.band v.supply.thermal v.supply.handshake
          v.supply.shareReq v.supply.shareAck v.supply.avail s.inUse] ++ rest) ∧
      (∀ a, (v.ax a).heat = (s.ax a).heat - 2000 * s.power.sleepTime ∧ (v.ax a).config = (s.ax a).config ∧
        (v.ax a).pos = (s.ax a).pos ∧ (v.ax a).fault = (s.ax a).fault ∧
        (∀ c, (s.ax a).config = some c → (v.ax a).lockout =
          ((s.ax a).lockout && !decide (((s.ax a).heat - 2000 * s.power.sleepTime) * 100 ≤ c.heatLimit * 10000 * 60))) ∧
        (∀ c, (s.ax a).config = some c → (s.ax a).ref = .valid →
          (v.ax a).ref = if o.watch = false ∧ c.handMovable = true then .suspect else .valid) ∧
        ((s.ax a).ref ≠ .valid → (v.ax a).ref = (s.ax a).ref))) ∧
  (∀ s : State, s.power.inReset = false → s.power.wakeCause = none → exec .wakeTimeEnd s = .next s.settle)

/-- POWER_ON_RESET, INIT_START and INIT_END (R22, R194): every block takes its power-on values from any state, held in
reset until the supply returns; the end of INIT is ACTIVE with WAKE POWER_ON and SUPPLY WAKE. The queue of commands, the
counter of free values and the level of the WAKE pin are no part of a block (log 3). A part held in reset does nothing:
of all commands only POWER_ON_RESET, INIT_START and the level of the WAKE pin change anything, and of the level the part takes
no more than the level itself; an edge on RX and a hand count change nothing (R194). Choices of the
model: log 3, log 10, log 23. -/
def Obligations.PowerOnResetRestartsThePart : Prop :=
  ((∀ s : State,
     let fresh (held : Bool) : State := { State.reset with
       power := { State.reset.power with inReset := held }, wakeLine := s.wakeLine, freeIndex := s.freeIndex,
       pending := s.pending }
     exec .powerOnReset s = .next (fresh true) ∧
     (s.power.inReset = true → exec .initStart s = .next (fresh false)) ∧
     (s.power.inReset = false → exec .initStart s = .next s)) ∧
   (∀ s : State, s.power.inReset = false → s.power.state = .init →
     let u := State.report { s with power := { s.power with state := .active } } (.wake .powerOn 0 none)
     exec .initEnd s = .next (State.settle (u.report (.supply .wake s.supply.band s.supply.thermal s.supply.handshake
       s.supply.shareReq s.supply.shareAck s.supply.avail s.inUse)))) ∧
   (∀ s : State, s.power.inReset = false → s.power.state ≠ .init → exec .initEnd s = .next s.settle)) ∧
  (∀ (c : Instr) (s : State), s.power.inReset = true → c ≠ .powerOnReset → c ≠ .initStart →
     (∀ l, c ≠ .wakeEvent (.line l)) → exec c s = .next s) ∧
  (∀ (l : Bool) (s : State), s.power.inReset = true → exec (.wakeEvent (.line l)) s = .next { s with wakeLine := l })

/-- IDLE_DWELL_EXPIRY and DRIVE_STAGE_READY (R97, R193, R195): an idle part whose dwell timer expires enters DOZE with the
drive stage off and escalation cleared on every axis, and nothing else; a waking stage becomes READY and a grant pass walks
the whole queue. A timer or a stage that is not running does nothing. What ends idleness stops the dwell timer, and takes the
part from DOZE to ACTIVE (R196). Choices of the model: log 4, log 10, log 18, log 22. -/
def Obligations.DozeAndTheDriveStage : Prop :=
  (∀ s : State, s.power.inReset = false →
    let asleep := s.power.state = .active ∧ s.power.dwell ≠ none ∧ s.idle = true
    (asleep → exec .idleDwellExpiry s = .next (State.settle
      { s.modAll allAxes (fun x => { x with escalated := false }) with
        power := { s.power with state := .doze, stage := .off, dwell := none } })) ∧
    (¬ asleep → exec .idleDwellExpiry s = .next s.settle) ∧
    (s.power.stage = .waking → s.power.state ≠ .resetting → exec .driveStageReady s =
      .next (State.settle (State.grantPass { s with power := { s.power with stage := .ready } }))) ∧
    (s.power.stage ≠ .waking ∨ s.power.state = .resetting → exec .driveStageReady s = .next s.settle)) ∧
  (∀ s : State, s.idle = true ↔
    (∀ a, (s.ax a).motion = .idle ∨ (s.ax a).motion = .fault) ∧ (∀ r run, s.run r = some run → run.state = .paused) ∧
    s.queue = [] ∧ (∀ a op, (s.ax a).owner = .link op → op.window = none)) ∧
  (∀ s : State,
    s.notIdle = { s with power := { s.power with
      dwell := none, state := if s.power.state = .doze then .active else s.power.state } } ∧
    s.enterDoze = { s.modAll allAxes (fun x => { x with escalated := false }) with
      power := { s.power with state := .doze, stage := .off, dwell := none } })

/-! ### Events of the Seat Link -/

/-- TRANSMIT_END (R178, R181, R197): the frame on the line is gone, the reply in the slot goes out before the oldest report,
and the oldest waiting request is taken as the slot empties. Once a POWER has been taken, no request is: its reply, where it
waits behind a report, goes out next, and the end of it alone is the entry to SLEEP. CADENCE_EXPIRY (R184): one POSITIONS
report of the axes in DRIVING, STOPPING and BACKOFF in increasing number, each with its drive phase, STOPPING or BACKOFF, its
escalation, position and remaining distance, which is absent without a position and, in DRIVING and STOPPING, without a move
record, in the five bytes of R192, and the timer restarts from 0. With nothing on the line, or a timer that is not running,
nothing happens. The frame of a report: tag 0, the kind of section 10.8, and the fields its owning rule lists, in their order,
numbers and codes by R192 (R183); that of OP_END is spelled out with the winding test. Choices of the model: log 4, log 9, log
10, log 18, log 29, log 46. -/
def Obligations.TransmitEndAndCadenceExpiry : Prop :=
  (∀ s : State, s.power.inReset = false →
     let u : State := { s with link := { s.link with tx := none } }
     (s.link.tx = none → exec .transmitEnd s = .next s.settle) ∧
     (∀ f, s.link.tx = some f → s.power.sleepOpts = none → s.power.state.runs = true →
       (∀ r, s.link.slot = some r → s.link.intake = [] → exec .transmitEnd s = .next (State.settle
         { u with link := { u.link with slot := none, tx := some ⟨r.frame.bytes, false⟩ } })) ∧
       (∀ r g gs, s.link.slot = some r → s.link.intake = g :: gs → exec .transmitEnd s = .next (State.settle
         (takeFrame g { u with link := { u.link with slot := none, tx := some ⟨r.frame.bytes, false⟩, intake := gs } }))) ∧
       (∀ r rs, s.link.slot = none → s.link.intake = [] → s.link.reports = r :: rs → exec .transmitEnd s = .next (State.settle
         { u with link := { u.link with reports := rs, tx := some ⟨r.frame.bytes, false⟩ } })) ∧
       (s.link.slot = none → s.link.intake = [] → s.link.reports = [] → exec .transmitEnd s = .next u.settle)) ∧
     (∀ f o, s.link.tx = some f → s.power.sleepOpts = some o → f.sleepReply = false → s.power.state.runs = true →
       (∀ r, s.link.slot = some r → exec .transmitEnd s = .next (State.settle
         { u with link := { u.link with slot := none, tx := some ⟨r.frame.bytes, true⟩ } })) ∧
       (∀ r rs, s.link.slot = none → s.link.reports = r :: rs → exec .transmitEnd s = .next (State.settle
         { u with link := { u.link with reports := rs, tx := some ⟨r.frame.bytes, false⟩ } })) ∧
       (s.link.slot = none → s.link.reports = [] → exec .transmitEnd s = .next u.settle))) ∧
  ((∀ s : State, s.power.inReset = false →
     (s.link.cadence = none → exec .cadenceExpiry s = .next s.settle) ∧
     (∀ n, s.link.cadence = some n → exec .cadenceExpiry s = .next (State.settle
       (State.report { s with link := { s.link with cadence := some 0 } } (.positions (s.listedAxes.map s.posItem)))))) ∧
   (∀ (s : State) (a : AxisNo), a ∈ s.listedAxes ↔
     (s.ax a).motion = .driving ∨ (s.ax a).motion = .stopping ∨ (s.ax a).motion = .backoff) ∧
   (∀ s : State, s.listedAxes.Pairwise (fun a b => a < b)) ∧
   (∀ (s : State) (a : AxisNo), (s.posItem a).axis = a ∧ (s.posItem a).escalated = (s.ax a).escalated ∧
     (s.posItem a).pos = (s.ax a).pos ∧
     ((s.ax a).motion = .stopping → (s.posItem a).phase = 4) ∧ ((s.ax a).motion = .backoff → (s.posItem a).phase = 5) ∧
     (∀ ph, (s.ax a).motion = .driving → (s.ax a).phase = some ph → (s.posItem a).phase = match ph with
       | .ramp => 0
       | .cruise => 1
       | .creep => 2
       | .correct => 3) ∧
     ((s.ax a).motion = .driving ∨ (s.ax a).motion = .stopping → (s.ax a).move = none → (s.posItem a).remaining = none) ∧
     (∀ m p, (s.ax a).motion = .driving ∨ (s.ax a).motion = .stopping → (s.ax a).move = some m → (s.ax a).pos = some p →
       (s.posItem a).remaining = some (apart m.target p)) ∧
     (∀ k p, (s.ax a).motion = .backoff → (s.ax a).backoff = some k → (s.ax a).pos = some p →
       (s.posItem a).remaining = some (match k.step with
         | .brake => k.distance
         | .reverse => ((k.distance : Int) - k.count).toNat
         | .finish => 0)) ∧
     ((s.ax a).pos = none → (s.posItem a).remaining = none)) ∧
   (∀ p : PosItem, p.bytes = BitVec.ofNat 8 (p.axis.val + 16 * p.phase + (if p.escalated then 128 else 0)) ::
     ((p.pos.elim [0xFF, 0xFF] b2) ++ (p.remaining.elim [0xFF, 0xFF] b2))) ∧
   (∀ items : List PosItem, (Report.positions items).payload = BitVec.ofNat 8 items.length :: items.flatMap PosItem.bytes)) ∧
  ((∀ n : Nat, b1 n = [BitVec.ofNat 8 n] ∧ b2 n = [BitVec.ofNat 8 (n / 256), BitVec.ofNat 8 n] ∧
     b4 n = b2 (n / 65536) ++ b2 n ∧ bOpt1 none = [0xFF] ∧ bOpt1 (some n) = b1 n ∧ bOpt2 none = [0xFF, 0xFF] ∧
     bOpt2 (some n) = b2 n) ∧
   (∀ i : Int, bInt i = [(BitVec.ofInt 16 i).extractLsb' 8 8, (BitVec.ofInt 16 i).extractLsb' 0 8])) ∧
  ([PowerState.init, .active, .doze, .sleep, .resetting].map PowerState.code = List.range 5 ∧
   [ChanState.free, .settling, .granted, .tripped, .retired].map ChanState.code = List.range 5 ∧
   [Band.normal, .reduced, .hold].map Band.code = List.range 3 ∧
   [Thermal.cool, .warm, .hot].map Thermal.code = List.range 3 ∧
   [Handshake.quiet, .draining, .yielded].map Handshake.code = List.range 3 ∧
   runnerCode none = 0 ∧ [RunState.running, .pausing, .paused, .halting].map RunState.code = [1, 2, 3, 4] ∧
   (∀ run, runnerCode (some run) = run.state.code) ∧
   [WakeCause.powerOn, .softReset, .link, .line, .hand].map WakeCause.code = List.range 5 ∧
   [EndKind.complete, .aborted, .timeout, .reset].map EndKind.code = List.range 4 ∧
   [RefCause.home, .resync, .badEdge, .noStop, .overrun, .config, .wake, .skew].map RefCause.code = List.range 8 ∧
   [SupplyCause.band, .thermal, .share, .wake].map SupplyCause.code = List.range 4 ∧
   [BlockEvent.block, .change, .clear].map BlockEvent.code = List.range 3 ∧
   [PlanCause.badTarget, .unreferenced].map PlanCause.code = List.range 2) ∧
  (let flag (b : Bool) : List Byte := [if b then 1 else 0]
   let owner (o : OwnerTag) : List Byte := match o with
     | .none => [0, 0xFF, 0xFF]
     | .runner r m => b1 1 ++ b1 r.val ++ bOpt1 m
     | .link op => b1 2 ++ b1 op.code ++ [0xFF]
   let cause (c : Cause) : List Byte := match c with
     | .current | .overrun => [0, 0]
     | .stall | .search => [0, 1]
     | .skew n => b2 n
     | .channel c => b2 c.val
     | .partner p => b2 p.val
     | .remaining r => bOpt2 r
   let firstFault (f : Option (AxisNo × FaultKind)) : List Byte := match f with
     | none => [0, 0, 0]
     | some (a, k) => b1 1 ++ b1 a.val ++ b1 k.code
   let planError (p : Option (Nat × PlanCause)) : List Byte := match p with
     | none => [0, 0, 0]
     | some (i, c) => b1 1 ++ b1 i ++ b1 c.code
   let reasons (r : Reasons) : Nat := (if r.host then 1 else 0) + (if r.fault then 2 else 0) +
     (if r.inhibit then 4 else 0) + (if r.link then 8 else 0) + (if r.planError then 16 else 0)
   (∀ (c : WakeCause) (t : Nat), (Report.wake c t none).frame = ⟨0x40, 0, b1 c.code ++ b2 t ++ [0, 0, 0, 0]⟩ ∧
     ∀ o : SleepOpts, (Report.wake c t (some o)).frame =
       ⟨0x40, 0, b1 c.code ++ b2 t ++ [1] ++ flag o.watch ++ flag o.wakeOnHand ++ flag o.quick⟩) ∧
   (∀ items, (Report.positions items).frame = ⟨0x41, 0, (Report.positions items).payload⟩) ∧
   (∀ (r : RunnerNo) (sl : SlotNo) (i : Nat) (o : MoveOutcome) (x y : FinalPos) (t : Nat),
     (Report.moveEnd r sl i o [x] t).frame = ⟨0x42, 0, b1 r.val ++ b1 sl.val ++ b1 i ++ b1 x.axis.val ++ [0xFF] ++ b1 o.code ++
       bOpt2 x.pos ++ [0xFF, 0xFF] ++ b1 x.corrections ++ [0xFF] ++ b4 t⟩ ∧
     (Report.moveEnd r sl i o [x, y] t).frame = ⟨0x42, 0, b1 r.val ++ b1 sl.val ++ b1 i ++ b1 x.axis.val ++ b1 y.axis.val ++
       b1 o.code ++ bOpt2 x.pos ++ bOpt2 y.pos ++ b1 x.corrections ++ b1 y.corrections ++ b4 t⟩) ∧
   (∀ (r : RunnerNo) (sl : SlotNo) (k : EndKind) (t d n : Nat) (f : Option (AxisNo × FaultKind)),
     (Report.runEnd r sl k t d n f).frame =
       ⟨0x43, 0, b1 r.val ++ b1 sl.val ++ b1 k.code ++ b4 t ++ b1 d ++ b1 n ++ firstFault f⟩) ∧
   (∀ (r : RunnerNo) (sl : SlotNo) (w : Reasons) (f : Option (AxisNo × FaultKind)) (p : Option (Nat × PlanCause)) (d t : Nat),
     (Report.runPaused r sl w f p d t).frame =
       ⟨0x44, 0, b1 r.val ++ b1 sl.val ++ b1 (reasons w) ++ firstFault f ++ planError p ++ b1 d ++ b4 t⟩) ∧
   (∀ (a : AxisNo) (further due : Bool) (k : FaultKind) (c : Cause) (p : Option Nat) (e : Option EntryNo) (o : OwnerTag),
     (Report.axisFault a further k c p due e o).frame = ⟨0x45, 0, b1 a.val ++ flag further ++ b1 k.code ++ cause c ++
       bOpt2 p ++ flag due ++ bOpt1 (e.map Fin.val) ++ owner o⟩) ∧
   (∀ (ev : BlockEvent) (a b : AxisNo) (e : EntryNo) (copy : Bool) (p q : Option Nat) (o : OwnerTag),
     (Report.blocked ev a e b copy p q o).frame = ⟨0x46, 0, b1 ev.code ++ b1 a.val ++ b1 e.val ++ b1 b.val ++
       (if ev = .clear then [0xFF] else flag copy) ++ bOpt2 p ++ bOpt2 q ++ owner o⟩) ∧
   (∀ op o k ax rs, (Report.opEnd op o k ax rs).frame = ⟨0x47, 0, (Report.opEnd op o k ax rs).payload⟩) ∧
   (∀ (a : AxisNo) (n : Int) (p : Option Nat) (r : Ref),
     (Report.handMoved a n p r).frame = ⟨0x48, 0, b1 a.val ++ bInt n ++ bOpt2 p ++ b1 r.code⟩) ∧
   (∀ (c : SupplyCause) (b : Band) (t : Thermal) (h : Handshake) (q k : Bool) (av u : Nat),
     (Report.supply c b t h q k av u).frame =
       ⟨0x49, 0, b1 c.code ++ b1 b.code ++ b1 t.code ++ b1 h.code ++ flag q ++ flag k ++ b2 av ++ b2 u⟩) ∧
   (∀ (a : AxisNo) (old new : Ref) (c : RefCause) (p : Option Nat),
     (Report.reference a old new c p).frame = ⟨0x4A, 0, b1 a.val ++ b1 old.code ++ b1 new.code ++ b1 c.code ++ bOpt2 p⟩))


/-- SUPERVISION_LAPSE and INHIBIT_CHANGE (R17, R52, R69, R170, R171, R185, R186): the silence pauses every RUNNING or PAUSING
runner with LINK and ends HOMEs and COUNTS jogs with LINK_SILENT; the inhibit line pauses them with INHIBIT and ends every
link operation with INHIBITED, a HOME between its stall and its standstill too (log 31); a release, a level already taken, and
an OFF or LAPSED timer change no runner and no axis. A pause reason (R162, R164, R165): a RUNNING runner enters PAUSING and
stops its axes with an ACTIVE move, a PAUSING one takes the reason, a PAUSED one reports a reason that is new, a HALTING one
takes none. The end of a link operation (R17, R52, R69), by the motion state of its axes: it takes the outcome, unless its end
is decided or its test is in its pulses or after them, and its axes take the stop of a link-operation end; a HOME between its
stall and its standstill, and a test abandoned toward BLOCKED, come to IDLE with that outcome. Choices of the model: log 4,
log 10, log 11, log 18, log 31, log 48, log 52, log 59. -/
def Obligations.SilenceAndInhibitStopTheWork : Prop :=
  (∀ s : State, s.power.inReset = false →
     let paused (w : Reason) (t : State) : State := allRunners.foldl (fun t r =>
       if (∃ run, t.run r = some run ∧ (run.state = .running ∨ run.state = .pausing)) then t.pauseFor r w else t) t
     let lapsed : State := { s with link := { s.link with supervision := .lapsed } }
     (∀ n w, s.link.supervision = .watching n w → exec .supervisionLapse s = .next (State.settle
       (((paused .link lapsed).endLinkOps
         (fun op => decide (op.kind = .home) || (decide (op.kind = .jog) && !op.hold)) .linkSilent).passSince lapsed))) ∧
     (s.link.supervision = .off ∨ s.link.supervision = .lapsed → exec .supervisionLapse s = .next s.settle) ∧
     (s.power.state ≠ .sleep → s.inhibit = false → exec (.inhibitChange true) s = .next (State.settle
       (((paused .inhibit { s with inhibit := true }).endLinkOps (fun _ => true) .inhibited).passSince s))) ∧
     (s.power.state ≠ .sleep → s.inhibit = true →
       exec (.inhibitChange false) s = .next (State.settle { s with inhibit := false })) ∧
     (∀ l, s.power.state = .sleep ∨ l = s.inhibit → exec (.inhibitChange l) s = .next s.settle)) ∧
  (∀ (s : State) (r : RunnerNo) (w : Reason),
     (s.run r = none → s.pauseFor r w = s) ∧
     (∀ run, s.run r = some run →
       let told : Run := { run with reasons := match w with
         | .host => { run.reasons with host := true }
         | .fault => { run.reasons with fault := true }
         | .inhibit => { run.reasons with inhibit := true }
         | .link => { run.reasons with link := true }
         | .planError => { run.reasons with planError := true } }
       let busy := run.claim.filter (fun a => (s.activeOn run a).isSome)
       (run.state = .running → s.pauseFor r w = (s.setRun r (some { told with state := .pausing })).stopAll busy .pause) ∧
       (run.state = .pausing → s.pauseFor r w = s.setRun r (some told)) ∧
       (run.state = .paused → told = run → s.pauseFor r w = s) ∧
       (run.state = .paused → told ≠ run → s.pauseFor r w = (s.setRun r (some told)).report
         (.runPaused r run.slot told.reasons run.firstFault run.planError run.doneCount run.elapsed)) ∧
       (run.state = .halting → s.pauseFor r w = s))) ∧
  (∀ (s : State) (which : LinkOp → Bool) (o : MoveOutcome), s.endLinkOps which o = allAxes.foldl (fun (t : State) a =>
     match (t.ax a).owner with
     | .link op => if op.named = a ∧ which op = true then t.endLinkOp a o else t
     | .none | .runner _ => t) s) ∧
  (∀ (s : State) (a : AxisNo) (o : MoveOutcome),
     let pulsing (b : AxisNo) := (s.ax b).motion = .checking ∨
       ((s.ax b).motion = .stopping ∧ ∃ st, (s.ax b).stop = some st ∧ st.dest = .checkDone)
     ((∀ op, (s.ax a).owner ≠ .link op) → s.endLinkOp a o = s) ∧
     (∀ op, (s.ax a).owner = .link op →
       (op.result ≠ none ∨ (∃ b ∈ s.members a, pulsing b) → s.endLinkOp a o = s) ∧
       (op.result = none → (∀ b ∈ s.members a, ¬ pulsing b) → s.endLinkOp a o =
         (s.modAll (s.members a) (fun x => match x.owner with
           | .link p => { x with owner := .link { p with result := some (o, none), window := none } }
           | .none | .runner _ => x)).stopAll (s.members a) .halt) ∧
       (op.result = none → s.partner a = none → ¬ pulsing a →
         let x := s.ax a
         let t := s.endLinkOp a o
         let becomes (y : Axis) :=
           t.ax a = { y with owner := .link { op with result := some (o, none), window := none } }
         (x.motion = .driving → becomes { x with
           motion := .stopping, phase := none, blanking := false, backoff := none,
           check := x.check.map (fun k => { k with pulse := none }),
           stop := some ⟨.idle false, .controlled, s.dutyNow a, true, 0, false, false⟩ }) ∧
         (∀ st, x.motion = .stopping ∨ x.motion = .engaging → x.stop = some st → st.dest ≠ .checkDone →
           becomes { x with stop := some { st with dest := if st.dest = .fault then .fault else .idle false } }) ∧
         (x.motion = .engaging → x.stop = none →
           becomes { x with stop := some ⟨.idle false, .coast, 0, false, 0, false, false⟩ }) ∧
         (x.motion = .queued ∨ x.motion = .blocked → becomes (x.toIdle false)) ∧
         (x.motion = .queued → ∀ q ∈ t.queue, q.axis ≠ a ∧ q.partner ≠ some a) ∧
         (x.motion = .idle → becomes { x with move := none }) ∧
         (x.motion = .fault ∨ x.motion = .backoff → becomes x))))

/-! ### Events of the axis units: position -/

/-- A count of an axis with a position (R8, R9, R10): the lash state first, then overrun and position, and a count that would
take overrun above the end zone is discarded; every other axis keeps all that is measured. This holds of the state the step
ends in, whatever the count sets off. What a discarded count does (R10), by the motion of the axis: NO_STOP with a quick stop
and a SUSPECT reference where it is driven toward that bound, once in a drive; SUSPECT with OVERRUN otherwise; nothing while a
HOME drives or stops. A HOME whose search distance reaches travel × 1.1 takes NO_STOP with cause search, unless a stall has
been detected (R16). In every motion state a count is counted for the episode of an axis at rest, for the search of a HOME
that drives or stops, with or without a position, and for the ramp of a drive; then taken by the lash, overrun and position, a
position change being handed on (R11); then by the search limit, by the backoff count of a reversing axis, which enters FINISH
at the backoff distance (R57), and by its drive. The phases of a drive follow the ramp counts and the remaining distance, and
the drive is cut at its coast, or at its tolerance in a correction (R35, R44). A count in SLEEP is taken with watch, and with
wake-on-hand is a wake event (R7, R199). Choices of the model: log 7, log 10, log 11, log 18, log 30, log 40, log 41, log 48,
log 49. -/
def Obligations.CountsMoveLashOverrunAndPosition : Prop :=
  (∀ (s : State) (a : AxisNo) (d : Dir) (c : AxisConfig) (p : Nat), s.power.inReset = false → HallPowered s →
    (s.ax a).config = some c → (s.ax a).pos = some p →
    let x := s.ax a
    let loaded := if d = x.lashDir then x.lashRem else c.lash
    let outward := match d with
      | .low => decide (p = 0)
      | .high => decide (p = c.travel)
    let returning := decide (0 < x.overrun) && (match d with
      | .low => decide (p = c.travel)
      | .high => decide (p = 0))
    ∃ t, exec (.hallEdge a (.count d)) s = .next t ∧ (t.ax a).lashDir = d ∧ (t.ax a).config = x.config ∧
      (t.ax a).heat = x.heat ∧ (t.ax a).lockout = x.lockout ∧ (t.ax a).lastCheck = x.lastCheck ∧
      (∀ b, b ≠ a → Measured (s.ax b) (t.ax b)) ∧
      (0 < loaded → (t.ax a).lashRem = loaded - 1 ∧ (t.ax a).pos = some p ∧ (t.ax a).overrun = x.overrun) ∧
      (loaded = 0 → (t.ax a).lashRem = 0 ∧
        (returning = true → (t.ax a).pos = some p ∧ (t.ax a).overrun = x.overrun - 1) ∧
        (returning = false → p ≤ c.travel → outward = false → (t.ax a).overrun = x.overrun ∧ (t.ax a).pos = some (match d with
          | .low => p - 1
          | .high => p + 1)) ∧
        (returning = false → outward = true → x.overrun < c.endZone →
          (t.ax a).pos = some p ∧ (t.ax a).overrun = x.overrun + 1) ∧
        (returning = false → outward = true → c.endZone ≤ x.overrun →
          (t.ax a).pos = some p ∧ (t.ax a).overrun = x.overrun))) ∧
  (∀ (s : State) (a : AxisNo) (d : Dir),
    let x := s.ax a
    let seeking := x.homing = true ∧ (x.motion = .driving ∨ x.motion = .stopping)
    let toward := (x.motion = .driving ∨ x.motion = .backoff ∨ (x.motion = .stopping ∧ x.check = none)) ∧ x.driveDir = d
    (seeking → s.overrunLimit a d = s) ∧
    (¬ seeking → toward → x.noStop = true → s.overrunLimit a d = s) ∧
    (¬ seeking → toward → x.noStop = false → s.overrunLimit a d =
      ((((s.setAx a { x with noStop := true }).raiseFault a .noStop .overrun none none).suspect a .noStop).passSince s)) ∧
    (¬ seeking → ¬ toward → s.overrunLimit a d = s.suspect a .overrun)) ∧
  (∀ (s : State) (a : AxisNo) (k : RefCause),
    let x := s.ax a
    (x.ref ≠ .valid → s.suspect a k = s) ∧
    (x.ref = .valid → s.suspect a k = ((s.setAx a { x with ref := .suspect }).report
      (.reference a .valid .suspect k x.pos)).modAll (s.members a)
        (fun y => { y with move := y.move.map (fun m => { m with forcedCreep := true }) }))) ∧
  (∀ (s : State) (a : AxisNo) (c : AxisConfig), (s.ax a).config = some c →
    let x := s.ax a
    let due := x.homing = true ∧ x.noStop = false ∧ x.stalled = false ∧ (x.motion = .driving ∨ x.motion = .stopping) ∧
      ((c.travel * 11 / 10 : Nat) : Int) ≤ x.search
    (due → s.checkSearch a =
      ((((s.setAx a { x with noStop := true }).raiseFault a .noStop .search none none).suspect a .noStop).passSince s)) ∧
    (¬ due → s.checkSearch a = s)) ∧
  (∀ (s : State) (a : AxisNo) (d : Dir) (c : AxisConfig) (p : Nat), s.power.inReset = false → s.power.state.runs = true →
    (s.ax a).motion = .driving → (s.ax a).homing = false → (s.ax a).config = some c → (s.ax a).pos = some p →
    let x := s.ax a
    let loaded := if d = x.lashDir then x.lashRem else c.lash
    let y : Axis := { x with
      rampCounts := if x.phase = some .ramp ∧ x.driveDir = d then x.rampCounts + 1 else x.rampCounts,
      lashDir := d, lashRem := 0 }
    loaded = 0 →
    (x.driveDir = d → x.noStop = false → 0 < c.travel → c.endZone ≤ x.overrun → p = (match d with
        | .low => 0
        | .high => c.travel) →
      let v := s.setAx a y
      exec (.hallEdge a (.count d)) s = .next (State.settle
        ((((v.setAx a { y with noStop := true }).raiseFault a .noStop .overrun none none).suspect a .noStop).passSince v)))) ∧
  (∀ (s : State) (a : AxisNo) (d : Dir) (c : AxisConfig), s.power.inReset = false → HallPowered s → (s.ax a).config = some c →
    let w := handWoken s
    let x := s.ax a
    let one : Int := match d with
      | .low => -1
      | .high => 1
    let counted : Axis := { x with
      episode := if x.motion = .idle ∨ x.motion = .queued ∨ x.motion = .blocked ∨ x.motion = .fault then
          some (match x.episode with
            | none => ⟨one, false⟩
            | some e => ⟨e.net + one, false⟩)
        else x.episode,
      search := if x.homing = true ∧ (x.motion = .driving ∨ x.motion = .stopping) then
          x.search + (if d = c.refEnd then 1 else -1)
        else x.search,
      rampCounts := if x.motion = .driving ∧ x.phase = some .ramp ∧ x.driveDir = d then x.rampCounts + 1 else x.rampCounts }
    let goesOn (v : State) : Prop :=
      let u := (v.checkSearch a).backoffCount a d x.pos
      exec (.hallEdge a (.count d)) s = .next (State.settle (if (u.ax a).motion = .driving then u.advance a else u))
    let loaded := if d = x.lashDir then x.lashRem else c.lash
    let y : Axis := { counted with lashDir := d, lashRem := loaded - 1 }
    (x.pos = none → goesOn (w.setAx a counted)) ∧
    (∀ p, x.pos = some p →
      let outward := match d with
        | .low => decide (p = 0)
        | .high => decide (p = c.travel)
      let returning := decide (0 < x.overrun) && (match d with
        | .low => decide (p = c.travel)
        | .high => decide (p = 0))
      (0 < loaded → goesOn (w.setAx a y)) ∧
      (loaded = 0 → returning = true → goesOn (w.setAx a { y with overrun := x.overrun - 1 })) ∧
      (loaded = 0 → returning = false → p ≤ c.travel → outward = false → goesOn ((w.setAx a { y with pos := some (match d with
        | .low => p - 1
        | .high => p + 1) }).positionChange a (some p) true)) ∧
      (loaded = 0 → returning = false → outward = true → x.overrun < c.endZone →
        goesOn (w.setAx a { y with overrun := x.overrun + 1 })) ∧
      (loaded = 0 → returning = false → outward = true → c.endZone ≤ x.overrun → goesOn ((w.setAx a y).overrunLimit a d)))) ∧
  (∀ (s : State) (a : AxisNo) (d : Dir) (old : Option Nat),
    let x := s.ax a
    (∀ k, x.motion = .backoff → x.backoff = some k → k.step = .reverse → x.pos ≠ old →
      let n := k.count + (if d = k.dir then 1 else -1)
      (k.distance ≤ n → s.backoffCount a d old = s.setAx a { x with
        blanking := false, backoff := some { k with step := .finish, count := n, rest := false } }) ∧
      (n < k.distance → s.backoffCount a d old = s.setAx a { x with backoff := some { k with count := n } })) ∧
    (x.motion ≠ .backoff ∨ x.pos = old ∨ (∀ k, x.backoff = some k → k.step ≠ .reverse) → s.backoffCount a d old = s)) ∧
  (∀ (s : State) (a : AxisNo) (m : MoveRec) (ph : Phase), (s.ax a).move = some m → (s.ax a).phase = some ph →
    let x := s.ax a
    let within (n : Nat) := ∃ p, x.pos = some p ∧ apart m.target p ≤ n
    let cut := m.endFlag = false ∧ within (if ph = .correct then m.profile.tolerance else m.profile.coast)
    let grown : Phase := if ph = .ramp ∧ m.profile.rampUp ≤ x.rampCounts then .cruise else ph
    let slows := (grown = .ramp ∨ grown = .cruise) ∧ within m.profile.creepZone
    (x.homing = true → s.advance a = s) ∧
    (x.homing = false → cut → s.advance a = s.setAx a { x with
      motion := .stopping, phase := none, blanking := false, backoff := none,
      check := x.check.map (fun k => { k with pulse := none }),
      stop := some ⟨.completion .correct, .coast, s.dutyNow a, false, 0, false, false⟩ }) ∧
    (x.homing = false → ¬ cut → slows → s.advance a = s.setAx a { x with phase := some .creep }) ∧
    (x.homing = false → ¬ cut → ¬ slows → s.advance a = s.setAx a { x with phase := some grown })) ∧
  (∀ p q : Nat, apart p q = if p ≤ q then q - p else p - q)

/-- Hand moves and edges that move no position (R7, R18, R19): a count of an UNKNOWN axis at rest only opens or extends its
episode; a count of an UNKNOWN axis in motion, but for a HOME, moves the ramp of its drive alone, and nothing in any other
state (R35); an illegal edge makes a VALID reference SUSPECT; the rest of an episode closes it with HAND_MOVED, in SLEEP only
marks it; unpowered inputs see nothing. A count in SLEEP is taken with watch, and with wake-on-hand the first one names the
wake cause HAND (R199). Choices of the model: log 10, log 18, log 29. -/
def Obligations.HandMovesAndIllegalEdges : Prop :=
  ∀ (s : State) (a : AxisNo), s.power.inReset = false →
    let x := s.ax a
    let quiet := { x with episode := x.episode.map (fun e => { e with rested := false }) }
    (∀ d, HallPowered s → x.pos = none → x.homing = false →
      x.motion = .idle ∨ x.motion = .queued ∨ x.motion = .blocked ∨ x.motion = .fault →
      let one : Int := match d with
        | .low => -1
        | .high => 1
      exec (.hallEdge a (.count d)) s = .next (State.settle ((handWoken s).setAx a { x with episode := some (match x.episode with
        | none => ⟨one, false⟩
        | some e => ⟨e.net + one, false⟩) }))) ∧
    (∀ d m ph, s.power.state.runs = true → x.pos = none → x.homing = false → x.motion = .driving → x.move = some m →
      x.phase = some ph →
      let n := if ph = .ramp ∧ x.driveDir = d then x.rampCounts + 1 else x.rampCounts
      exec (.hallEdge a (.count d)) s = .next (State.settle (s.setAx a { x with
        rampCounts := n, phase := some (if ph = .ramp ∧ m.profile.rampUp ≤ n then .cruise else ph) }))) ∧
    (∀ d, s.power.state.runs = true → x.pos = none → x.homing = false →
      x.motion = .engaging ∨ x.motion = .stopping ∨ x.motion = .backoff ∨ x.motion = .checking →
      exec (.hallEdge a (.count d)) s = .next s.settle) ∧
    (HallPowered s →
      (x.ref ≠ .valid → exec (.hallEdge a .illegal) s = .next (State.settle (s.setAx a quiet))) ∧
      (x.ref = .valid → exec (.hallEdge a .illegal) s = .next (State.settle
        (((s.setAx a { quiet with ref := .suspect }).report (.reference a .valid .suspect .badEdge x.pos)).modAll
          (s.members a) (fun y => { y with move := y.move.map (fun m => { m with forcedCreep := true }) }))))) ∧
    (∀ step, ¬ HallPowered s → exec (.hallEdge a step) s = .next s.settle) ∧
    (∀ o, s.power.state = .sleep → s.power.sleepOpts = some o → o.watch = true →
      (o.wakeOnHand = true → s.power.wakeCause = none →
        handWoken s = { s with power := { s.power with wakeCause := some .hand } }) ∧
      (o.wakeOnHand = false ∨ s.power.wakeCause ≠ none → handWoken s = s)) ∧
    (s.power.state ≠ .sleep → handWoken s = s) ∧
    (∀ e, s.power.state.runs = true → x.episode = some e → exec (.handMoveRest a) s = .next (State.settle
      ((s.setAx a { x with episode := none }).report (.handMoved a e.net x.pos x.ref)))) ∧
    (s.power.state.runs = true → x.episode = none → exec (.handMoveRest a) s = .next s.settle) ∧
    (s.power.state.runs = false → exec (.handMoveRest a) s = .next (State.settle
      (s.setAx a { x with episode := x.episode.map (fun e => { e with rested := true }) })))

/-! ### Events of the axis units: drive, obstruction, stops -/

/-- The effective duty of R36, step by step over the rationals: the base duty of the phase (R35), linear in the ramp counts
in RAMP; times the factor of the scale group, or 100 % while escalated without forced creep; limited under forced creep to the
creep duty times the factor (R37); reduced for the leader of a gang by its skew, not below the creep duty; rounded down to a
whole percent, at least 1 %. The drive of an axis has this duty, of its latched profile and present inputs; it is the duty at
the output in DRIVING and in REVERSE, the one a controlled stop ramps down from, and the one the heat of the present interval
takes up. The skew that reduces it is that of the leader of a gang whose axes drive or reverse in one direction, in no HOME and
no CHECK, 0 for any other axis (R73). -/
def Obligations.EffectiveDutyFollowsItsSteps : Prop :=
  (∀ (p : Profile) (ph : Phase) (n scale skew : Nat) (escalated forced : Bool), (ph = .ramp → n ≤ p.rampUp) →
    let base : ℚ := match ph with
      | .ramp => if p.rampUp = 0 then (p.cruiseDuty : ℚ)
          else (p.startDuty : ℚ) + ((p.cruiseDuty : ℚ) - (p.startDuty : ℚ)) * (n : ℚ) / (p.rampUp : ℚ)
      | .cruise => (p.cruiseDuty : ℚ)
      | .creep | .correct => (p.creepDuty : ℚ)
    let scaled : ℚ := base * (if escalated = true ∧ forced = false then 100 else (scale : ℚ)) / 100
    let limited : ℚ := if forced = true then min scaled ((p.creepDuty : ℚ) * (scale : ℚ) / 100) else scaled
    let led : ℚ := if limited ≤ (p.creepDuty : ℚ) then limited else max (limited - (skew : ℚ)) (p.creepDuty : ℚ)
    effectiveDuty p ph n scale escalated forced skew = max 1 (Nat.floor led)) ∧
  (∀ (s : State) (a : AxisNo) (m : MoveRec) (c : AxisConfig) (ph : Phase), (s.ax a).move = some m →
    (s.ax a).config = some c →
    let x := s.ax a
    let duty (ph : Phase) := effectiveDuty m.profile ph x.rampCounts s.store.scales[c.scaleGroup] x.escalated m.forcedCreep
      (s.leadSkew a)
    (x.motion = .driving → x.phase = some ph → s.dutyNow a = duty ph) ∧
    (∀ k, x.motion = .backoff → x.phase = none → x.backoff = some k → k.step = .reverse → s.dutyNow a = duty .creep)) ∧
  (∀ (s : State) (a : AxisNo) (dest : Dest),
    ((s.startStop a dest .controlled).ax a).stop.map Stop.rampFrom = some (s.dutyNow a) ∧
    (s.sampleDuty.ax a).dutyLo = min (s.ax a).dutyLo (s.dutyNow a) ∧
    (s.sampleDuty.ax a).dutyHi = max (s.ax a).dutyHi (s.dutyNow a)) ∧
  (∀ (s : State) (a : AxisNo),
    (s.partner a = none → s.leadSkew a = 0) ∧
    (∀ b, s.partner a = some b →
      let x := s.ax a
      let y := s.ax b
      let steady (z : Axis) := z.motion = .driving ∧ z.phase ≠ some .correct
      let turning (z : Axis) := z.motion = .backoff ∧ ∃ k, z.backoff = some k ∧ k.step = .reverse
      let together := x.homing = false ∧ x.check = none ∧ x.driveDir = y.driveDir ∧
        ((steady x ∧ steady y) ∨ (turning x ∧ turning y))
      (¬ together → s.leadSkew a = 0) ∧
      (together → x.pos = none ∨ y.pos = none → s.leadSkew a = 0) ∧
      (∀ p q, together → x.pos = some p → y.pos = some q → s.leadSkew a = match x.driveDir with
        | .high => p - q
        | .low => q - p)))

/-- BLANKING_END, CONTROLLED_STOP_RAMP_END and ESCALATION (R38, R40, R53): each changes its one mark of the axis; escalation,
due in CRUISE outside blanking under a factor below 100 % without forced creep, also that of the gang partner. CHECK_PULSE_END
(R67, R68, R69): the first pulse's peak is kept and the bridge reverses, unless the second would be deeper in an entry in
conflict; after the second the output is off in STOPPING toward the completion of the test; OPEN is both peaks below 0.2 A,
else OK. The payload of OP_END: of a CHECK the operation, axis, result, outcome and kind (R68), of a JOG the operation, axis,
outcome, position and kind (R52), with what a gang partner adds (log 56). The end of a winding test (R68): the channels
released, the axes IDLE, the last check result written, a grant pass, FAULT OPEN where it is OPEN, and the operation DONE. The
end of a link operation (R46, R52, R64, R68, R70): once its end is decided and its axes rest in IDLE or FAULT, its OP_END
joins the queue, or sets the overflow flag where the queue is full, and the ownership and escalation of its axes are released
(R38). Choices of the model: log 10, log 11, log 18, log 35, log 36, log 39, log 56, log 59. -/
def Obligations.DriveMarksAndCheckPulses : Prop :=
  (∀ (s : State) (a : AxisNo), s.power.inReset = false →
     let x := s.ax a
     let due := x.motion = .driving ∧ x.phase = some .cruise ∧ x.blanking = false ∧ s.scale a < 100 ∧
       (∀ m, x.move = some m → m.forcedCreep = false)
     exec (.blankingEnd a) s = .next (State.settle (s.setAx a { x with blanking := false })) ∧
     exec (.controlledStopRampEnd a) s = .next (State.settle
       (s.setAx a { x with stop := x.stop.map (fun st => { st with ramping := false }) })) ∧
     (due → exec (.escalation a) s = .next (State.settle
       (s.modAll (s.members a) (fun y => { y with escalated := true })))) ∧
     (¬ due → exec (.escalation a) s = .next s.settle)) ∧
  ((∀ (s : State) (a : AxisNo) (peak : Nat) (k : CheckRec), s.power.inReset = false → (s.ax a).motion = .checking →
     (s.ax a).check = some k →
     let x := s.ax a
     let second := s.setAx a { x with driveDir := .low, check := some { k with pulse := some .low, peakHigh := peak } }
     (k.pulse = some .high → second.ask a [.low] = none →
       exec (.checkPulseEnd a peak) s = .next second.settle) ∧
     (∀ e p, k.pulse = some .high → second.ask a [.low] = some (e, p) → exec (.checkPulseEnd a peak) s =
       .next (State.settle ((second.stopAll (second.members a) (.block e p)).passSince second))) ∧
     (k.pulse = some .low → ∃ n, exec (.checkPulseEnd a peak) s = .next (State.settle
       (s.setAx a { x with
         motion := .stopping, phase := none, blanking := false, backoff := none,
         check := some { k with pulse := none, peakLow := peak },
         stop := some ⟨.checkDone, .coast, n, false, 0, false, false⟩ })))) ∧
   (∀ (s : State) (a : AxisNo) (peak : Nat), s.power.inReset = false → (s.ax a).motion ≠ .checking →
     exec (.checkPulseEnd a peak) s = .next s.settle) ∧
   (∀ k : CheckRec, k.result = if k.peakHigh < 200 ∧ k.peakLow < 200 then .opened else .ok)) ∧
  (∀ (o : MoveOutcome) (k : Option FaultKind) (x y : FinalPos) (p q : Option CheckResult),
     let axis (f : FinalPos) : Byte := BitVec.ofNat 8 f.axis.val
     let kind := bOpt1 (k.map FaultKind.code)
     let result (r : Option CheckResult) := bOpt1 (r.map CheckResult.code)
     (Report.opEnd .check o k [x] [p]).payload = [2, axis x] ++ result p ++ b1 o.code ++ kind ++ [0xFF, 0xFF] ∧
     (Report.opEnd .check o k [x, y] [p, q]).payload =
       [2, axis x] ++ result p ++ b1 o.code ++ kind ++ [axis y] ++ result q ∧
     (Report.opEnd .jog o k [x] []).payload = [0, axis x] ++ b1 o.code ++ bOpt2 x.pos ++ kind ++ [0xFF, 0xFF, 0xFF] ∧
     (Report.opEnd .jog o k [x, y] []).payload =
       [0, axis x] ++ b1 o.code ++ bOpt2 x.pos ++ kind ++ [axis y] ++ bOpt2 y.pos) ∧
  (∀ (s : State) (a : AxisNo) (rest : List AxisNo),
     let as := a :: rest
     let result (b : AxisNo) : Option CheckResult := match (s.ax b).check with
       | some k => some (if k.peakHigh < 200 ∧ k.peakLow < 200 then .opened else .ok)
       | none => none
     let idle := (s.releaseAll as).modAll as (Axis.toIdle false)
     let told := as.foldl (fun t b => t.setAx b { t.ax b with lastCheck := result b }) idle
     s.checkRest as = (as.foldl (fun t b => if result b = some .opened then
       t.raiseFault b .opened (.channel ((s.chanOf b).getD 0)) none none else t) (told.passSince s)).tellOutcome a .done []) ∧
  (∀ (s : State) (a : AxisNo),
     let resting := ∀ b ∈ s.members a, (s.ax b).motion = .idle ∨ (s.ax b).motion = .fault
     ((∀ op, (s.ax a).owner ≠ .link op) → s.concludeOp a = s) ∧
     (∀ op, (s.ax a).owner = .link op →
       (op.result = none ∨ op.named ≠ a ∨ ¬ resting → s.concludeOp a = s) ∧
       (∀ o k, op.result = some (o, k) → op.named = a → resting →
         let final (b : AxisNo) : FinalPos := ⟨b, (s.ax b).pos, match (s.ax b).move with
           | some m => m.corrections
           | none => 0⟩
         let result (b : AxisNo) : Option CheckResult :=
           if o = .done ∨ k = some .opened ∨ (k = some .short ∧ (s.ax b).fault ≠ none) then (s.ax b).lastCheck else none
         let axes := a :: (s.partner a).toList
         s.concludeOp a = (s.report (.opEnd op.kind o k (axes.map final)
           (if op.kind = .check then axes.map result else []))).modAll (s.members a)
             (fun x => { x with owner := .none, escalated := false, search := 0 })))) ∧
  (∀ (s : State) (r : Report),
     (s.link.reports.length < 16 → s.report r = { s with link := { s.link with reports := s.link.reports ++ [r] } }) ∧
     (16 ≤ s.link.reports.length → s.report r = { s with link := { s.link with overflow := true } }))

/-- OBSTRUCTION_CURRENT (R53, R54, R56): outside blanking in DRIVING or in the REVERSE step it raises OBSTRUCTION with cause
CURRENT, with a backoff due where R56's conditions hold. BLOCK_TIMEOUT (R130): a BLOCKED axis with a link of its own takes
FAULT BLOCK_TIMEOUT with the partner and the entry. At any other time nothing happens. What a position change does (R11), in
the model's order (log 7): the breach check of a count (R128), the blocks (R124), the re-evaluation of the BLOCKED axes it
concerns (R126), the WHEN gates, the skew check. Entering BLOCKED (R125): the link, the report, and the deadlock search along
the links (R129). A BLOCKED axis re-evaluated (R126, R127, R130) goes on, keeps its link, or changes it with its timer
unbroken. A gang does so as one (R75): an axis that nothing blocks of itself copies its partner's link; both links and reports
come before the searches of the axes with a link of their own; and it goes on when nothing blocks either axis. Choices of the
model: log 4, log 7, log 10, log 11, log 18, log 34, log 40, log 41, log 42, log 48. -/
def Obligations.ObstructionAndBlockTimeoutRaiseFaults : Prop :=
  (∀ (s : State) (a : AxisNo), s.power.inReset = false →
     let x := s.ax a
     let reversing := x.motion = .backoff ∧ ∃ k, x.backoff = some k ∧ k.step = .reverse
     let watched := x.blanking = false ∧ (x.motion = .driving ∨ reversing)
     let due (z : Pinch) := x.motion = .driving ∧ x.homing = false ∧ (∃ c, x.config = some c ∧ c.pinch = some z) ∧
       (∃ p, x.pos = some p ∧ z.lo ≤ p ∧ p ≤ z.hi) ∧ x.driveDir = z.dir ∧ 0 < z.distance
     (¬ watched → exec (.obstructionCurrent a) s = .next s.settle) ∧
     (∀ z, watched → due z → exec (.obstructionCurrent a) s =
       .next (State.settle ((s.raiseFault a .obstruction .current none (some z)).passSince s))) ∧
     (watched → (∀ z, ¬ due z) → exec (.obstructionCurrent a) s =
       .next (State.settle ((s.raiseFault a .obstruction .current none none).passSince s)))) ∧
  (∀ (s : State) (a : AxisNo), s.power.inReset = false →
     (∀ l, (s.ax a).motion = .blocked → (s.ax a).link = some l → l.copy = false → exec (.blockTimeout a) s =
       .next (State.settle ((s.raiseFault a .blockTimeout (.partner l.partner) (some l.entry) none).passSince s))) ∧
     ((s.ax a).motion ≠ .blocked ∨ (∀ l, (s.ax a).link = some l → l.copy = true) →
       exec (.blockTimeout a) s = .next s.settle)) ∧
  (∀ (s : State) (a : AxisNo) (old : Option Nat) (count : Bool),
     let t := if count = true then s.breach a old else s
     let related (x : AxisNo) := x = a ∨ ∃ (n : EntryNo) (e : KeepoutEntry), s.entries[n] = some e ∧ e.enabled = true ∧
       (e.axisA = a ∨ e.axisB = a) ∧
       (e.axisA = x ∨ e.axisB = x)
     let u := allAxes.foldl (fun v x => if v.related a x then v.reevaluate x else v) ((t.blocks a).passSince s)
     s.positionChange a old count = ((u.judgeAll (openIf (whenHolds a (u.ax a).pos))).engine).checkSkew a ∧
     (∀ x, s.related a x = true ↔ related x)) ∧
  (∀ (s : State) (a : AxisNo) (old : Option Nat),
     let x := s.ax a
     let able := ((x.motion = .engaging ∨ x.motion = .driving ∨ x.motion = .stopping) ∧ x.move ≠ none ∧ x.check = none) ∨
       x.motion = .backoff
     let lo (e : KeepoutEntry) (x : AxisNo) := if e.axisA = x then e.loA else e.loB
     let hi (e : KeepoutEntry) (x : AxisNo) := if e.axisA = x then e.hiA else e.hiB
     let hits (n : EntryNo) (b : AxisNo) := ∃ e, s.entries[n] = some e ∧ e.enabled = true ∧
       (e.axisA = a ∧ b = e.axisB ∨ e.axisA ≠ a ∧ e.axisB = a ∧ b = e.axisA) ∧
       (∃ p q, old = some p ∧ x.pos = some q ∧ ¬ (lo e a ≤ p ∧ p ≤ hi e a) ∧ lo e a ≤ q ∧ q ≤ hi e a) ∧
       ((s.ax b).pos = none ∨ ∃ r, (s.ax b).pos = some r ∧ lo e b ≤ r ∧ r ≤ hi e b)
     (¬ able ∨ (∀ n b, ¬ hits n b) → s.breach a old = s) ∧
     (∀ n b, able → hits n b → (∀ m, m < n → ∀ c, ¬ hits m c) →
       s.breach a old = s.raiseFault a .keepoutBreach (.partner b) (some n) none)) ∧
  (∀ (s : State) (x : AxisNo),
     (s.ask x (s.wantDirs x) = none → s.blockEntry [x] = s) ∧
     (∀ n b, s.ask x (s.wantDirs x) = some (n, b) → s.blockEntry [x] =
       ((s.notIdle.setAx x { s.ax x with
         motion := .blocked, phase := none, held := false, blanking := false, stop := none, backoff := none, noted := none,
         link := some ⟨n, b, false, 0⟩ }).report
           (.blocked .block x n b false (s.ax x).pos (s.ax b).pos (s.ownerTag x))).searchDeadlock x)) ∧
  (∀ (s : State) (x : AxisNo) (l : BlockLink), (s.ax x).motion = .blocked → (s.ax x).link = some l → l.copy = false →
     let blockedBy (y z : AxisNo) := (s.ax y).motion = .blocked ∧ ∃ k, (s.ax y).link = some k ∧ k.partner = z
     (Relation.ReflTransGen blockedBy l.partner x →
       s.searchDeadlock x = s.raiseFault x .keepoutDeadlock (.partner l.partner) (some l.entry) none) ∧
     (¬ Relation.ReflTransGen blockedBy l.partner x → s.searchDeadlock x = s)) ∧
  (∀ (s : State) (x : AxisNo),
     ((s.ax x).motion ≠ .blocked → s.reevaluate x = s) ∧
     (∀ l, s.partner x = none → (s.ax x).motion = .blocked → (s.ax x).link = some l →
       (s.ask x (s.wantDirs x) = none → s.reevaluate x = ((s.setAx x { s.ax x with motion := .idle, link := none }).report
         (.blocked .clear x l.entry l.partner l.copy (s.ax x).pos (s.ax l.partner).pos (s.ownerTag x))).proceed [x]) ∧
       (s.ask x (s.wantDirs x) = some (l.entry, l.partner) → l.copy = false → s.reevaluate x = s) ∧
       (∀ n b, s.ask x (s.wantDirs x) = some (n, b) → n ≠ l.entry ∨ b ≠ l.partner ∨ l.copy = true → s.reevaluate x =
         (((s.setAx x { s.ax x with link := some ⟨n, b, false, l.timer⟩ }).report
           (.blocked .change x n b false (s.ax x).pos (s.ax b).pos (s.ownerTag x))).searchDeadlock x).passSince s)) ∧
     ((s.ax x).move = none → s.proceed [x] = s.joinQueue [x] false) ∧
     (∀ m, (s.ax x).move = some m →
       let there := m.endFlag = false ∧ (s.ax x).homing = false ∧
         ∃ p, (s.ax x).pos = some p ∧ apart m.target p ≤ m.profile.tolerance
       (there → s.proceed [x] = (s.finish [x] .done).engine) ∧
       (¬ there → s.proceed [x] = (if (s.ax x).ref = .valid then s else
         s.setAx x { s.ax x with move := some { m with forcedCreep := true } }).joinQueue [x] false))) ∧
  (∀ (s : State) (p q : AxisNo), p ≠ q →
    let asked (y : AxisNo) := s.ask y (s.wantDirs y)
    let linkOf (y z : AxisNo) (timer : Nat) (l : BlockLink) := (∃ n b, asked y = some (n, b) ∧ l = ⟨n, b, false, timer⟩) ∨
      (asked y = none ∧ ∃ n b, asked z = some (n, b) ∧ l = ⟨n, b, true, timer⟩)
    let note (ev : BlockEvent) (y : AxisNo) (l : BlockLink) : Report :=
      .blocked ev y l.entry l.partner l.copy (s.ax y).pos (s.ax l.partner).pos (s.ownerTag y)
    let searched (y : AxisNo) (l : BlockLink) (t : State) := if l.copy = true then t else t.searchDeadlock y
    let blocked (y : AxisNo) (l : BlockLink) : Axis := { s.ax y with
      motion := .blocked, phase := none, held := false, blanking := false, stop := none, backoff := none, noted := none,
      link := some l }
    (asked p = none → asked q = none → s.blockEntry [p, q] = s) ∧
    (∀ lp lq, linkOf p q 0 lp → linkOf q p 0 lq →
      let t := (((s.notIdle.setAx p (blocked p lp)).report (note .block p lp)).setAx q (blocked q lq)).report (note .block q lq)
      s.blockEntry [p, q] = searched q lq (searched p lp t)) ∧
    (∀ (x : AxisNo) (lp lq : BlockLink), s.members x = [p, q] → (s.ax x).motion = .blocked → (s.ax p).link = some lp →
      (s.ax q).link = some lq →
      let freed (y : AxisNo) : Axis := { s.ax y with motion := .idle, link := none }
      (asked p = none → asked q = none → s.reevaluate x =
        ((((s.setAx p (freed p)).report (note .clear p lp)).setAx q (freed q)).report (note .clear q lq)).proceed [p, q]) ∧
      (∀ kp kq, linkOf p q lp.timer kp → linkOf q p lq.timer kq →
        let changed (y : AxisNo) (k l : BlockLink) (t : State) := if k = l then t
          else (t.setAx y { s.ax y with link := some k }).report (note .change y k)
        let chased (y : AxisNo) (k l : BlockLink) (t : State) := if k = l then t else searched y k t
        s.reevaluate x = (chased q kq lq (chased p kp lp (changed q kq lq (changed p kp lp s)))).passSince s)) ∧
    (∀ mp mq, (s.ax p).move = some mp → (s.ax q).move = some mq →
      let stands (y : AxisNo) (m : MoveRec) := m.endFlag = false ∧ (s.ax y).homing = false ∧
        ∃ n, (s.ax y).pos = some n ∧ apart m.target n ≤ m.profile.tolerance
      let there := stands p mp ∧ stands q mq
      let crept (y : AxisNo) (m : MoveRec) : Axis := { s.ax y with move := some { m with forcedCreep := true } }
      (there → s.proceed [p, q] = (s.finish [p, q] .done).engine) ∧
      (¬ there → s.proceed [p, q] = (if (s.ax p).ref = .valid ∧ (s.ax q).ref = .valid then s
        else (s.setAx p (crept p mp)).setAx q (crept q mq)).joinQueue [p, q] false)) ∧
    ((s.ax p).move = none → (s.ax q).move = none → s.proceed [p, q] = s.joinQueue [p, q] false)) ∧
  (∀ (s : State) (a : AxisNo),
    s.reevaluateRelated a = allAxes.foldl (fun t x => if t.related a x then t.reevaluate x else t) s)

/-- STALL (R12, R13, R15, R45, R55, R58): in the end zone driven toward it is a hard stop, which sets the axis at the bound
with overrun 0, lash in the direction of travel with 0 remaining, and the reference VALID, by a REFERENCE report of cause
RESYNC where it was not; the move stops toward its completion with END or END_EARLY noted. A HOME does so wherever it stands,
reports REFERENCE HOME always, and has DONE noted; an axis without a position stops without one; elsewhere it is an
obstruction with cause STALL, with a backoff due where the conditions of R56 hold. A hard stop in REVERSE ends the backoff
CUT_SHORT, with the output off, and a joint one by a quick stop of the partner, either at its destination where it rests
already. That the axis is VALID after all that follows is said where no skew of a gang is found. Choices of the model: log 10,
log 11, log 15, log 48, log 58. -/
def Obligations.StallIsClassified : Prop :=
  (∀ (s : State) (a : AxisNo), s.power.inReset = false →
    let x := s.ax a
    let d := x.driveDir
    let reversing := x.motion = .backoff ∧ ∃ k, x.backoff = some k ∧ k.step = .reverse
    let driving := x.blanking = false ∧ x.motion = .driving
    let coasts (o : MoveOutcome) : Axis := { x with
      motion := .stopping, phase := none, blanking := false, backoff := none,
      check := x.check.map (fun k => { k with pulse := none }),
      stop := some ⟨.completion .correct, .coast, s.dutyNow a, false, 0, false, false⟩, noted := some o }
    let outcome : MoveOutcome := match x.move with
      | some m => if m.endFlag then .atEnd else .endEarly
      | none => .endEarly
    let bound (c : AxisConfig) := match d with
      | .low => 0
      | .high => c.travel
    let inZone (c : AxisConfig) (p : Nat) := match d with
      | .low => p ≤ c.endZone
      | .high => c.travel ≤ p + c.endZone
    let placed (c : AxisConfig) (y : Axis) : Axis := { y with
      pos := some (bound c), overrun := 0, lashDir := d, lashRem := 0, ref := .valid }
    let handed (c : AxisConfig) (z : State) := if x.pos = some (bound c) then z else z.positionChange a x.pos false
    let resynced (c : AxisConfig) (z : State) :=
      if x.ref = .valid then z.setAx a (placed c (z.ax a))
      else (z.setAx a (placed c (z.ax a))).report (.reference a x.ref .valid .resync (some (bound c)))
    let cut (y : Axis) (mode : StopMode) (arrived : Bool) : Axis := { y with
      motion := .stopping, blanking := false, backoff := none,
      fault := y.fault.map (fun f => if f.kind = .obstruction then { f with backoff := .cutShort } else f),
      stop := some ⟨if y.fault = none then .idle false else .fault, mode, 0, false, 0, false, arrived⟩ }
    let rested (y : Axis) := (y.backoff.map Backoff.rest).getD false
    let ended : State := match s.partner a with
      | none => s.setAx a (cut x .coast (rested x))
      | some b => match (s.ax b).backoff with
        | none => s.setAx a (cut x .coast (rested x))
        | some k => (s.setAx a (cut x .coast (rested x))).setAx b (cut (s.ax b) .quick k.rest)
    let atBound (c : AxisConfig) := ∃ t, exec (.stall a) s = .next t ∧ (t.ax a).pos = some (bound c) ∧
      (t.ax a).overrun = 0 ∧ (t.ax a).lashDir = d ∧ (t.ax a).lashRem = 0 ∧ (t.ax a).ref ≠ .unknown ∧
      ((∀ b q, s.partner a = some b → (s.ax b).pos = some q → apart (bound c) q ≤ s.skewLimit a b) → (t.ax a).ref = .valid)
    (x.blanking = true ∨ (x.motion ≠ .driving ∧ ¬ reversing) → exec (.stall a) s = .next s.settle) ∧
    (∀ c, driving → x.homing = true → x.config = some c → atBound c ∧
      exec (.stall a) s = .next (State.settle (handed c
        ((s.setAx a { placed c (coasts .done) with stalled := true }).report
          (.reference a x.ref .valid .home (some (bound c))))))) ∧
    (∀ c p, driving → x.homing = false → x.config = some c → x.pos = some p → inZone c p → atBound c ∧
      exec (.stall a) s = .next (State.settle (handed c (resynced c (s.setAx a (coasts outcome)))))) ∧
    (∀ c p, driving → x.homing = false → x.config = some c → x.pos = some p → ¬ inZone c p →
      exec (.stall a) s = .next (State.settle ((s.raiseFault a .obstruction .stall none x.backoffDue).passSince s))) ∧
    (driving → x.homing = false → x.pos = none →
      exec (.stall a) s = .next (State.settle (s.setAx a (coasts outcome)))) ∧
    (s.partner a ≠ some a →
      (∀ c p, x.blanking = false → reversing → x.config = some c → x.pos = some p → inZone c p → atBound c ∧
        exec (.stall a) s = .next (State.settle (handed c (resynced c (ended.passSince s))))) ∧
      (x.blanking = false → reversing → x.pos = none → exec (.stall a) s = .next (State.settle (ended.passSince s)))) ∧
    (∀ c p, x.blanking = false → reversing → x.config = some c → x.pos = some p → ¬ inZone c p →
      exec (.stall a) s = .next (State.settle ((s.raiseFault a .obstruction .stall none none).passSince s)))) ∧
  (∀ x : Axis,
    let due (z : Pinch) := x.motion = .driving ∧ x.homing = false ∧ (∃ c, x.config = some c ∧ c.pinch = some z) ∧
      (∃ p, x.pos = some p ∧ z.lo ≤ p ∧ p ≤ z.hi) ∧ x.driveDir = z.dir ∧ 0 < z.distance
    ∀ z, x.backoffDue = some z ↔ due z)

/-- A fault (R61 to R64): a first one writes the record with kind, cause, position and entry, a later one only marks it as
further; the backoff outcome of a new record is NONE, and CUT_SHORT of an OBSTRUCTION where the fault ends a backoff (R59,
R61, R78); the report joins the queue; and what the fault does to its own axis, single or of a gang, whoever owns it, by its
motion state (R59, R63), the entry to BACKOFF where one is due (R56, R57), of both axes of a gang (R77). What a first fault of
one axis of a gang does to the other, by its motion state (R76). The end of a joint backoff (R78): the axis the event reaches
stops in the mode of the event, the other by a quick stop, toward FAULT with a fault record and toward IDLE without one, each
at its destination where it rests already; a fault that ends no backoff in that step leaves the other axis as it is. The skew
check of a gang: SKEW on both axes, once in a motion (R74), SUSPECT references at rest, not in SLEEP (R82). What a first fault
tells its owner, and a further one does not (R64 step 3, R162): a link operation ends with FAULT and the first kind; a runner
that is not HALTING takes the reason FAULT, from RUNNING to PAUSING, keeps its first fault, and the ACTIVE move of the axis is
READY again. Choices of the model: log 11, log 21, log 53, log 64, log 65. -/
def Obligations.FaultsAreRecordedAndStopTheAxis : Prop :=
  (∀ (s : State) (a : AxisNo) (k : FaultKind) (c : Cause) (e : Option EntryNo) (z : Option Pinch),
    let ends (step : BackoffStep) := k = .short ∨ k = .skew ∨
      ((k = .obstruction ∨ k = .noStop ∨ k = .keepoutBreach) ∧ step = .reverse)
    let cuts (first : FaultKind) := z = none ∧ (s.ax a).motion = .backoff ∧ first = .obstruction ∧
      ∃ j, (s.ax a).backoff = some j ∧ ends j.step
    ((s.ax a).fault = none → ∃ f, ((s.raiseFault a k c e z).ax a).fault = some f ∧ f.kind = k ∧ f.cause = c ∧
      f.pos = (s.ax a).pos ∧ f.entry = e ∧ f.further = false ∧ (cuts k → f.backoff = .cutShort) ∧
      (¬ cuts k → f.backoff = .none)) ∧
    (∀ g, (s.ax a).fault = some g → ∃ f, ((s.raiseFault a k c e z).ax a).fault = some f ∧ f.kind = g.kind ∧
      f.cause = g.cause ∧ f.pos = g.pos ∧ f.entry = g.entry ∧ f.further = true ∧ (cuts g.kind → f.backoff = .cutShort) ∧
      (¬ cuts g.kind → f.backoff = g.backoff)) ∧
    (∀ b, Measured (s.ax b) ((s.raiseFault a k c e z).ax b)) ∧
    (s.link.reports.length < 16 → ∃ tail, (s.raiseFault a k c e z).link.reports = s.link.reports ++
      .axisFault a (s.ax a).fault.isSome k c (s.ax a).pos z.isSome e (s.ownerTag a) :: tail)) ∧
  (∀ (s : State) (a : AxisNo) (k : FaultKind) (c : Cause) (e : Option EntryNo), s.partner a ≠ some a →
    let x := s.ax a
    let t := s.raiseFault a k c e none
    let y := t.ax a
    let becomes (z : Axis) := y = { z with fault := y.fault, owner := y.owner }
    let atRest : Axis := { x with
      motion := .fault, phase := none, held := false, blanking := false, stop := none, backoff := none, check := none,
      noted := none, link := none, move := none }
    let mode : StopMode := match k with
      | .obstruction | .noStop | .skew | .keepoutBreach => .quick
      | .overheat => .controlled
      | .short | .opened | .keepoutDeadlock | .blockTimeout | .noChannel => .coast
    let ends (step : BackoffStep) := k = .short ∨ k = .skew ∨
      ((k = .obstruction ∨ k = .noStop ∨ k = .keepoutBreach) ∧ step = .reverse)
    (x.motion = .driving → becomes { x with
      motion := .stopping, phase := none, blanking := false, backoff := none,
      check := x.check.map (fun j => { j with pulse := none }),
      stop := some ⟨.fault, mode, s.dutyNow a, decide (mode = .controlled), 0, false, false⟩ }) ∧
    (x.motion = .checking → becomes { x with
      motion := .stopping, phase := none, blanking := false, backoff := none,
      check := x.check.map (fun j => { j with pulse := none }),
      stop := some ⟨.fault, .coast, s.dutyNow a, false, 0, false, false⟩ }) ∧
    (x.motion = .engaging → becomes { x with stop := some ⟨.fault, .coast, 0, false, 0, false, false⟩ }) ∧
    (∀ st, x.motion = .stopping → x.stop = some st → becomes { x with stop := some (if k = .short then
      { st with dest := .fault, mode := .coast, ramping := false } else { st with dest := .fault }) }) ∧
    (∀ b, x.motion = .backoff → x.backoff = some b → ends b.step →
      becomes { x with
        motion := .stopping, blanking := false, backoff := none,
        stop := some ⟨.fault, mode, 0, false, 0, false, b.rest⟩ } ∧
      ∀ f, y.fault = some f → f.kind = .obstruction → f.backoff = .cutShort) ∧
    (∀ b, x.motion = .backoff → x.backoff = some b → ¬ ends b.step → becomes x) ∧
    (x.motion = .idle ∨ x.motion = .blocked → becomes atRest) ∧
    (x.motion = .queued → becomes atRest ∧ ∀ q ∈ t.queue, q.axis ≠ a ∧ q.partner ≠ some a) ∧
    (x.motion = .fault → becomes x)) ∧
  (∀ (s : State) (a : AxisNo) (k : FaultKind) (c : Cause) (e : Option EntryNo) (z : Pinch), s.partner a ≠ some a →
    let t := s.raiseFault a k c e (some z)
    let backsOff (b : AxisNo) := t.ax b = { s.ax b with
      motion := .backoff, phase := none, blanking := false, stop := none, noted := none,
      backoff := some ⟨.brake, (match z.dir with
        | .low => .high
        | .high => .low), z.distance, 0, decide (b = a), (match (s.ax b).stop with
        | some st => st.arrived
        | none => false)⟩, fault := (t.ax b).fault, owner := (t.ax b).owner }
    backsOff a ∧ (∀ b, s.partner a = some b → b ≠ a → backsOff b ∧ (t.ax b).fault = (s.ax b).fault)) ∧
  (∀ (s : State) (a b : AxisNo) (k : FaultKind) (c : Cause) (e : Option EntryNo), s.partner a = some b → b ≠ a →
    (s.ax a).fault = none → (s.ax a).motion ≠ .backoff → k ≠ .skew → k ≠ .noChannel →
    let x := s.ax b
    let y := (s.raiseFault a k c e none).ax b
    let becomes (z : Axis) := y = { z with owner := y.owner }
    let atRest : Axis := { x with
      motion := .idle, phase := none, held := false, blanking := false, stop := none, backoff := none, check := none,
      noted := none, link := none, move := none }
    y.fault = x.fault ∧
    (x.motion = .driving → y.motion = .stopping ∧ y.stop.map Stop.dest = some (.idle false) ∧ y.move = none ∧
      y.stop.map Stop.mode = some .quick) ∧
    (∀ st, x.motion = .stopping ∨ x.motion = .engaging → x.stop = some st →
      (st.dest = .fault → becomes x) ∧
      (st.dest ≠ .fault → y.motion = x.motion ∧ y.stop = some { st with dest := .idle false } ∧ y.move = none ∧
        y.noted = none)) ∧
    (x.motion = .engaging → x.stop = none → becomes { x with
      stop := some ⟨.idle false, .coast, 0, false, 0, false, false⟩, move := none, noted := none }) ∧
    (x.motion = .queued ∨ x.motion = .blocked → becomes atRest) ∧
    (x.motion = .checking → y.motion = .stopping ∧ y.stop.map Stop.dest = some (.idle false) ∧
      y.stop.map Stop.mode = some .coast ∧ y.move = none ∧ y.lastCheck = x.lastCheck) ∧
    (x.motion = .idle → becomes { x with move := none }) ∧
    (x.motion = .fault ∨ x.motion = .backoff → becomes x)) ∧
  (∀ (s : State) (a : AxisNo) (mode : StopMode) (b : AxisNo),
    let x := s.ax b
    let y := (s.cutBackoff a mode).ax b
    (∀ j, b ∈ s.members a → x.backoff = some j → y = { x with
      motion := .stopping, blanking := false, backoff := none,
      fault := x.fault.map (fun f => if f.kind = .obstruction then { f with backoff := .cutShort } else f),
      stop := some ⟨if x.fault = none then .idle false else .fault, if b = a then mode else .quick, 0, false, 0, false,
        j.rest⟩ }) ∧
    (b ∉ s.members a ∨ x.backoff = none → y = x)) ∧
  (∀ (s : State) (a b : AxisNo) (k : FaultKind) (c : Cause) (e : Option EntryNo) (j : Backoff), s.partner a = some b → b ≠ a →
    (s.ax a).motion = .backoff → (s.ax a).backoff = some j → (s.ax b).motion = .backoff →
    let x := s.ax b
    let y := (s.raiseFault a k c e none).ax b
    let becomes (z : Axis) := y = { z with owner := y.owner }
    let ends := k = .short ∨ k = .skew ∨ ((k = .obstruction ∨ k = .noStop ∨ k = .keepoutBreach) ∧ j.step = .reverse)
    (∀ i, ends → x.backoff = some i → becomes { x with
      motion := .stopping, blanking := false, backoff := none,
      fault := x.fault.map (fun f => if f.kind = .obstruction then { f with backoff := .cutShort } else f),
      stop := some ⟨if x.fault = none then .idle false else .fault, .quick, 0, false, 0, false, i.rest⟩ }) ∧
    (¬ ends ∨ x.backoff = none → becomes x)) ∧
  (∀ (s : State) (a : AxisNo),
    (s.partner a = none → s.checkSkew a = s) ∧
    (∀ b, s.partner a = some b → (s.ax a).pos = none ∨ (s.ax b).pos = none → s.checkSkew a = s) ∧
    (∀ b p q c d, s.partner a = some b → (s.ax a).pos = some p → (s.ax b).pos = some q → (s.ax a).config = some c →
      (s.ax b).config = some d →
      let limit := min c.skewLimit d.skewLimit
      let moves (x : Axis) := x.homing = false ∧ x.check = none ∧
        (x.motion = .engaging ∨ x.motion = .driving ∨ x.motion = .stopping ∨ x.motion = .backoff)
      let rests (x : Axis) := x.motion = .idle ∨ x.motion = .queued ∨ x.motion = .blocked ∨ x.motion = .fault
      let moving := moves (s.ax a) ∨ moves (s.ax b)
      let still := rests (s.ax a) ∧ rests (s.ax b) ∧ s.power.state ≠ .sleep
      (apart p q ≤ limit → s.checkSkew a = s) ∧
      (limit < apart p q → moving → (s.ax a).skewRaised = true → s.checkSkew a = s) ∧
      (limit < apart p q → moving → (s.ax a).skewRaised = false → s.checkSkew a =
        (((s.members a).foldl (fun t x => t.raiseFault x .skew (.skew (apart p q)) none none)
          (s.modAll (s.members a) (fun x => { x with skewRaised := true }))).passSince s)) ∧
      (limit < apart p q → ¬ moving → still →
        s.checkSkew a = (s.members a).foldl (fun t x => t.suspect x .skew) s) ∧
      (limit < apart p q → ¬ moving → ¬ still → s.checkSkew a = s))) ∧
  (∀ (s : State) (a : AxisNo) (k : FaultKind) (c : Cause) (e : Option EntryNo) (z : Option Pinch),
    let t := s.raiseFault a k c e z
    ((s.ax a).fault ≠ none → (∀ b, (t.ax b).owner = (s.ax b).owner) ∧ t.runners = s.runners) ∧
    (∀ op b, (s.ax a).fault = none → (s.ax a).owner = .link op → b ∈ s.members a →
      (t.ax b).owner = match (s.ax b).owner with
        | .link p => .link (match p.result with
          | some (.fault, some _) => p
          | _ => { p with result := some (.fault, some k), window := none })
        | .none => .none
        | .runner r => .runner r) ∧
    (∀ r run, (s.ax a).fault = none → (s.ax a).owner = .runner r → s.run r = some run →
      t.run r = some (if run.state = .halting then run else { run with
        state := if run.state = .running then .pausing else run.state
        reasons := { run.reasons with fault := true }
        firstFault := if run.firstFault = none then some (a, k) else run.firstFault
        moves := run.moves.mapIdx (fun i m =>
          if m.state = .active ∧ s.moveOn run i a = true then { m with state := .ready } else m) }) ∧
      (∀ q, q ≠ r → t.run q = s.run q) ∧ (∀ b, (t.ax b).owner = (s.ax b).owner))) ∧
  (∀ (s : State) (a : AxisNo) (k : FaultKind),
    ((s.ax a).owner = .none → s.tellOwnerFault a k = s) ∧
    (∀ r run, (s.ax a).owner = .runner r → s.run r = some run →
      let back : Run := { run with
        firstFault := if run.firstFault = none then some (a, k) else run.firstFault
        moves := run.moves.mapIdx (fun i m =>
          if m.state = .active ∧ s.moveOn run i a = true then { m with state := .ready } else m) }
      (run.state = .halting → s.tellOwnerFault a k = s) ∧
      (run.state ≠ .halting → s.tellOwnerFault a k = (s.setRun r (some back)).pauseFor r .fault)))

/-- STANDSTILL of a single axis, by the destination of its stop (R39, R44, R57, R63): FAULT and IDLE at rest with the channel
released; a noted outcome, a position within the tolerance and a second failed correction end the move; else a correction
begins on the same channel where the keep-out question is clear. A correction that the question blocks, that a keep-out block
has reached or whose grant is revoked turns into a stop toward BLOCKED or held, which ends its charge with a grant pass and is
over at the same standstill (R75, R91, R106, R109, R123). BRAKE turns to REVERSE, or, the question blocked, ends the backoff
CUT_SHORT with no fault added (R59, R123); FINISH turns to FAULT with the backoff DONE. Either end releases the channel and
removes the move record. Of a gang (R72, R79), the axis that stops first waits at its outcome, DONE and NEAR among them, or at
its stop, or corrects while its partner goes on or waits; at the second standstill both end together, toward the first of
FAULT, BLOCKED, held, IDLE, the reversal and the end of the test that either has, else with the joint outcome of the two, be
it decided at this standstill or before, and with the skew check of the gang at rest (R82). The question before a correction
is asked for both axes of a gang (R123). A correction of one axis that may not begin gives its partner the same stop (R75). A
joint backoff (R77): the first axis at rest waits; at the second standstill REVERSE begins on both, unless the question is
answered blocked for one of them, which ends it; at the second standstill of FINISH both end, the faulted axis in FAULT with
the backoff DONE, a partner without a fault in IDLE. What the ends toward held, BLOCKED, the reversal and the end of a test
are, RelaysSettle and DriveMarksAndCheckPulses say. Choices of the model: log 10, log 11, log 18, log 39, log 40, log 42, log
48, log 54, log 59, log 61. -/
def Obligations.StandstillReachesTheDestination : Prop :=
  (∀ (s : State) (a : AxisNo), s.power.inReset = false → s.partner a = none →
    let x := s.ax a
    let rest (st : Stop) := s.setAx a { x with stop := some { st with arrived := true, ramping := false } }
    let noted (st : Stop) (o : MoveOutcome) :=
      s.setAx a { x with stop := some { st with arrived := true, ramping := false }, noted := some o }
    (∀ st, x.motion = .stopping → x.stop = some st → st.arrived = false →
      (st.dest = .fault → exec (.standstill a) s =
        .next (State.settle ((((rest st).release a).modAx a Axis.toFault).passSince (rest st)))) ∧
      (∀ k, st.dest = .idle k → exec (.standstill a) s =
        .next (State.settle ((((rest st).release a).modAx a (Axis.toIdle k)).passSince (rest st)))) ∧
      (st.dest = .held → exec (.standstill a) s = .next (State.settle (((rest st).release a).heldRest [a]))) ∧
      (∀ e p, st.dest = .blocked e p → exec (.standstill a) s =
        .next (State.settle ((((rest st).release a).blockedRest [a]).reevaluateRelated a))) ∧
      (st.dest = .reversal → exec (.standstill a) s = .next (State.settle ((rest st).reversalRest [a]))) ∧
      (st.dest = .checkDone → exec (.standstill a) s = .next (State.settle ((rest st).checkRest [a]))) ∧
      (∀ k o, st.dest = .completion k → x.noted = some o → o = .done ∨ o = .near ∨ o = .atEnd ∨ o = .endEarly →
        exec (.standstill a) s = .next (State.settle ((((rest st).release a).finish [a] o).engine))) ∧
      (∀ k m p, st.dest = .completion k → x.noted = none → x.move = some m → x.pos = some p →
        (apart m.target p ≤ m.profile.tolerance → exec (.standstill a) s =
          .next (State.settle ((((noted st .done).release a).finish [a] .done).engine))) ∧
        (m.profile.tolerance < apart m.target p → 2 ≤ m.corrections → exec (.standstill a) s =
          .next (State.settle ((((noted st .near).release a).finish [a] .near).engine))) ∧
        (∀ d, m.profile.tolerance < apart m.target p → m.corrections < 2 → k = .correct →
          d = (if p < m.target then .high else .low) → s.ask a [d] = none → exec (.standstill a) s =
            .next (State.settle (s.setAx a { x with
              motion := .driving, phase := some .correct, rampCounts := 0, blanking := true, stop := none, driveDir := d,
              noStop := false, move := some { m with corrections := m.corrections + 1 } })))) ∧
      (∀ k m p, st.dest = .completion k → x.noted = none → x.move = some m → x.pos = some p →
        m.profile.tolerance < apart m.target p → m.corrections < 2 → (∀ q ∈ s.queue, q.axis ≠ a ∧ q.partner ≠ some a) →
        let turned (dest : Dest) :=
          let v := s.setAx a { x with stop := some { st with dest := dest } }
          let w := if st.revoked = true then v else v.grantPass
          (w.setAx a { x with stop := some { st with dest := dest, arrived := true, ramping := false } }).release a
        let blocks (e : EntryNo) (q : AxisNo) := exec (.standstill a) s =
          .next (State.settle (((turned (.blocked e q)).blockedRest [a]).reevaluateRelated a))
        (k = .held → exec (.standstill a) s = .next (State.settle ((turned .held).heldRest [a]))) ∧
        (∀ e q, k = .blocked e q → blocks e q) ∧
        (∀ e q, k = .correct → s.ask a [if p < m.target then .high else .low] = some (e, q) → blocks e q))) ∧
    (∀ k, x.motion = .backoff → x.backoff = some k → k.rest = false →
      (k.step = .brake → s.ask a [k.dir] = none → exec (.standstill a) s = .next (State.settle
        (s.setAx a { x with
          driveDir := k.dir, blanking := true, noStop := false,
          backoff := some { k with step := .reverse, count := 0, rest := false } }))) ∧
      (let rested := s.setAx a { x with backoff := some { k with rest := true } }
        let ends (z : Axis) := exec (.standstill a) s = .next (State.settle (((rested.release a).setAx a z).passSince rested))
        (∀ hit, k.step = .brake → s.ask a [k.dir] = some hit →
          (x.fault = none → ends (x.toIdle false)) ∧
          (∀ f, x.fault = some f → ends { x.toFault with
            fault := some (if f.kind = .obstruction then { f with backoff := .cutShort } else f) })) ∧
        (k.step = .finish →
          (k.faulted = true → ends { x.toFault with fault := x.fault.map (fun f => { f with backoff := .done }) }) ∧
          (k.faulted = false → ends (if x.fault = none then x.toIdle false else x.toFault)))) ∧
      (k.step = .reverse → exec (.standstill a) s = .next s.settle)) ∧
    ((x.motion ≠ .stopping ∧ x.motion ≠ .backoff) ∨ (∃ st, x.motion = .stopping ∧ x.stop = some st ∧ st.arrived = true) →
      exec (.standstill a) s = .next s.settle)) ∧
  (∀ (x : Axis) (keep : Bool),
    let atRest (m : Motion) (record : Option MoveRec) : Axis := { x with
      motion := m, phase := none, held := false, blanking := false, stop := none, backoff := none, check := none,
      noted := none, link := none, move := record }
    x.toFault = atRest .fault none ∧ x.toIdle keep = atRest .idle (if keep = true then x.move else none)) ∧
  (∀ (s : State) (a b : AxisNo) (st : Stop), s.power.inReset = false → s.partner a = some b → b ≠ a →
    (s.ax a).motion = .stopping → (s.ax a).stop = some st → st.arrived = false →
    let x := s.ax a
    let y := s.ax b
    let atRest : Stop := { st with arrived := true, ramping := false }
    let rest := s.setAx a { x with stop := some atRest }
    let moving := y.motion = .engaging ∨ y.motion = .driving ∨ y.motion = .backoff ∨ y.motion = .checking ∨
      (y.motion = .stopping ∧ ∃ sb, y.stop = some sb ∧ sb.arrived = false)
    let standing (t : State) := if (∀ c ∈ t.members a, (t.ax c).motion = .idle ∨ (t.ax c).motion = .queued ∨
      (t.ax c).motion = .blocked ∨ (t.ax c).motion = .fault) then t.checkSkew a else t
    let ms := s.members a
    let asked (m : MoveRec) (p : Nat) (k : Corr) (r : StopReq) := match k with
      | .held => r = .revoke
      | .blocked e q => r = .block e q
      | .correct => ∃ e q, r = .block e q ∧ (s.ask a [if p < m.target then .high else .low] = some (e, q) ∨
        (s.ask a [if p < m.target then .high else .low] = none ∧ s.ask b (s.nowDirs b) = some (e, q)))
    let turned (r : StopReq) : State := s.setAx a { x with stop := some { st with dest := r.dest } }
    let arrives (w : State) (r : StopReq) : State := w.setAx a { x with stop := some { atRest with dest := r.dest } }
    let decides (o : MoveOutcome) := ∃ m p, (∃ k, st.dest = .completion k) ∧ x.noted = none ∧ x.move = some m ∧
      x.pos = some p ∧ ((apart m.target p ≤ m.profile.tolerance ∧ o = .done) ∨
        (m.profile.tolerance < apart m.target p ∧ 2 ≤ m.corrections ∧ o = .near))
    let comes (z : State) := (z = rest ∧ ((∀ k, st.dest ≠ .completion k) ∨ x.noted ≠ none)) ∨
      (∃ o, decides o ∧ z = s.setAx a { x with stop := some atRest, noted := some o })
    (∀ z, moving → comes z → exec (.standstill a) s = .next z.settle) ∧
    (∀ m p d, st.dest = .completion .correct → x.noted = none → x.move = some m → x.pos = some p →
      m.profile.tolerance < apart m.target p → m.corrections < 2 → d = (if p < m.target then .high else .low) →
      s.ask a [d] = none → s.ask b (s.nowDirs b) = none →
      exec (.standstill a) s = .next (State.settle (s.setAx a { x with
        motion := .driving, phase := some .correct, rampCounts := 0, blanking := true, stop := none, driveDir := d,
        noStop := false, move := some { m with corrections := m.corrections + 1 } }))) ∧
    (∀ k m p r, st.dest = .completion k → x.noted = none → x.move = some m → x.pos = some p →
      m.profile.tolerance < apart m.target p → m.corrections < 2 → asked m p k r →
      (∀ q ∈ s.queue, q.axis ≠ a ∧ q.axis ≠ b ∧ q.partner ≠ some a ∧ q.partner ≠ some b) →
      (moving → exec (.standstill a) s =
        .next (State.settle (arrives (((turned r).stopAxis b r).passSince s) r))) ∧
      (∀ sb, y.motion = .stopping → y.stop = some sb → sb.arrived = true → sb.dest ≠ .fault →
        let v := arrives ((turned r).passSince s) r
        (r ≠ .revoke → exec (.standstill a) s = .next (State.settle
          (ms.foldl State.reevaluateRelated (standing ((v.releaseAll ms).blockedRest ms))))) ∧
        (r = .revoke → (∀ e q, sb.dest ≠ .blocked e q) → exec (.standstill a) s =
          .next (State.settle (standing ((v.releaseAll ms).heldRest ms)))))) ∧
    (∀ sb z, y.motion = .stopping → y.stop = some sb → sb.arrived = true → comes z →
      (let fault := st.dest = .fault ∨ sb.dest = .fault
        let blocked := ∃ e q, st.dest = .blocked e q ∨ sb.dest = .blocked e q
        let held := st.dest = .held ∨ sb.dest = .held
        let idle := ∃ k, st.dest = .idle k ∨ sb.dest = .idle k
        let reversal := st.dest = .reversal ∨ sb.dest = .reversal
        let checkDone := st.dest = .checkDone ∨ sb.dest = .checkDone
        let ends (t : State) := exec (.standstill a) s = .next t.settle
        let freed := z.releaseAll ms
        let settled := (freed.modAll ms Axis.rested).passSince z
        (¬ blocked → fault ∨ (¬ held ∧ idle) → ends (standing settled)) ∧
        (blocked → fault → ends (ms.foldl State.reevaluateRelated (standing settled))) ∧
        (¬ fault → blocked → ends (ms.foldl State.reevaluateRelated (standing (freed.blockedRest ms)))) ∧
        (¬ fault → ¬ blocked → held → ends (standing (freed.heldRest ms))) ∧
        (¬ fault → ¬ blocked → ¬ held → ¬ idle → reversal → ends (standing (z.reversalRest ms))) ∧
        (¬ fault → ¬ blocked → ¬ held → ¬ idle → ¬ reversal → checkDone → ends (standing (z.checkRest ms)))) ∧
      (∀ oa ob : MoveOutcome, (∃ k, st.dest = .completion k) → (∃ k, sb.dest = .completion k) →
        (z.ax a).noted = some oa → y.noted = some ob →
        let joint : MoveOutcome := if oa = .endEarly ∨ ob = .endEarly then .endEarly
          else if oa = .near ∨ ob = .near then .near
          else if oa = .atEnd ∧ ob = .atEnd then .atEnd
          else .done
        exec (.standstill a) s = .next (State.settle
          (standing (((z.releaseAll ms).finish ms joint).engine)))))) ∧
  (∀ (s : State) (a b : AxisNo) (k j : Backoff), s.power.inReset = false → s.partner a = some b → b ≠ a →
    (s.ax a).motion = .backoff → (s.ax a).backoff = some k → k.rest = false →
    (s.ax b).motion = .backoff → (s.ax b).backoff = some j →
    let x := s.ax a
    let y := s.ax b
    let ms := s.members a
    let rest := s.setAx a { x with backoff := some { k with rest := true } }
    let standing (t : State) := if (∀ c ∈ t.members a, (t.ax c).motion = .idle ∨ (t.ax c).motion = .queued ∨
      (t.ax c).motion = .blocked ∨ (t.ax c).motion = .fault) then t.checkSkew a else t
    let both := j.step = k.step ∧ j.rest = true
    let reversed (z : Axis) (n : Backoff) : Axis := { z with
      driveDir := n.dir, blanking := true, noStop := false,
      backoff := some { n with step := .reverse, count := 0, rest := false } }
    let clear := s.ask a [k.dir] = none ∧ s.ask b [k.dir] = none
    let ended (z : Axis) (n : Backoff) : Axis :=
      if n.faulted = true then { z.toFault with fault := z.fault.map (fun f => { f with backoff := .done }) }
      else if z.fault = none then z.toIdle false
      else z.toFault
    (k.step ≠ .reverse → ¬ both → exec (.standstill a) s = .next rest.settle) ∧
    (k.step = .brake → both → clear →
      exec (.standstill a) s = .next (State.settle ((s.setAx a (reversed x k)).setAx b (reversed y j)))) ∧
    (k.step = .brake → both → ¬ clear → exec (.standstill a) s = .next (State.settle (standing
      (((((rest.cutBackoff a .quick).releaseAll ms).modAll ms Axis.rested).passSince rest))))) ∧
    (k.step = .finish → both → exec (.standstill a) s = .next (State.settle (standing
      ((((rest.releaseAll ms).setAx a (ended x k)).setAx b (ended y j)).passSince rest))))) ∧
  (∀ x : Axis,
    (x.stop.map Stop.dest = some .fault → x.rested = x.toFault) ∧
    (∀ keep, x.stop.map Stop.dest = some (.idle keep) → x.rested = x.toIdle keep) ∧
    (x.stop.map Stop.dest ≠ some .fault → (∀ keep, x.stop.map Stop.dest ≠ some (.idle keep)) → x.rested = x.toIdle false))


/-- HEAT_TICK (R47, R48, R198): 10 ms pass. An interval driven at one constant duty adds that duty, up to the limit; an
interval not driven takes 20 off; a duty that changed within the interval adds a value between the least and the greatest (the
spec gives none: log 2); the duty applied is that of R36 in DRIVING and in REVERSE, 25 % in a pulse of a winding test (R67),
the linear fall over 100 ms of a controlled stop in ten steps rounded down (R40, log 32), and 0 in every other motion state
and step (R23), where the axis cools; an interval takes up its least and greatest duty, the duty at its end included; the
lockout sets at the limit and clears at 60 % of it. When every axis has its new heat, an axis that has reached its limit in
DRIVING 200 counts or more from its target, or at no known distance, takes OVERHEAT with the remaining distance, and the next
interval of every axis begins with the duty applied then. In SLEEP heat stands and the second counter counts. Every timer that
runs advances by 10 ms and stops at the value at which its own event fires (log 4): the elapsed time and the TIMING gates of a
RUNNING runner, the jog windows, in ACTIVE the time in BLOCKED, the cooldowns, the cadence, the supervision window, the idle
dwell, and the ramp of a controlled stop. Choices of the model: log 2, log 4, log 10, log 11, log 32, log 59, log 67. -/
def Obligations.HeatTickHeatsAndCools : Prop :=
  (∀ s : State, s.power.inReset = false → s.power.state.runs = true →
    exec .heatTick s =
      .next (State.settle (((allAxes.foldl State.heatAxis s).raiseOverheats s).openIntervals).tickTimers)) ∧
  (∀ s : State, s.power.inReset = false → s.power.state = .init → exec .heatTick s = .next s.settle) ∧
  (∀ s : State, s.power.inReset = false → s.power.state = .sleep →
    (s.power.wakeCause ≠ none → exec .heatTick s = .next s.settle) ∧
    (s.power.wakeCause = none → s.power.sleepTicks < 99 → exec .heatTick s = .next (State.settle
      { s with power := { s.power with sleepTicks := s.power.sleepTicks + 1 } })) ∧
    (s.power.wakeCause = none → 99 ≤ s.power.sleepTicks → exec .heatTick s = .next (State.settle
      { s with power := { s.power with sleepTicks := 0, sleepTime := min 65535 (s.power.sleepTime + 1) } }))) ∧
  (∀ (s : State) (a : AxisNo) (c : AxisConfig) (d : Nat), (s.ax a).config = some c → (s.ax a).dutyLo = d →
    (s.ax a).dutyHi = d → s.dutyNow a = d → (∀ st, (s.ax a).stop = some st → st.ramping = false) →
    let cap := c.heatLimit * 10000
    let h := if d = 0 then (s.ax a).heat - 20 else min cap ((s.ax a).heat + d)
    ((s.heatAxis a).ax a).heat = h ∧
    ((s.heatAxis a).ax a).lockout = (if cap ≤ h ∧ d ≠ 0 then true else (s.ax a).lockout && !decide (h * 100 ≤ cap * 60)) ∧
    (∀ b, b ≠ a → ((s.heatAxis a).ax b).heat = (s.ax b).heat ∧ ((s.heatAxis a).ax b).lockout = (s.ax b).lockout)) ∧
  (∀ (x : Axis) (cap free : Nat), x.dutyLo ≤ x.dutyHi → 0 < x.dutyHi →
    heatAfter cap free x ≤ cap ∧ heatAfter cap free x ≤ x.heat + x.dutyHi ∧
    (x.heat + x.dutyLo ≤ cap → x.heat + x.dutyLo ≤ heatAfter cap free x)) ∧
  (∀ (s before : State),
    let far (a : AxisNo) := ∀ m p, (s.ax a).move = some m → (s.ax a).pos = some p → 200 ≤ apart m.target p
    let due (a : AxisNo) := (s.ax a).motion = .driving ∧ far a ∧ ∃ c, (s.ax a).config = some c ∧
      (before.ax a).heat < c.heatLimit * 10000 ∧ (s.ax a).heat = c.heatLimit * 10000
    ((∀ a, ¬ due a) → s.raiseOverheats before = s) ∧
    (∀ a, due a → (∀ b, b ≠ a → ¬ due b) → s.raiseOverheats before =
      (s.raiseFault a .overheat (.remaining (match (s.ax a).move, (s.ax a).pos with
        | some m, some p => some (apart m.target p)
        | _, _ => none)) none none).passSince s)) ∧
  (∀ (s : State) (a : AxisNo),
    s.openIntervals.ax a = { s.ax a with dutyLo := s.dutyNow a, dutyHi := s.dutyNow a }) ∧
  (∀ (s : State) (a : AxisNo) (c : AxisConfig), (s.ax a).config = some c →
    ((s.heatAxis a).ax a).stop = (s.ax a).stop.map (fun st =>
      if st.ramping = true then { st with rampTicks := min 10 (st.rampTicks + 1) } else st)) ∧
  (∀ s : State,
    let t := s.tickTimers
    (∀ r, t.run r = (s.run r).map (fun run => if run.state = .running then { run with
      elapsed := min (if run.timeout = 0 then 4294967295 else run.timeout * 100) (run.elapsed + 1)
      moves := run.moves.map (fun m => { m with gates := m.gates.map (fun g => match g with
        | .timing n => .timing (n - 1)
        | .closed => .closed
        | .opened => .opened) }) } else run)) ∧
    (∀ a, t.ax a = { s.ax a with
      owner := (match (s.ax a).owner with
        | .link op => .link { op with window := op.window.map (fun n => min 150 (n + 10)) }
        | .runner r => .runner r
        | .none => .none)
      link := if s.power.state = .active then (s.ax a).link.map (fun l =>
          { l with timer := min (s.link.setup.blockTimeout * 1000) (l.timer + 10) })
        else (s.ax a).link }) ∧
    (∀ c, t.ch c = { s.ch c with cooldown := (s.ch c).cooldown.map (fun n => n - 10) }) ∧
    t = { s with
      axes := t.axes, chans := t.chans, runners := t.runners
      link := { s.link with
        cadence := s.link.cadence.map (fun n => min s.link.setup.cadence (n + 10))
        supervision := (match s.link.supervision with
          | .watching n w => .watching (min w (n + 10)) w
          | .off => .off
          | .lapsed => .lapsed) }
      power := { s.power with dwell := s.power.dwell.map (fun n => min (s.link.setup.dwell * 100) (n + 10)) } }) ∧
  (∀ (s : State) (a : AxisNo),
    let x := s.ax a
    (∀ m ph c, x.motion = .driving → x.move = some m → x.phase = some ph → x.config = some c → s.dutyNow a =
      effectiveDuty m.profile ph x.rampCounts s.store.scales[c.scaleGroup] x.escalated m.forcedCreep (s.leadSkew a)) ∧
    (∀ m c k, x.motion = .backoff → x.move = some m → x.phase = none → x.config = some c → x.backoff = some k →
      k.step = .reverse → s.dutyNow a =
        effectiveDuty m.profile .creep x.rampCounts s.store.scales[c.scaleGroup] x.escalated m.forcedCreep (s.leadSkew a)) ∧
    (x.motion = .backoff → (∀ k, x.backoff = some k → k.step ≠ .reverse) → s.dutyNow a = 0) ∧
    (∀ k d, x.motion = .checking → x.check = some k → k.pulse = some d → s.dutyNow a = 25) ∧
    (x.motion = .checking → (∀ k, x.check = some k → k.pulse = none) → s.dutyNow a = 0) ∧
    (∀ st, x.motion = .stopping → x.stop = some st →
      s.dutyNow a = if st.ramping = true then st.rampFrom * (10 - st.rampTicks) / 10 else 0) ∧
    (x.motion = .stopping → x.stop = none → s.dutyNow a = 0) ∧
    (x.motion = .idle ∨ x.motion = .queued ∨ x.motion = .engaging ∨ x.motion = .blocked ∨ x.motion = .fault →
      s.dutyNow a = 0)) ∧
  (∀ (s : State) (a : AxisNo) (c : AxisConfig), (s.ax a).config = some c →
    let x := s.ax a
    let z : Axis := { x with stop := x.stop.map (fun st =>
      if st.ramping = true then { st with rampTicks := min 10 (st.rampTicks + 1) } else st) }
    let d := (s.setAx a z).dutyNow a
    let y : Axis := { z with dutyLo := min x.dutyLo d, dutyHi := max x.dutyHi d }
    let h := heatAfter (c.heatLimit * 10000) s.freeIndex y
    ((s.heatAxis a).ax a).heat = h ∧
    ((s.heatAxis a).ax a).lockout = (if c.heatLimit * 10000 ≤ h ∧ y.dutyHi ≠ 0 then true
      else x.lockout && !decide (h * 100 ≤ c.heatLimit * 10000 * 60)) ∧
    (s.heatAxis a).freeIndex = (if y.dutyLo = y.dutyHi then s.freeIndex else s.freeIndex + 1)) ∧
  (∀ (x : Axis) (cap free : Nat), (x.dutyHi = 0 → heatAfter cap free x = x.heat - 20) ∧
    (0 < x.dutyHi → x.dutyLo = x.dutyHi → heatAfter cap free x = min cap (x.heat + x.dutyHi))) ∧
  (∀ (s : State) (a : AxisNo), (s.ax a).config = none → s.heatAxis a = s)

/-! ### Events of the drive channels -/

/-- The chosen channel of a grant pass is FREE, in the reach and the lowest such; a pair takes two different ones, the
lower-numbered axis the lowest that leaves one for its partner (R92). Enough channels are reachable, where some channel of the
reach of an axis is not RETIRED, for a gang two different ones, one of each axis's reach (R15 check 8, R88, R96). The queue's
order by priority, then by stamp, is kept by every request that joins and every one that leaves (R89). A pass is made where
the drive stage is READY in ACTIVE or DOZE, and walks the queue in its order (R91, R92): a request whose channels are not all
there, or are still opening, is passed over; one that fits the budget left after the reservation is granted; the first that
does not fit reserves its draw, unless it exceeds the available budget (R93). A grant takes the request from the queue, starts
the relays, and enters ENGAGING on one grant stamp (R84, R86, R106); an open hand-move episode of an axis it takes closes with
a HAND_MOVED report, of a gang that of the axis named first before that of its partner (R18, R34; log 50). A departure that
R91 names makes one pass, none does not. A join takes its place with a new stamp, or on a hold with its old one, and makes a
pass (R88, R112); a gang joins with one request for both axes and the sum of their draws (R72). A join whose reach lacks
channels raises NO_CHANNEL, which names the RETIRED channel of the reach, a free choice of several (R88, R96). Choices of the
model: log 2, log 11, log 24, log 50. -/
def Obligations.GrantsTakeTheirOrder : Prop :=
  ((∀ (reach : BitVec 4) (ok : ChanNo → Bool) (c : ChanNo), pickChan reach ok = some c ↔
     reach.getLsbD c.val = true ∧ ok c = true ∧ ∀ d : ChanNo, d < c → ¬ (reach.getLsbD d.val = true ∧ ok d = true)) ∧
   (∀ (ra rb : BitVec 4) (ok : ChanNo → Bool) (c d : ChanNo), pickPair ra rb ok = some (c, d) ↔
     ra.getLsbD c.val = true ∧ ok c = true ∧ pickChan rb (fun e => ok e && e != c) = some d ∧
     ∀ e : ChanNo, e < c → ¬ (ra.getLsbD e.val = true ∧ ok e = true ∧ (pickChan rb (fun g => ok g && g != e)).isSome = true)) ∧
   (∀ (s : State) (a : AxisNo), s.reachable [a] = true ↔
     ∃ (k : AxisConfig) (c : ChanNo), (s.ax a).config = some k ∧ k.reach.getLsbD c.val = true ∧ (s.ch c).state ≠ .retired) ∧
   (∀ (s : State) (a b : AxisNo), s.reachable [a, b] = true ↔
     ∃ (k j : AxisConfig) (c d : ChanNo), (s.ax a).config = some k ∧ (s.ax b).config = some j ∧ c ≠ d ∧
       k.reach.getLsbD c.val = true ∧ (s.ch c).state ≠ .retired ∧
       j.reach.getLsbD d.val = true ∧ (s.ch d).state ≠ .retired)) ∧
  (let ordered (q : List GrantRequest) := q.Pairwise (fun x y => y.ahead x = false)
   (∀ (q : GrantRequest) (l : List GrantRequest), ordered l → ordered (insertRequest q l)) ∧
   (∀ (q : GrantRequest) (l : List GrantRequest), (insertRequest q l).Perm (q :: l)) ∧
   (∀ (s : State) (a : AxisNo), ordered s.queue → ordered (s.leaveQueue a).queue) ∧
   (∀ x y : GrantRequest, x.ahead y = true ↔ y.priority < x.priority ∨ (x.priority = y.priority ∧ x.stamp < y.stamp))) ∧
  (∀ s : State,
    let may := s.power.stage = .ready ∧ (s.power.state = .active ∨ s.power.state = .doze)
    (may → s.grantPass = passWalk s.queue none s) ∧ (¬ may → s.grantPass = s)) ∧
  (∀ (t before : State),
    let left := ∃ q ∈ before.queue, q ∉ t.queue ∧ (t.ax q.axis).motion ≠ .engaging
    let dropped := ∃ a, (before.ax a).charged = true ∧ (t.ax a).charged = false
    (left ∨ dropped → t.passSince before = t.grantPass) ∧ (¬ left → ¬ dropped → t.passSince before = t)) ∧
  (∀ (s : State) (q : GrantRequest) (qs : List GrantRequest) (reserved : Option Nat),
    passWalk [] reserved s = s ∧
    (s.chooseChans q = none ∨ s.supply.avail < q.draw → passWalk (q :: qs) reserved s = passWalk qs reserved s) ∧
    (∀ c d, s.chooseChans q = some (c, d) → q.draw ≤ s.supply.avail →
      (s.inUse + reserved.getD 0 + q.draw ≤ s.supply.avail →
        passWalk (q :: qs) reserved s = passWalk qs reserved (s.grant q c d)) ∧
      (s.supply.avail < s.inUse + reserved.getD 0 + q.draw →
        passWalk (q :: qs) reserved s = passWalk qs (some (reserved.getD q.draw)) s))) ∧
  (∀ (s : State) (q : GrantRequest),
    let free (c : ChanNo) := decide ((s.ch c).state = .free)
    let reach (a : AxisNo) : BitVec 4 := match (s.ax a).config with
      | some c => c.reach
      | none => 0
    let opens (a : AxisNo) := ∃ c, (s.ch c).axis = some a ∧
      (((s.ch c).state = .settling ∧ (s.ch c).closing = some false) ∨ ((s.ch c).state = .tripped ∧ (s.ch c).opening = true))
    (∀ c d, q.partner = none → (s.chooseChans q = some (c, d) ↔
      ¬ opens q.axis ∧ d = none ∧ pickChan (reach q.axis) free = some c)) ∧
    (∀ b c d, q.partner = some b → (s.chooseChans q = some (c, d) ↔
      ¬ opens q.axis ∧ ¬ opens b ∧ ∃ e, d = some e ∧ pickPair (reach q.axis) (reach b) free = some (c, e)))) ∧
  (∀ (s : State) (q : GrantRequest) (c : ChanNo),
    let engaged (a : AxisNo) (n : Nat) : Axis := { s.ax a with
      motion := .engaging, held := false, stop := none, grantStamp := n, episode := none }
    let closing (k : ChanNo) (a : AxisNo) : Channel := { s.ch k with
      state := .settling, closing := some true, axis := some a }
    let told (a : AxisNo) (t : State) : State := match (s.ax a).episode with
      | none => t
      | some e => t.report (.handMoved a e.net (s.ax a).pos (s.ax a).ref)
    (q.partner = none →
      let t := s.grant q c none
      t.queue = s.queue.filter (fun r => !(decide (r.axis = q.axis) || decide (r.partner = some q.axis))) ∧
      t.supply = { s.supply with grantCounter := s.supply.grantCounter + 1 } ∧
      t.ax q.axis = engaged q.axis s.supply.grantCounter ∧ (∀ a, a ≠ q.axis → t.ax a = s.ax a) ∧
      t.ch c = closing c q.axis ∧ (∀ k, k ≠ c → t.ch k = s.ch k) ∧
      t.link = (told q.axis s).link ∧ t.power = s.power ∧ t.runners = s.runners ∧ t.stamps = s.stamps) ∧
    (∀ b d, q.partner = some b → b ≠ q.axis → d ≠ c →
      let t := s.grant q c (some d)
      t.queue = s.queue.filter (fun r => !(decide (r.axis = q.axis) || decide (r.partner = some q.axis))) ∧
      t.supply = { s.supply with grantCounter := s.supply.grantCounter + 1 } ∧
      t.ax q.axis = engaged q.axis s.supply.grantCounter ∧ t.ax b = engaged b s.supply.grantCounter ∧
      (∀ a, a ≠ q.axis → a ≠ b → t.ax a = s.ax a) ∧
      t.ch c = closing c q.axis ∧ t.ch d = closing d b ∧ (∀ k, k ≠ c → k ≠ d → t.ch k = s.ch k) ∧
      t.link = (told b (told q.axis s)).link ∧ t.power = s.power ∧ t.runners = s.runners ∧ t.stamps = s.stamps)) ∧
  (∀ s : State,
    (∀ c, (s.ch c).state ≠ .free → s.grantPass.ch c = s.ch c) ∧
    (∀ a, (∀ q ∈ s.queue, q.axis ≠ a ∧ q.partner ≠ some a) → s.grantPass.ax a = s.ax a) ∧
    s.grantPass.queue.Sublist s.queue) ∧
  (∀ (s : State) (a : AxisNo) (held : Bool),
    let x := s.ax a
    let priority := match x.check, x.move with
      | none, some m => m.priority
      | _, _ => 1
    let old := match x.check, x.move with
      | some k, _ => k.stamp
      | none, some m => m.stamp
      | none, none => 0
    let stamp := if held = true then old else s.stamps
    let draw := match x.config with
      | some c => c.draw
      | none => 0
    (s.reachable [a] = true → ∃ t : State, s.joinQueue [a] held = t.grantPass ∧
      t.queue = insertRequest ⟨a, none, priority, stamp, draw, held⟩ s.queue ∧
      t.stamps = (if held = true then s.stamps else s.stamps + 1) ∧
      t.ax a = { x with
        motion := .queued, phase := none, held := held, blanking := false, stop := none, backoff := none, noted := none,
        link := none, move := x.move.map (fun m => { m with stamp := stamp, reversed := false }),
        check := x.check.map (fun k => { k with stamp := stamp }) } ∧
      (∀ b, b ≠ a → t.ax b = s.ax b) ∧ t.chans = s.chans ∧ t.supply = s.supply ∧
      t.power = { s.power with
        dwell := none, state := if s.power.state = .doze then .active else s.power.state,
        stage := if s.power.stage = .off ∧ (s.power.state = .active ∨ s.power.state = .doze) then .waking
          else s.power.stage }) ∧
    (s.reachable [a] = false → s.joinQueue [a] held = (s.failJoin [a]).passSince s)) ∧
  (∀ (s : State) (a b : AxisNo) (held : Bool), a ≠ b →
    let x := s.ax a
    let priority := match x.check, x.move with
      | none, some m => m.priority
      | _, _ => 1
    let old := match x.check, x.move with
      | some k, _ => k.stamp
      | none, some m => m.stamp
      | none, none => 0
    let stamp := if held = true then old else s.stamps
    let draw (y : AxisNo) := match (s.ax y).config with
      | some c => c.draw
      | none => 0
    let queued (y : Axis) : Axis := { y with
      motion := .queued, phase := none, held := held, blanking := false, stop := none, backoff := none, noted := none,
      link := none, move := y.move.map (fun m => { m with stamp := stamp, reversed := false }),
      check := y.check.map (fun k => { k with stamp := stamp }) }
    (s.reachable [a, b] = true → ∃ t : State, s.joinQueue [a, b] held = t.grantPass ∧
      t.queue = insertRequest ⟨a, some b, priority, stamp, draw a + draw b, held⟩ s.queue ∧
      t.stamps = (if held = true then s.stamps else s.stamps + 1) ∧
      t.ax a = queued x ∧ t.ax b = queued (s.ax b) ∧ (∀ c, c ≠ a → c ≠ b → t.ax c = s.ax c) ∧
      t.chans = s.chans ∧ t.supply = s.supply) ∧
    (s.reachable [a, b] = false → s.joinQueue [a, b] held = (s.failJoin [a, b]).passSince s)) ∧
  (∀ (s : State) (as : List AxisNo),
    let fails := s.modAll as (fun x => { x with motion := .idle, stop := none, backoff := none, link := none })
    let retired := ([0, 1, 2, 3] : List ChanNo).filter (fun c => decide ((s.ch c).state = .retired) &&
      as.any (fun a => (match (s.ax a).config with
        | some k => k.reach
        | none => 0).getLsbD c.val))
    (retired = [] → s.failJoin as = fails.raiseNoChannel as 0) ∧
    (∀ c, retired = [c] → s.failJoin as = fails.raiseNoChannel as c) ∧
    (2 ≤ retired.length → ∃ c ∈ retired,
      retired[Config.retiredPick s.freeIndex retired.length % retired.length]? = some c ∧
      s.failJoin as = ({ fails with freeIndex := s.freeIndex + 1 }).raiseNoChannel as c)) ∧
  (∀ (s : State) (a : AxisNo), s.leaveQueue a =
    { s with queue := s.queue.filter (fun q => !(decide (q.axis = a) || decide (q.partner = some a))) })

/-- SETTLE_CLOSE_END and SETTLE_OPEN_END (R34, R42, R51, R67, R72, R86, R87, R94): a closed relay makes the channel GRANTED
and its single axis drive, or begin its pulses; a jog that was reversed during the settle asks, and drives or goes to BLOCKED;
a recorded destination takes its effect, the channel from closing to opening. Of a gang, the first of the two settle ends does
this for both axes and both channels. A drive begins in RAMP, a HOME in CREEP, with fresh blanking, in the direction of its
move. An opened relay makes the channel FREE, with a grant pass, or leaves a TRIPPED one without its axis, with no pass (R91);
an event that is not due changes nothing: an end of closing on a relay that does not close, an end of opening on one that does
not open, either on a channel that does not settle. What a stop that is over does, by its destination, once its channels are
released (R87): held ends DONE at its target, or enters BLOCKED, or waits held with its old stamp (R110); BLOCKED is entered
anew, or left as R127 says (R125); a reversal ends ALREADY at the new target, enters BLOCKED, or drives back on the same
channel (R51). At a joint end, an axis bound for FAULT stands in FAULT without its record, one bound for IDLE in IDLE, with
its record on a pause alone (R39, R63). Choices of the model: log 10, log 11, log 13, log 18, log 33, log 40, log 42, log 48,
log 54. -/
def Obligations.RelaysSettle : Prop :=
  ((∀ (s : State) (a : AxisNo) (m : MoveRec), (s.ax a).move = some m →
     let x := s.ax a
     s.enterDriving a = State.advance (s.setAx a { x with
       motion := .driving, phase := some (if x.homing = true then .creep else .ramp), rampCounts := 0, blanking := true,
       stop := none, driveDir := (s.moveDir a m).getD x.driveDir, noStop := false, stalled := false, noted := none }) a) ∧
   ∀ (s : State) (c : ChanNo), s.power.inReset = false →
     let x := s.ch c
     let closes (t : State) (d : ChanNo) : State := t.setCh d { s.ch d with state := .granted, closing := none }
     let ends (t : State) := exec (.settleCloseEnd c) s = .next t.settle
     (∀ a, x.state = .settling → x.closing = some true → x.axis = some a → s.partner a = none → s.chanOf a = some c →
       let freed (t : State) : State := t.setCh c { x with state := .settling, closing := some false }
       ((s.ax a).stop = none →
         ((s.ax a).check = none → (∀ m, (s.ax a).move = some m → m.reversed = false) → ends ((closes s c).enterDriving a)) ∧
         (∀ k, (s.ax a).check = some k → ends ((closes s c).setAx a
           { s.ax a with
             motion := .checking, driveDir := .high,
             check := some { k with pulse := some .high, peakHigh := 0, peakLow := 0 } })) ∧
         (∀ m, (s.ax a).check = none → (s.ax a).move = some m → m.reversed = true →
           let u := s.setAx a { s.ax a with move := some { m with reversed := false } }
           (u.anyBlocked [a] = false → ends ((closes u c).enterDriving a)) ∧
           (u.anyBlocked [a] = true → ends (((freed u).blockEntry [a]).passSince s)))) ∧
       (∀ st, (s.ax a).stop = some st →
         (st.dest = .fault → ends (((freed s).modAx a Axis.toFault).passSince s)) ∧
         (∀ k, st.dest = .idle k → ends (((freed s).modAx a (Axis.toIdle k)).passSince s)) ∧
         (st.dest = .held → ends ((freed s).heldRest [a])) ∧
         (∀ e p, st.dest = .blocked e p → ends (((freed s).blockedRest [a]).reevaluateRelated a)))) ∧
     (∀ a b d, x.state = .settling → x.closing = some true → x.axis = some a → s.partner a = some b → b ≠ a →
       s.chanOf a = some c → s.chanOf b = some d → d ≠ c →
       let ms := s.members a
       let standing (t : State) := if (∀ e ∈ t.members a, (t.ax e).motion = .idle ∨ (t.ax e).motion = .queued ∨
         (t.ax e).motion = .blocked ∨ (t.ax e).motion = .fault) then t.checkSkew a else t
       let both (t : State) : State := closes (closes t c) d
       let reversed (y : Axis) := ∃ m, y.move = some m ∧ m.reversed = true
       ((s.ax a).stop = none → (s.ax b).stop = none →
         ((s.ax a).check ≠ none → ends ((both s).modAll ms (fun y => { y with
           motion := .checking, stop := none, driveDir := .high,
           check := y.check.map (fun k => { k with pulse := some .high, peakHigh := 0, peakLow := 0 }) }))) ∧
         ((s.ax a).check = none →
           let u := s.modAll ms (fun y => { y with move := y.move.map (fun m => { m with reversed := false }) })
           let asks := reversed (s.ax a) ∨ reversed (s.ax b)
           (¬ asks ∨ u.anyBlocked ms = false → ends (ms.foldl State.enterDriving (both u))) ∧
           (asks → u.anyBlocked ms = true → ends (standing (((u.releaseAll ms).blockEntry ms).passSince s))))) ∧
       (let has (dest : Dest) := ∃ e ∈ ms, (s.ax e).stop.map Stop.dest = some dest
        let freed := s.releaseAll ms
        let blocked := ∃ e q, has (.blocked e q)
        let idle := ∃ k, has (.idle k)
        let settled := (freed.modAll ms Axis.rested).passSince s
        (¬ blocked → has .fault ∨ (¬ has .held ∧ idle) → ends (standing settled)) ∧
        (blocked → has .fault → ends (ms.foldl State.reevaluateRelated (standing settled))) ∧
        (¬ has .fault → blocked → ends (ms.foldl State.reevaluateRelated (standing (freed.blockedRest ms)))) ∧
        (¬ has .fault → ¬ blocked → has .held → ends (standing (freed.heldRest ms))))) ∧
     (x.state = .settling → x.closing = some false → exec (.settleOpenEnd c) s = .next (State.settle
       (s.setCh c { x with state := .free, closing := none, axis := none }).grantPass)) ∧
     (x.state = .tripped → x.opening = true → exec (.settleOpenEnd c) s = .next (State.settle
       (s.setCh c { x with axis := none, opening := false }))) ∧
     (x.state ≠ .settling → exec (.settleCloseEnd c) s = .next s.settle ∧
       (x.state ≠ .tripped → exec (.settleOpenEnd c) s = .next s.settle)) ∧
     (x.state = .settling → x.closing ≠ some true ∨ x.axis = none → exec (.settleCloseEnd c) s = .next s.settle) ∧
     (x.state = .settling → x.closing ≠ some false → exec (.settleOpenEnd c) s = .next s.settle) ∧
     (x.state = .tripped → x.opening = false → exec (.settleOpenEnd c) s = .next s.settle)) ∧
  (∀ (s : State) (as : List AxisNo),
    let blocked (t : State) := ∃ a ∈ as, t.ask a (t.wantDirs a) ≠ none
    let creep (t : State) : State := if ∀ a ∈ as, (t.ax a).ref = .valid then t else
      t.modAll as (fun x => { x with move := x.move.map (fun m => { m with forcedCreep := true }) })
    let there (t : State) := ∀ a ∈ as, ∃ m p, (t.ax a).move = some m ∧ (t.ax a).pos = some p ∧ m.endFlag = false ∧
      (t.ax a).homing = false ∧ apart m.target p ≤ m.profile.tolerance
    let stopped := s.modAll as (fun x => { x with motion := .idle, phase := none, stop := none, noted := none })
    let u := stopped.passSince s
    let c := creep stopped
    (there u → s.heldRest as = (u.finish as .done).engine) ∧
    (¬ there u → blocked (creep u) → s.heldRest as = ((creep u).blockEntry as).passSince (creep u)) ∧
    (¬ there u → ¬ blocked (creep u) → s.heldRest as = (creep u).joinQueue as true) ∧
    (blocked u → s.blockedRest as = (u.blockEntry as).passSince u) ∧
    (¬ blocked u → there u → s.blockedRest as = (u.finish as .done).engine) ∧
    (¬ blocked u → ¬ there u → s.blockedRest as = (creep u).joinQueue as false) ∧
    (there s → s.reversalRest as = ((s.releaseAll as).finish as .already).engine) ∧
    (¬ there s → blocked c → s.reversalRest as = ((c.releaseAll as).blockEntry as).passSince s) ∧
    (¬ there s → ¬ blocked c → s.reversalRest as = as.foldl State.enterDriving c)) ∧
  (∀ (s : State) (a : AxisNo),
    (s.chanOf a = none → s.release a = s) ∧
    (∀ c, s.chanOf a = some c → s.release a = s.setCh c (if (s.ch c).state = .tripped then { s.ch c with opening := true }
      else { s.ch c with state := .settling, closing := some false }))) ∧
  (∀ (s : State) (a : AxisNo) (as : List AxisNo),
    let holds (c : ChanNo) := (s.ch c).axis = some a ∧ ((s.ch c).state = .granted ∨
      ((s.ch c).state = .settling ∧ (s.ch c).closing = some true) ∨ ((s.ch c).state = .tripped ∧ (s.ch c).opening = false))
    (∀ c, s.chanOf a = some c ↔ holds c ∧ ∀ d, d < c → ¬ holds d) ∧
    s.releaseAll as = as.foldl State.release s) ∧
  (∀ x : Axis,
    (x.stop.map Stop.dest = some .fault → x.rested = x.toFault) ∧
    (∀ keep, x.stop.map Stop.dest = some (.idle keep) → x.rested = x.toIdle keep) ∧
    (x.stop.map Stop.dest ≠ some .fault → (∀ keep, x.stop.map Stop.dest ≠ some (.idle keep)) → x.rested = x.toIdle false) ∧
    x.toFault = { x.toIdle false with motion := .fault } ∧
    ∀ keep, x.toIdle keep = { x with
      motion := .idle, phase := none, held := false, blanking := false, stop := none, backoff := none, check := none,
      noted := none, link := none, move := if keep = true then x.move else none })

/-- SHORT_TRIP and COOLDOWN_END (R94, R95, R96): a trip of a GRANTED channel is counted, begins the cooldown of 1000 ms and
raises FAULT SHORT on its axis, whose winding test, pulses and stop alike, so ends with the result SHORT (R68); after cooldown
and opening the channel is FREE at its first and second trip and RETIRED at its third, when the requests it strands take
NO_CHANNEL, of a gang both axes, the first one first, and with no partner stop (R76); an event that is not due changes
nothing. Choices of the model: log 4, log 10, log 11, log 18, log 24, log 48. -/
def Obligations.TripsAndRetirement : Prop :=
  (∀ (s : State) (c : ChanNo), s.power.inReset = false →
     let x := s.ch c
     let tripped := s.setCh c { x with state := .tripped, trips := min 3 (x.trips + 1), cooldown := some 1000, opening := false }
     (∀ a, x.state = .granted → x.axis = some a → (s.ax a).motion ≠ .checking →
       (∀ st, (s.ax a).stop = some st → st.dest ≠ .checkDone) → exec (.shortTrip c) s = .next (State.settle
         ((tripped.raiseFault a .short (.channel c) none none).passSince s))) ∧
     (∀ a, x.state = .granted → x.axis = some a → (s.ax a).motion = .checking → exec (.shortTrip c) s = .next (State.settle
       (((tripped.setAx a { s.ax a with lastCheck := some .short }).raiseFault a .short (.channel c) none none).passSince s))) ∧
     (∀ a st, x.state = .granted → x.axis = some a → (s.ax a).motion = .stopping → (s.ax a).stop = some st →
       st.dest = .checkDone → exec (.shortTrip c) s = .next (State.settle
       (((tripped.setAx a { s.ax a with lastCheck := some .short }).raiseFault a .short (.channel c) none none).passSince s))) ∧
     (x.state ≠ .granted ∨ x.axis = none → exec (.shortTrip c) s = .next s.settle) ∧
     (x.state = .tripped → x.axis = none → x.trips < 3 → exec (.cooldownEnd c) s = .next (State.settle
       (s.setCh c { x with state := .free, cooldown := none }).grantPass)) ∧
     (x.state = .tripped → x.axis = none → 3 ≤ x.trips →
       let r := s.setCh c { x with state := .retired, cooldown := none }
       exec (.cooldownEnd c) s = .next (State.settle
         (((r.queue.filter (fun q => !r.reachable q.axes)).foldl (fun t q => (q.axis :: q.partner.toList).foldl
           (fun v a => v.raiseFault a .noChannel (.channel c) none none) t) r).passSince r))) ∧
     (x.state ≠ .tripped ∨ x.axis ≠ none → exec (.cooldownEnd c) s = .next s.settle)) ∧
  (∀ (s : State) (a b : AxisNo) (c : ChanNo),
    let raised := s.raiseFault a .noChannel (.channel c) none none
    s.raiseNoChannel [a] c = raised ∧
    s.raiseNoChannel [a, b] c = raised.raiseFault b .noChannel (.channel c) none none ∧
    (s.partner a = some b → b ≠ a → (∀ r, (s.ax a).owner ≠ .runner r) →
      raised.ax b = { s.ax b with owner := (raised.ax b).owner }))

/-! ### Events of the runners -/

/-- AFTER_DELAY_EXPIRY, RUN_TIMEOUT, RUNNER_PAUSED and HALTING_END (R143, R161, R165, R168, R169): a TIMING gate of a RUNNING
runner opens, and a PENDING move with all its gates OPEN is READY; the elapsed time counts in RUNNING alone, up to the run
timeout, and a timeout that it has reached halts the run; a PAUSING runner at rest is PAUSED and reported; a HALTING one at
rest reports RUN_END, releases its claims and is FREE, but for end kind RESET, whose run the completion of the soft reset ends
(R172). RUNNER_PAUSED and HALTING_END name the same moment, a runner's coming to rest, so that either does in each state what
that moment does there, and so does every settling (log 10). Choices of the model: log 4, log 10, log 11, log 18. -/
def Obligations.RunnerEventsFollowTheRunnerState : Prop :=
  (∀ (s : State) (r : RunnerNo), s.power.inReset = false →
    (s.run r = none → (∀ i g, exec (.afterDelayExpiry r i g) s = .next s.settle) ∧
      exec (.runTimeout r) s = .next s.settle ∧ exec (.runnerPaused r) s = .next s.settle ∧
      exec (.haltingEnd r) s = .next s.settle) ∧
    (∀ run, s.run r = some run →
      let rests := ∀ a ∈ run.claim, (s.ax a).motion = .idle ∨ (s.ax a).motion = .fault
      (∀ i g m n, run.state = .running → run.moves[i]? = some m → m.state = .pending → m.gates[g]? = some (.timing n) →
        let gates := m.gates.set g .opened
        exec (.afterDelayExpiry r i g) s = .next (State.settle (s.setRun r (some { run with
          moves := run.moves.set i ⟨if ∀ x ∈ gates, x = .opened then .ready else .pending, gates⟩ })))) ∧
      (∀ i g, run.state ≠ .running → exec (.afterDelayExpiry r i g) s = .next s.settle) ∧
      (run.state = .running → run.timeout ≠ 0 → run.timeout * 100 ≤ run.elapsed → exec (.runTimeout r) s = .next (State.settle
        (((s.setRun r (some { run with state := .halting, endKind := some .timeout })).stopAll run.claim .halt).passSince s))) ∧
      (run.state ≠ .running ∨ run.timeout = 0 ∨ run.elapsed < run.timeout * 100 → exec (.runTimeout r) s = .next s.settle) ∧
      (run.state = .running → run.tick.elapsed =
        min (if run.timeout = 0 then 4294967295 else run.timeout * 100) (run.elapsed + 1)) ∧
      (run.state ≠ .running → run.tick = run) ∧
      (∀ i g, (∀ m, run.moves[i]? = some m → m.state ≠ .pending) → exec (.afterDelayExpiry r i g) s = .next s.settle) ∧
      (∀ c, c = .runnerPaused r ∨ c = .haltingEnd r →
        (run.state = .pausing → rests → exec c s = .next (State.settle
          ((s.setRun r (some { run with state := .paused })).report
            (.runPaused r run.slot run.reasons run.firstFault run.planError run.doneCount run.elapsed)))) ∧
        (∀ k, run.state = .halting → run.endKind = some k → k ≠ .reset → rests → exec c s =
          .next (State.settle (((s.report (.runEnd r run.slot k run.elapsed run.doneCount run.moves.length
            run.firstFault)).modAll run.claim (fun x => { x with owner := .none, escalated := false })).setRun r none))) ∧
        (run.state = .halting → run.endKind = some .reset ∨ run.endKind = none → exec c s = .next s.settle)) ∧
      (¬ rests ∨ run.state = .running ∨ run.state = .paused →
        exec (.runnerPaused r) s = .next s.settle ∧ exec (.haltingEnd r) s = .next s.settle))) ∧
  (∀ (s : State) (r : RunnerNo),
    (s.run r = none → s.restRunner r = s) ∧
    (∀ run, s.run r = some run →
      let rests := ∀ a ∈ run.claim, (s.ax a).motion = .idle ∨ (s.ax a).motion = .fault
      (run.state = .pausing → rests → s.restRunner r = (s.setRun r (some { run with state := .paused })).report
        (.runPaused r run.slot run.reasons run.firstFault run.planError run.doneCount run.elapsed)) ∧
      (∀ k, run.state = .halting → run.endKind = some k → k ≠ .reset → rests → s.restRunner r =
        ((s.report (.runEnd r run.slot k run.elapsed run.doneCount run.moves.length run.firstFault)).modAll run.claim
          (fun x => { x with owner := .none, escalated := false })).setRun r none) ∧
      (¬ rests ∨ run.state = .running ∨ run.state = .paused ∨
        (run.state = .halting ∧ (run.endKind = some .reset ∨ run.endKind = none)) → s.restRunner r = s)))
end

