-- ==== Sys2Proof/Laws/State.lean ====
section
/-! SUPPORT. Reading after writing: one lemma per field of State per named update, so that no later proof unfolds a record
update. -/

namespace Sys2Proof.Laws

open Sys2Proof.Machine

/-! ### What a write leaves -/

@[simp] theorem setAx_store (s : State) (a : AxisNo) (x : Axis) : (s.setAx a x).store = s.store := rfl
@[simp] theorem setAx_chans (s : State) (a : AxisNo) (x : Axis) : (s.setAx a x).chans = s.chans := rfl
@[simp] theorem setAx_queue (s : State) (a : AxisNo) (x : Axis) : (s.setAx a x).queue = s.queue := rfl
@[simp] theorem setAx_stamps (s : State) (a : AxisNo) (x : Axis) : (s.setAx a x).stamps = s.stamps := rfl
@[simp] theorem setAx_supply (s : State) (a : AxisNo) (x : Axis) : (s.setAx a x).supply = s.supply := rfl
@[simp] theorem setAx_entries (s : State) (a : AxisNo) (x : Axis) : (s.setAx a x).entries = s.entries := rfl
@[simp] theorem setAx_places (s : State) (a : AxisNo) (x : Axis) : (s.setAx a x).places = s.places := rfl
@[simp] theorem setAx_slots (s : State) (a : AxisNo) (x : Axis) : (s.setAx a x).slots = s.slots := rfl
@[simp] theorem setAx_marks (s : State) (a : AxisNo) (x : Axis) : (s.setAx a x).marks = s.marks := rfl
@[simp] theorem setAx_runners (s : State) (a : AxisNo) (x : Axis) : (s.setAx a x).runners = s.runners := rfl
@[simp] theorem setAx_link (s : State) (a : AxisNo) (x : Axis) : (s.setAx a x).link = s.link := rfl
@[simp] theorem setAx_power (s : State) (a : AxisNo) (x : Axis) : (s.setAx a x).power = s.power := rfl
@[simp] theorem setAx_inhibit (s : State) (a : AxisNo) (x : Axis) : (s.setAx a x).inhibit = s.inhibit := rfl
@[simp] theorem setAx_wakeLine (s : State) (a : AxisNo) (x : Axis) : (s.setAx a x).wakeLine = s.wakeLine := rfl
@[simp] theorem setAx_freeIndex (s : State) (a : AxisNo) (x : Axis) : (s.setAx a x).freeIndex = s.freeIndex := rfl
@[simp] theorem setAx_pending (s : State) (a : AxisNo) (x : Axis) : (s.setAx a x).pending = s.pending := rfl

@[simp] theorem modAx_store (s : State) (a : AxisNo) (f : Axis → Axis) : (s.modAx a f).store = s.store := rfl
@[simp] theorem modAx_chans (s : State) (a : AxisNo) (f : Axis → Axis) : (s.modAx a f).chans = s.chans := rfl
@[simp] theorem modAx_queue (s : State) (a : AxisNo) (f : Axis → Axis) : (s.modAx a f).queue = s.queue := rfl
@[simp] theorem modAx_stamps (s : State) (a : AxisNo) (f : Axis → Axis) : (s.modAx a f).stamps = s.stamps := rfl
@[simp] theorem modAx_supply (s : State) (a : AxisNo) (f : Axis → Axis) : (s.modAx a f).supply = s.supply := rfl
@[simp] theorem modAx_entries (s : State) (a : AxisNo) (f : Axis → Axis) : (s.modAx a f).entries = s.entries := rfl
@[simp] theorem modAx_places (s : State) (a : AxisNo) (f : Axis → Axis) : (s.modAx a f).places = s.places := rfl
@[simp] theorem modAx_slots (s : State) (a : AxisNo) (f : Axis → Axis) : (s.modAx a f).slots = s.slots := rfl
@[simp] theorem modAx_marks (s : State) (a : AxisNo) (f : Axis → Axis) : (s.modAx a f).marks = s.marks := rfl
@[simp] theorem modAx_runners (s : State) (a : AxisNo) (f : Axis → Axis) : (s.modAx a f).runners = s.runners := rfl
@[simp] theorem modAx_link (s : State) (a : AxisNo) (f : Axis → Axis) : (s.modAx a f).link = s.link := rfl
@[simp] theorem modAx_power (s : State) (a : AxisNo) (f : Axis → Axis) : (s.modAx a f).power = s.power := rfl
@[simp] theorem modAx_inhibit (s : State) (a : AxisNo) (f : Axis → Axis) : (s.modAx a f).inhibit = s.inhibit := rfl
@[simp] theorem modAx_wakeLine (s : State) (a : AxisNo) (f : Axis → Axis) : (s.modAx a f).wakeLine = s.wakeLine := rfl
@[simp] theorem modAx_freeIndex (s : State) (a : AxisNo) (f : Axis → Axis) : (s.modAx a f).freeIndex = s.freeIndex := rfl
@[simp] theorem modAx_pending (s : State) (a : AxisNo) (f : Axis → Axis) : (s.modAx a f).pending = s.pending := rfl

@[simp] theorem setCh_axes (s : State) (c : ChanNo) (x : Channel) : (s.setCh c x).axes = s.axes := rfl
@[simp] theorem setCh_store (s : State) (c : ChanNo) (x : Channel) : (s.setCh c x).store = s.store := rfl
@[simp] theorem setCh_queue (s : State) (c : ChanNo) (x : Channel) : (s.setCh c x).queue = s.queue := rfl
@[simp] theorem setCh_stamps (s : State) (c : ChanNo) (x : Channel) : (s.setCh c x).stamps = s.stamps := rfl
@[simp] theorem setCh_supply (s : State) (c : ChanNo) (x : Channel) : (s.setCh c x).supply = s.supply := rfl
@[simp] theorem setCh_entries (s : State) (c : ChanNo) (x : Channel) : (s.setCh c x).entries = s.entries := rfl
@[simp] theorem setCh_places (s : State) (c : ChanNo) (x : Channel) : (s.setCh c x).places = s.places := rfl
@[simp] theorem setCh_slots (s : State) (c : ChanNo) (x : Channel) : (s.setCh c x).slots = s.slots := rfl
@[simp] theorem setCh_marks (s : State) (c : ChanNo) (x : Channel) : (s.setCh c x).marks = s.marks := rfl
@[simp] theorem setCh_runners (s : State) (c : ChanNo) (x : Channel) : (s.setCh c x).runners = s.runners := rfl
@[simp] theorem setCh_link (s : State) (c : ChanNo) (x : Channel) : (s.setCh c x).link = s.link := rfl
@[simp] theorem setCh_power (s : State) (c : ChanNo) (x : Channel) : (s.setCh c x).power = s.power := rfl
@[simp] theorem setCh_inhibit (s : State) (c : ChanNo) (x : Channel) : (s.setCh c x).inhibit = s.inhibit := rfl
@[simp] theorem setCh_wakeLine (s : State) (c : ChanNo) (x : Channel) : (s.setCh c x).wakeLine = s.wakeLine := rfl
@[simp] theorem setCh_freeIndex (s : State) (c : ChanNo) (x : Channel) : (s.setCh c x).freeIndex = s.freeIndex := rfl
@[simp] theorem setCh_pending (s : State) (c : ChanNo) (x : Channel) : (s.setCh c x).pending = s.pending := rfl

@[simp] theorem setRun_axes (s : State) (r : RunnerNo) (x : Option Run) : (s.setRun r x).axes = s.axes := rfl
@[simp] theorem setRun_store (s : State) (r : RunnerNo) (x : Option Run) : (s.setRun r x).store = s.store := rfl
@[simp] theorem setRun_chans (s : State) (r : RunnerNo) (x : Option Run) : (s.setRun r x).chans = s.chans := rfl
@[simp] theorem setRun_queue (s : State) (r : RunnerNo) (x : Option Run) : (s.setRun r x).queue = s.queue := rfl
@[simp] theorem setRun_stamps (s : State) (r : RunnerNo) (x : Option Run) : (s.setRun r x).stamps = s.stamps := rfl
@[simp] theorem setRun_supply (s : State) (r : RunnerNo) (x : Option Run) : (s.setRun r x).supply = s.supply := rfl
@[simp] theorem setRun_entries (s : State) (r : RunnerNo) (x : Option Run) : (s.setRun r x).entries = s.entries := rfl
@[simp] theorem setRun_places (s : State) (r : RunnerNo) (x : Option Run) : (s.setRun r x).places = s.places := rfl
@[simp] theorem setRun_slots (s : State) (r : RunnerNo) (x : Option Run) : (s.setRun r x).slots = s.slots := rfl
@[simp] theorem setRun_marks (s : State) (r : RunnerNo) (x : Option Run) : (s.setRun r x).marks = s.marks := rfl
@[simp] theorem setRun_link (s : State) (r : RunnerNo) (x : Option Run) : (s.setRun r x).link = s.link := rfl
@[simp] theorem setRun_power (s : State) (r : RunnerNo) (x : Option Run) : (s.setRun r x).power = s.power := rfl
@[simp] theorem setRun_inhibit (s : State) (r : RunnerNo) (x : Option Run) : (s.setRun r x).inhibit = s.inhibit := rfl
@[simp] theorem setRun_wakeLine (s : State) (r : RunnerNo) (x : Option Run) : (s.setRun r x).wakeLine = s.wakeLine := rfl
@[simp] theorem setRun_freeIndex (s : State) (r : RunnerNo) (x : Option Run) : (s.setRun r x).freeIndex = s.freeIndex := rfl
@[simp] theorem setRun_pending (s : State) (r : RunnerNo) (x : Option Run) : (s.setRun r x).pending = s.pending := rfl

@[simp] theorem leaveQueue_axes (s : State) (a : AxisNo) : (s.leaveQueue a).axes = s.axes := rfl
@[simp] theorem leaveQueue_store (s : State) (a : AxisNo) : (s.leaveQueue a).store = s.store := rfl
@[simp] theorem leaveQueue_chans (s : State) (a : AxisNo) : (s.leaveQueue a).chans = s.chans := rfl
@[simp] theorem leaveQueue_stamps (s : State) (a : AxisNo) : (s.leaveQueue a).stamps = s.stamps := rfl
@[simp] theorem leaveQueue_supply (s : State) (a : AxisNo) : (s.leaveQueue a).supply = s.supply := rfl
@[simp] theorem leaveQueue_entries (s : State) (a : AxisNo) : (s.leaveQueue a).entries = s.entries := rfl
@[simp] theorem leaveQueue_places (s : State) (a : AxisNo) : (s.leaveQueue a).places = s.places := rfl
@[simp] theorem leaveQueue_slots (s : State) (a : AxisNo) : (s.leaveQueue a).slots = s.slots := rfl
@[simp] theorem leaveQueue_marks (s : State) (a : AxisNo) : (s.leaveQueue a).marks = s.marks := rfl
@[simp] theorem leaveQueue_runners (s : State) (a : AxisNo) : (s.leaveQueue a).runners = s.runners := rfl
@[simp] theorem leaveQueue_link (s : State) (a : AxisNo) : (s.leaveQueue a).link = s.link := rfl
@[simp] theorem leaveQueue_power (s : State) (a : AxisNo) : (s.leaveQueue a).power = s.power := rfl
@[simp] theorem leaveQueue_inhibit (s : State) (a : AxisNo) : (s.leaveQueue a).inhibit = s.inhibit := rfl
@[simp] theorem leaveQueue_wakeLine (s : State) (a : AxisNo) : (s.leaveQueue a).wakeLine = s.wakeLine := rfl
@[simp] theorem leaveQueue_freeIndex (s : State) (a : AxisNo) : (s.leaveQueue a).freeIndex = s.freeIndex := rfl
@[simp] theorem leaveQueue_pending (s : State) (a : AxisNo) : (s.leaveQueue a).pending = s.pending := rfl

@[simp] theorem reply_axes (s : State) (k tag : Byte) (r : Result) (data : List Byte) : (s.reply k tag r data).axes = s.axes := rfl
@[simp] theorem reply_store (s : State) (k tag : Byte) (r : Result) (data : List Byte) : (s.reply k tag r data).store = s.store := rfl
@[simp] theorem reply_chans (s : State) (k tag : Byte) (r : Result) (data : List Byte) : (s.reply k tag r data).chans = s.chans := rfl
@[simp] theorem reply_queue (s : State) (k tag : Byte) (r : Result) (data : List Byte) : (s.reply k tag r data).queue = s.queue := rfl
@[simp] theorem reply_stamps (s : State) (k tag : Byte) (r : Result) (data : List Byte) : (s.reply k tag r data).stamps = s.stamps := rfl
@[simp] theorem reply_supply (s : State) (k tag : Byte) (r : Result) (data : List Byte) : (s.reply k tag r data).supply = s.supply := rfl
@[simp] theorem reply_entries (s : State) (k tag : Byte) (r : Result) (data : List Byte) : (s.reply k tag r data).entries = s.entries := rfl
@[simp] theorem reply_places (s : State) (k tag : Byte) (r : Result) (data : List Byte) : (s.reply k tag r data).places = s.places := rfl
@[simp] theorem reply_slots (s : State) (k tag : Byte) (r : Result) (data : List Byte) : (s.reply k tag r data).slots = s.slots := rfl
@[simp] theorem reply_marks (s : State) (k tag : Byte) (r : Result) (data : List Byte) : (s.reply k tag r data).marks = s.marks := rfl
@[simp] theorem reply_runners (s : State) (k tag : Byte) (r : Result) (data : List Byte) : (s.reply k tag r data).runners = s.runners := rfl
@[simp] theorem reply_power (s : State) (k tag : Byte) (r : Result) (data : List Byte) : (s.reply k tag r data).power = s.power := rfl
@[simp] theorem reply_inhibit (s : State) (k tag : Byte) (r : Result) (data : List Byte) : (s.reply k tag r data).inhibit = s.inhibit := rfl
@[simp] theorem reply_wakeLine (s : State) (k tag : Byte) (r : Result) (data : List Byte) : (s.reply k tag r data).wakeLine = s.wakeLine := rfl
@[simp] theorem reply_freeIndex (s : State) (k tag : Byte) (r : Result) (data : List Byte) : (s.reply k tag r data).freeIndex = s.freeIndex := rfl
@[simp] theorem reply_pending (s : State) (k tag : Byte) (r : Result) (data : List Byte) : (s.reply k tag r data).pending = s.pending := rfl

@[simp] theorem refuse_axes (s : State) (k tag : Byte) (r : Result) : (s.refuse k tag r).axes = s.axes := rfl
@[simp] theorem refuse_store (s : State) (k tag : Byte) (r : Result) : (s.refuse k tag r).store = s.store := rfl
@[simp] theorem refuse_chans (s : State) (k tag : Byte) (r : Result) : (s.refuse k tag r).chans = s.chans := rfl
@[simp] theorem refuse_queue (s : State) (k tag : Byte) (r : Result) : (s.refuse k tag r).queue = s.queue := rfl
@[simp] theorem refuse_stamps (s : State) (k tag : Byte) (r : Result) : (s.refuse k tag r).stamps = s.stamps := rfl
@[simp] theorem refuse_supply (s : State) (k tag : Byte) (r : Result) : (s.refuse k tag r).supply = s.supply := rfl
@[simp] theorem refuse_entries (s : State) (k tag : Byte) (r : Result) : (s.refuse k tag r).entries = s.entries := rfl
@[simp] theorem refuse_places (s : State) (k tag : Byte) (r : Result) : (s.refuse k tag r).places = s.places := rfl
@[simp] theorem refuse_slots (s : State) (k tag : Byte) (r : Result) : (s.refuse k tag r).slots = s.slots := rfl
@[simp] theorem refuse_marks (s : State) (k tag : Byte) (r : Result) : (s.refuse k tag r).marks = s.marks := rfl
@[simp] theorem refuse_runners (s : State) (k tag : Byte) (r : Result) : (s.refuse k tag r).runners = s.runners := rfl
@[simp] theorem refuse_power (s : State) (k tag : Byte) (r : Result) : (s.refuse k tag r).power = s.power := rfl
@[simp] theorem refuse_inhibit (s : State) (k tag : Byte) (r : Result) : (s.refuse k tag r).inhibit = s.inhibit := rfl
@[simp] theorem refuse_wakeLine (s : State) (k tag : Byte) (r : Result) : (s.refuse k tag r).wakeLine = s.wakeLine := rfl
@[simp] theorem refuse_freeIndex (s : State) (k tag : Byte) (r : Result) : (s.refuse k tag r).freeIndex = s.freeIndex := rfl
@[simp] theorem refuse_pending (s : State) (k tag : Byte) (r : Result) : (s.refuse k tag r).pending = s.pending := rfl

@[simp] theorem notIdle_axes (s : State)  : (s.notIdle).axes = s.axes := rfl
@[simp] theorem notIdle_store (s : State)  : (s.notIdle).store = s.store := rfl
@[simp] theorem notIdle_chans (s : State)  : (s.notIdle).chans = s.chans := rfl
@[simp] theorem notIdle_queue (s : State)  : (s.notIdle).queue = s.queue := rfl
@[simp] theorem notIdle_stamps (s : State)  : (s.notIdle).stamps = s.stamps := rfl
@[simp] theorem notIdle_supply (s : State)  : (s.notIdle).supply = s.supply := rfl
@[simp] theorem notIdle_entries (s : State)  : (s.notIdle).entries = s.entries := rfl
@[simp] theorem notIdle_places (s : State)  : (s.notIdle).places = s.places := rfl
@[simp] theorem notIdle_slots (s : State)  : (s.notIdle).slots = s.slots := rfl
@[simp] theorem notIdle_marks (s : State)  : (s.notIdle).marks = s.marks := rfl
@[simp] theorem notIdle_runners (s : State)  : (s.notIdle).runners = s.runners := rfl
@[simp] theorem notIdle_link (s : State)  : (s.notIdle).link = s.link := rfl
@[simp] theorem notIdle_inhibit (s : State)  : (s.notIdle).inhibit = s.inhibit := rfl
@[simp] theorem notIdle_wakeLine (s : State)  : (s.notIdle).wakeLine = s.wakeLine := rfl
@[simp] theorem notIdle_freeIndex (s : State)  : (s.notIdle).freeIndex = s.freeIndex := rfl
@[simp] theorem notIdle_pending (s : State)  : (s.notIdle).pending = s.pending := rfl

@[simp] theorem setRx_axes (s : State) (rx : Rx) : (s.setRx rx).axes = s.axes := rfl
@[simp] theorem setRx_store (s : State) (rx : Rx) : (s.setRx rx).store = s.store := rfl
@[simp] theorem setRx_chans (s : State) (rx : Rx) : (s.setRx rx).chans = s.chans := rfl
@[simp] theorem setRx_queue (s : State) (rx : Rx) : (s.setRx rx).queue = s.queue := rfl
@[simp] theorem setRx_stamps (s : State) (rx : Rx) : (s.setRx rx).stamps = s.stamps := rfl
@[simp] theorem setRx_supply (s : State) (rx : Rx) : (s.setRx rx).supply = s.supply := rfl
@[simp] theorem setRx_entries (s : State) (rx : Rx) : (s.setRx rx).entries = s.entries := rfl
@[simp] theorem setRx_places (s : State) (rx : Rx) : (s.setRx rx).places = s.places := rfl
@[simp] theorem setRx_slots (s : State) (rx : Rx) : (s.setRx rx).slots = s.slots := rfl
@[simp] theorem setRx_marks (s : State) (rx : Rx) : (s.setRx rx).marks = s.marks := rfl
@[simp] theorem setRx_runners (s : State) (rx : Rx) : (s.setRx rx).runners = s.runners := rfl
@[simp] theorem setRx_power (s : State) (rx : Rx) : (s.setRx rx).power = s.power := rfl
@[simp] theorem setRx_inhibit (s : State) (rx : Rx) : (s.setRx rx).inhibit = s.inhibit := rfl
@[simp] theorem setRx_wakeLine (s : State) (rx : Rx) : (s.setRx rx).wakeLine = s.wakeLine := rfl
@[simp] theorem setRx_freeIndex (s : State) (rx : Rx) : (s.setRx rx).freeIndex = s.freeIndex := rfl
@[simp] theorem setRx_pending (s : State) (rx : Rx) : (s.setRx rx).pending = s.pending := rfl

/-! ### Axes, channels and runners -/

@[simp] theorem ax_setAx_self (s : State) (a : AxisNo) (x : Axis) : (s.setAx a x).ax a = x := by
  simp [State.ax, State.setAx]

theorem ax_setAx_ne (s : State) {a b : AxisNo} (x : Axis) (h : b ≠ a) : (s.setAx a x).ax b = s.ax b := by
  simp only [State.ax, State.setAx]
  exact Vector.getElem_set_ne (Fin.isLt a) (Fin.isLt b) (fun e => h (Fin.ext e.symm))

theorem ax_setAx (s : State) (a b : AxisNo) (x : Axis) : (s.setAx a x).ax b = if b = a then x else s.ax b := by
  by_cases h : b = a
  · subst h; simp
  · simp [h, ax_setAx_ne s x h]

@[simp] theorem ax_modAx_self (s : State) (a : AxisNo) (f : Axis → Axis) : (s.modAx a f).ax a = f (s.ax a) :=
  ax_setAx_self s a _

theorem ax_modAx_ne (s : State) {a b : AxisNo} (f : Axis → Axis) (h : b ≠ a) : (s.modAx a f).ax b = s.ax b :=
  ax_setAx_ne s _ h

theorem ax_modAx (s : State) (a b : AxisNo) (f : Axis → Axis) :
    (s.modAx a f).ax b = if b = a then f (s.ax a) else s.ax b := ax_setAx s a b _

@[simp] theorem setAx_setAx (s : State) (a : AxisNo) (x y : Axis) : (s.setAx a x).setAx a y = s.setAx a y := by
  simp [State.setAx]

@[simp] theorem setAx_self (s : State) (a : AxisNo) : s.setAx a (s.ax a) = s := by
  simp [State.setAx, State.ax]

/-- An axis changed by a function is the axis replaced by its value. -/
theorem modAx_eq (s : State) (a : AxisNo) (f : Axis → Axis) : s.modAx a f = s.setAx a (f (s.ax a)) := rfl

/-- Two states with the same axes read the same axis. -/
theorem ax_congr {s t : State} (h : t.axes = s.axes) (a : AxisNo) : t.ax a = s.ax a := by simp only [State.ax, h]

@[simp] theorem ch_setCh_self (s : State) (c : ChanNo) (x : Channel) : (s.setCh c x).ch c = x := by
  simp [State.ch, State.setCh]

theorem ch_setCh_ne (s : State) {c d : ChanNo} (x : Channel) (h : d ≠ c) : (s.setCh c x).ch d = s.ch d := by
  simp only [State.ch, State.setCh]
  exact Vector.getElem_set_ne (Fin.isLt c) (Fin.isLt d) (fun e => h (Fin.ext e.symm))

theorem ch_setCh (s : State) (c d : ChanNo) (x : Channel) : (s.setCh c x).ch d = if d = c then x else s.ch d := by
  by_cases h : d = c
  · subst h; simp
  · simp [h, ch_setCh_ne s x h]

@[simp] theorem setCh_setCh (s : State) (c : ChanNo) (x y : Channel) : (s.setCh c x).setCh c y = s.setCh c y := by
  simp [State.setCh]

/-- Two states with the same channels read the same channel. -/
theorem ch_congr {s t : State} (h : t.chans = s.chans) (c : ChanNo) : t.ch c = s.ch c := by simp only [State.ch, h]

@[simp] theorem run_setRun_self (s : State) (r : RunnerNo) (x : Option Run) : (s.setRun r x).run r = x := by
  simp [State.run, State.setRun]

theorem run_setRun_ne (s : State) {r q : RunnerNo} (x : Option Run) (h : q ≠ r) : (s.setRun r x).run q = s.run q := by
  simp only [State.run, State.setRun]
  exact Vector.getElem_set_ne (Fin.isLt r) (Fin.isLt q) (fun e => h (Fin.ext e.symm))

theorem run_setRun (s : State) (r q : RunnerNo) (x : Option Run) :
    (s.setRun r x).run q = if q = r then x else s.run q := by
  by_cases h : q = r
  · subst h; simp
  · simp [h, run_setRun_ne s x h]

@[simp] theorem setRun_setRun (s : State) (r : RunnerNo) (x y : Option Run) :
    (s.setRun r x).setRun r y = s.setRun r y := by
  simp [State.setRun]

/-- Two states with the same runners read the same runner. -/
theorem run_congr {s t : State} (h : t.runners = s.runners) (r : RunnerNo) : t.run r = s.run r := by
  simp only [State.run, h]

/-! ### Several axes -/

theorem modAll_nil (s : State) (f : Axis → Axis) : s.modAll [] f = s := rfl

theorem modAll_cons (s : State) (a : AxisNo) (as : List AxisNo) (f : Axis → Axis) :
    s.modAll (a :: as) f = (s.modAx a f).modAll as f := rfl

theorem ax_modAll_of_not_mem (s : State) (as : List AxisNo) (f : Axis → Axis) (b : AxisNo) (h : b ∉ as) :
    (s.modAll as f).ax b = s.ax b := by
  induction as generalizing s with
  | nil => rfl
  | cons a as ih =>
    rw [modAll_cons, ih _ (fun m => h (List.mem_cons_of_mem _ m)),
      ax_modAx_ne s f (fun e => h (List.mem_cons.mpr (Or.inl e)))]

theorem ax_modAll_of_mem (s : State) (as : List AxisNo) (f : Axis → Axis) (b : AxisNo) (h : b ∈ as)
    (nodup : as.Nodup) : (s.modAll as f).ax b = f (s.ax b) := by
  induction as generalizing s with
  | nil => exact absurd h List.not_mem_nil
  | cons a as ih =>
    rw [modAll_cons]
    rcases List.mem_cons.mp h with e | m
    · subst e
      rw [ax_modAll_of_not_mem _ _ _ _ (List.nodup_cons.mp nodup).1, ax_modAx_self]
    · have ne : b ≠ a := fun e => (List.nodup_cons.mp nodup).1 (e ▸ m)
      rw [ih _ m (List.nodup_cons.mp nodup).2, ax_modAx_ne s f ne]

theorem mem_allAxes (a : AxisNo) : a ∈ allAxes := by
  revert a; decide

theorem nodup_allAxes : allAxes.Nodup := by decide

/-- A change of every axis changes each axis. -/
theorem ax_modAll_allAxes (s : State) (f : Axis → Axis) (a : AxisNo) : (s.modAll allAxes f).ax a = f (s.ax a) :=
  ax_modAll_of_mem s allAxes f a (mem_allAxes a) nodup_allAxes

theorem mem_allChans (c : ChanNo) : c ∈ allChans := by
  revert c; decide

theorem mem_allRunners (r : RunnerNo) : r ∈ allRunners := by
  revert r; decide

@[simp] theorem modAll_store (s : State) (as : List AxisNo) (f : Axis → Axis) : (s.modAll as f).store = s.store := by
  induction as generalizing s with
  | nil => rfl
  | cons a as ih => rw [modAll_cons, ih]; rfl
@[simp] theorem modAll_chans (s : State) (as : List AxisNo) (f : Axis → Axis) : (s.modAll as f).chans = s.chans := by
  induction as generalizing s with
  | nil => rfl
  | cons a as ih => rw [modAll_cons, ih]; rfl
@[simp] theorem modAll_queue (s : State) (as : List AxisNo) (f : Axis → Axis) : (s.modAll as f).queue = s.queue := by
  induction as generalizing s with
  | nil => rfl
  | cons a as ih => rw [modAll_cons, ih]; rfl
@[simp] theorem modAll_stamps (s : State) (as : List AxisNo) (f : Axis → Axis) : (s.modAll as f).stamps = s.stamps := by
  induction as generalizing s with
  | nil => rfl
  | cons a as ih => rw [modAll_cons, ih]; rfl
@[simp] theorem modAll_supply (s : State) (as : List AxisNo) (f : Axis → Axis) : (s.modAll as f).supply = s.supply := by
  induction as generalizing s with
  | nil => rfl
  | cons a as ih => rw [modAll_cons, ih]; rfl
@[simp] theorem modAll_entries (s : State) (as : List AxisNo) (f : Axis → Axis) : (s.modAll as f).entries = s.entries := by
  induction as generalizing s with
  | nil => rfl
  | cons a as ih => rw [modAll_cons, ih]; rfl
@[simp] theorem modAll_places (s : State) (as : List AxisNo) (f : Axis → Axis) : (s.modAll as f).places = s.places := by
  induction as generalizing s with
  | nil => rfl
  | cons a as ih => rw [modAll_cons, ih]; rfl
@[simp] theorem modAll_slots (s : State) (as : List AxisNo) (f : Axis → Axis) : (s.modAll as f).slots = s.slots := by
  induction as generalizing s with
  | nil => rfl
  | cons a as ih => rw [modAll_cons, ih]; rfl
@[simp] theorem modAll_marks (s : State) (as : List AxisNo) (f : Axis → Axis) : (s.modAll as f).marks = s.marks := by
  induction as generalizing s with
  | nil => rfl
  | cons a as ih => rw [modAll_cons, ih]; rfl
@[simp] theorem modAll_runners (s : State) (as : List AxisNo) (f : Axis → Axis) : (s.modAll as f).runners = s.runners := by
  induction as generalizing s with
  | nil => rfl
  | cons a as ih => rw [modAll_cons, ih]; rfl
@[simp] theorem modAll_link (s : State) (as : List AxisNo) (f : Axis → Axis) : (s.modAll as f).link = s.link := by
  induction as generalizing s with
  | nil => rfl
  | cons a as ih => rw [modAll_cons, ih]; rfl
@[simp] theorem modAll_power (s : State) (as : List AxisNo) (f : Axis → Axis) : (s.modAll as f).power = s.power := by
  induction as generalizing s with
  | nil => rfl
  | cons a as ih => rw [modAll_cons, ih]; rfl
@[simp] theorem modAll_inhibit (s : State) (as : List AxisNo) (f : Axis → Axis) : (s.modAll as f).inhibit = s.inhibit := by
  induction as generalizing s with
  | nil => rfl
  | cons a as ih => rw [modAll_cons, ih]; rfl
@[simp] theorem modAll_wakeLine (s : State) (as : List AxisNo) (f : Axis → Axis) : (s.modAll as f).wakeLine = s.wakeLine := by
  induction as generalizing s with
  | nil => rfl
  | cons a as ih => rw [modAll_cons, ih]; rfl
@[simp] theorem modAll_freeIndex (s : State) (as : List AxisNo) (f : Axis → Axis) : (s.modAll as f).freeIndex = s.freeIndex := by
  induction as generalizing s with
  | nil => rfl
  | cons a as ih => rw [modAll_cons, ih]; rfl
@[simp] theorem modAll_pending (s : State) (as : List AxisNo) (f : Axis → Axis) : (s.modAll as f).pending = s.pending := by
  induction as generalizing s with
  | nil => rfl
  | cons a as ih => rw [modAll_cons, ih]; rfl

/-! ### Reports (R182) -/

@[simp] theorem report_axes (s : State) (r : Report) : (s.report r).axes = s.axes := by
  simp only [State.report]; split <;> rfl
@[simp] theorem report_store (s : State) (r : Report) : (s.report r).store = s.store := by
  simp only [State.report]; split <;> rfl
@[simp] theorem report_chans (s : State) (r : Report) : (s.report r).chans = s.chans := by
  simp only [State.report]; split <;> rfl
@[simp] theorem report_queue (s : State) (r : Report) : (s.report r).queue = s.queue := by
  simp only [State.report]; split <;> rfl
@[simp] theorem report_stamps (s : State) (r : Report) : (s.report r).stamps = s.stamps := by
  simp only [State.report]; split <;> rfl
@[simp] theorem report_supply (s : State) (r : Report) : (s.report r).supply = s.supply := by
  simp only [State.report]; split <;> rfl
@[simp] theorem report_entries (s : State) (r : Report) : (s.report r).entries = s.entries := by
  simp only [State.report]; split <;> rfl
@[simp] theorem report_places (s : State) (r : Report) : (s.report r).places = s.places := by
  simp only [State.report]; split <;> rfl
@[simp] theorem report_slots (s : State) (r : Report) : (s.report r).slots = s.slots := by
  simp only [State.report]; split <;> rfl
@[simp] theorem report_marks (s : State) (r : Report) : (s.report r).marks = s.marks := by
  simp only [State.report]; split <;> rfl
@[simp] theorem report_runners (s : State) (r : Report) : (s.report r).runners = s.runners := by
  simp only [State.report]; split <;> rfl
@[simp] theorem report_power (s : State) (r : Report) : (s.report r).power = s.power := by
  simp only [State.report]; split <;> rfl
@[simp] theorem report_inhibit (s : State) (r : Report) : (s.report r).inhibit = s.inhibit := by
  simp only [State.report]; split <;> rfl
@[simp] theorem report_wakeLine (s : State) (r : Report) : (s.report r).wakeLine = s.wakeLine := by
  simp only [State.report]; split <;> rfl
@[simp] theorem report_freeIndex (s : State) (r : Report) : (s.report r).freeIndex = s.freeIndex := by
  simp only [State.report]; split <;> rfl
@[simp] theorem report_pending (s : State) (r : Report) : (s.report r).pending = s.pending := by
  simp only [State.report]; split <;> rfl
@[simp] theorem report_link_rx (s : State) (r : Report) : (s.report r).link.rx = s.link.rx := by
  simp only [State.report]; split <;> rfl
@[simp] theorem report_link_intake (s : State) (r : Report) : (s.report r).link.intake = s.link.intake := by
  simp only [State.report]; split <;> rfl
@[simp] theorem report_link_slot (s : State) (r : Report) : (s.report r).link.slot = s.link.slot := by
  simp only [State.report]; split <;> rfl
@[simp] theorem report_link_tx (s : State) (r : Report) : (s.report r).link.tx = s.link.tx := by
  simp only [State.report]; split <;> rfl
@[simp] theorem report_link_cadence (s : State) (r : Report) : (s.report r).link.cadence = s.link.cadence := by
  simp only [State.report]; split <;> rfl
@[simp] theorem report_link_supervision (s : State) (r : Report) : (s.report r).link.supervision = s.link.supervision := by
  simp only [State.report]; split <;> rfl
@[simp] theorem report_link_setup (s : State) (r : Report) : (s.report r).link.setup = s.link.setup := by
  simp only [State.report]; split <;> rfl

/-- A report never lengthens the queue beyond its sixteen places. -/
theorem report_bound (s : State) (r : Report) (h : s.link.reports.length ≤ Config.reportQueueSize) :
    (s.report r).link.reports.length ≤ Config.reportQueueSize := by
  simp only [State.report]
  split
  · next lt => simp only [List.length_append, List.length_cons, List.length_nil]; omega
  · exact h

end Sys2Proof.Laws
end

