-- ==== Sys2Proof/Laws/Controls.lean ====
section
/-! SUPPORT. Every operation of motion control keeps what `Controls` says: one lemma per operation, each of the form that the
relation carries on through the operation. -/

namespace Sys2Proof.Safety

open Sys2Proof.Machine Sys2Proof.Laws

variable {F : Prop}

/-! ### The relation -/

theorem KeptAxis.refl (x : Axis) : KeptAxis F x x where
  config := rfl
  pos := rfl
  overrun := rfl
  lashDir := rfl
  lashRem := rfl
  ref := .inl rfl
  falls := fun h => absurd rfl h
  heat := rfl
  lockout := rfl
  lastCheck := rfl
  fault := fun f h => ⟨f, h, rfl, rfl, rfl, rfl⟩

theorem KeptAxis.trans {x y z : Axis} (h : KeptAxis F x y) (k : KeptAxis F y z) : KeptAxis F x z where
  config := k.config.trans h.config
  pos := k.pos.trans h.pos
  overrun := k.overrun.trans h.overrun
  lashDir := k.lashDir.trans h.lashDir
  lashRem := k.lashRem.trans h.lashRem
  ref := by
    rcases h.ref with a | ⟨a, b⟩ <;> rcases k.ref with c | ⟨c, d⟩
    · exact .inl (c.trans a)
    · exact .inr ⟨a ▸ c, d⟩
    · exact .inr ⟨a, c.trans b⟩
    · exact .inr ⟨a, d⟩
  falls := by
    intro n
    by_cases e : y.ref = x.ref
    · exact k.falls (fun q => n (q.trans e))
    · exact h.falls e
  heat := k.heat.trans h.heat
  lockout := k.lockout.trans h.lockout
  lastCheck := k.lastCheck.trans h.lastCheck
  fault := by
    intro f hf
    obtain ⟨g, hg, a, b, c, d⟩ := h.fault f hf
    obtain ⟨g', hg', a', b', c', d'⟩ := k.fault g hg
    exact ⟨g', hg', a'.trans a, b'.trans b, c'.trans c, d'.trans d⟩

theorem Controls.refl (s : State) : Controls F s s where
  axes := fun _ => KeptAxis.refl _
  store := rfl
  entries := rfl
  places := rfl
  slots := rfl
  inhibit := rfl
  wakeLine := rfl
  pending := rfl
  rx := rfl
  intake := rfl
  slot := rfl
  tx := rfl
  cadence := rfl
  supervision := rfl
  setup := rfl
  supply := rfl
  inReset := rfl
  sleepOpts := rfl
  sleepTime := rfl
  sleepTicks := rfl
  wakeCause := rfl
  power := .inl rfl
  reports := id
  retired := fun _ => id

theorem Controls.trans {s t u : State} (h : Controls F s t) (k : Controls F t u) : Controls F s u where
  axes := fun a => (h.axes a).trans (k.axes a)
  store := k.store.trans h.store
  entries := k.entries.trans h.entries
  places := k.places.trans h.places
  slots := k.slots.trans h.slots
  inhibit := k.inhibit.trans h.inhibit
  wakeLine := k.wakeLine.trans h.wakeLine
  pending := k.pending.trans h.pending
  rx := k.rx.trans h.rx
  intake := k.intake.trans h.intake
  slot := k.slot.trans h.slot
  tx := k.tx.trans h.tx
  cadence := k.cadence.trans h.cadence
  supervision := k.supervision.trans h.supervision
  setup := k.setup.trans h.setup
  supply := by rw [k.supply, h.supply]
  inReset := k.inReset.trans h.inReset
  sleepOpts := k.sleepOpts.trans h.sleepOpts
  sleepTime := k.sleepTime.trans h.sleepTime
  sleepTicks := k.sleepTicks.trans h.sleepTicks
  wakeCause := k.wakeCause.trans h.wakeCause
  power := by
    rcases h.power with a | ⟨a, b⟩ <;> rcases k.power with c | ⟨c, d⟩
    · exact .inl (c.trans a)
    · exact .inr ⟨a ▸ c, d⟩
    · exact .inr ⟨a, c.trans b⟩
    · exact .inr ⟨a, d⟩
  reports := fun a => k.reports (h.reports a)
  retired := fun c a => k.retired c (h.retired c a)

/-- The relation carries on through a fold of operations that each carry it on. -/
theorem Controls.foldl {α : Type} {s t : State} (h : Controls F s t) (l : List α) (f : State → α → State)
    (hf : ∀ u a, Controls F s u → Controls F s (f u a)) : Controls F s (l.foldl f t) := by
  induction l generalizing t with
  | nil => exact h
  | cons a l ih => exact ih (hf t a h)

/-! ### Single writes -/

/-- An axis changed in nothing that control leaves alone. -/
theorem Controls.modAx {s t : State} (h : Controls F s t) (a : AxisNo) (f : Axis → Axis)
    (hf : ∀ x, KeptAxis F x (f x)) : Controls F s (t.modAx a f) :=
  h.trans { Controls.refl (F := F) t with
    axes := fun b => by
      rw [ax_modAx]
      split
      · next e => exact e ▸ hf _
      · exact KeptAxis.refl _ }

theorem Controls.modAll {s t : State} (h : Controls F s t) (as : List AxisNo) (f : Axis → Axis)
    (hf : ∀ x, KeptAxis F x (f x)) : Controls F s (t.modAll as f) :=
  h.foldl as _ (fun _ a hu => hu.modAx a f hf)

/-- A channel changed that does not leave RETIRED. -/
theorem Controls.setCh {s t : State} (h : Controls F s t) (c : ChanNo) (x : Channel)
    (hx : (t.ch c).state = .retired → x.state = .retired) : Controls F s (t.setCh c x) :=
  h.trans { Controls.refl (F := F) t with
    retired := fun d hd => by
      rw [ch_setCh]
      split
      · next e => exact hx (e ▸ hd)
      · exact hd }

theorem Controls.setRun {s t : State} (h : Controls F s t) (r : RunnerNo) (x : Option Run) : Controls F s (t.setRun r x) :=
  h.trans { Controls.refl (F := F) t with }

theorem Controls.setQueue {s t : State} (h : Controls F s t) (q : List GrantRequest) : Controls F s { t with queue := q } :=
  h.trans { Controls.refl (F := F) t with }

theorem Controls.leaveQueue {s t : State} (h : Controls F s t) (a : AxisNo) : Controls F s (t.leaveQueue a) :=
  h.trans { Controls.refl (F := F) t with }

theorem Controls.setStamps {s t : State} (h : Controls F s t) (n : Nat) : Controls F s { t with stamps := n } :=
  h.trans { Controls.refl (F := F) t with }

theorem Controls.setMarks {s t : State} (h : Controls F s t) (m : BitVec 8) : Controls F s { t with marks := m } :=
  h.trans { Controls.refl (F := F) t with }

theorem Controls.setFree {s t : State} (h : Controls F s t) (n : Nat) : Controls F s { t with freeIndex := n } :=
  h.trans { Controls.refl (F := F) t with }

theorem Controls.setGrantCounter {s t : State} (h : Controls F s t) (n : Nat) :
    Controls F s { t with supply := { t.supply with grantCounter := n } } :=
  h.trans { Controls.refl (F := F) t with supply := rfl }

theorem Controls.setStage {s t : State} (h : Controls F s t) (g : Stage) :
    Controls F s { t with power := { t.power with stage := g } } :=
  h.trans { Controls.refl (F := F) t with }

theorem Controls.report {s t : State} (h : Controls F s t) (r : Report) : Controls F s (t.report r) :=
  h.trans { Controls.refl (F := F) t with
    axes := fun a => by rw [ax_congr (report_axes t r)]; exact KeptAxis.refl _
    store := report_store t r
    entries := report_entries t r
    places := report_places t r
    slots := report_slots t r
    inhibit := report_inhibit t r
    wakeLine := report_wakeLine t r
    pending := report_pending t r
    rx := report_link_rx t r
    intake := report_link_intake t r
    slot := report_link_slot t r
    tx := report_link_tx t r
    cadence := report_link_cadence t r
    supervision := report_link_supervision t r
    setup := report_link_setup t r
    supply := by rw [report_supply]
    inReset := by rw [report_power]
    sleepOpts := by rw [report_power]
    sleepTime := by rw [report_power]
    sleepTicks := by rw [report_power]
    wakeCause := by rw [report_power]
    power := .inl (by rw [report_power])
    reports := report_bound t r
    retired := fun c hc => by rw [ch_congr (report_chans t r)]; exact hc }

theorem Controls.notIdle {s t : State} (h : Controls F s t) : Controls F s t.notIdle :=
  h.trans { Controls.refl (F := F) t with
    power := by
      simp only [State.notIdle]
      split
      · next e => exact .inr ⟨e, rfl⟩
      · exact .inl rfl }

end Sys2Proof.Safety
end

