-- ==== Sys2Proof/Laws/StopsKept.lean ====
section
/-! SUPPORT. The operations of Ops.lean and Stops.lean keep what `Controls` says: reports, channels, the grant pass, stops,
faults. -/

namespace Sys2Proof.Safety

open Sys2Proof.Machine Sys2Proof.Laws

variable {s t : State} {F : Prop}

/-! ### Axes -/

theorem KeptAxis.toIdle (k : Bool) (x : Axis) : KeptAxis F x (x.toIdle k) := { KeptAxis.refl x with }

theorem KeptAxis.toFault (x : Axis) : KeptAxis F x x.toFault := { KeptAxis.refl x with }

theorem KeptAxis.meet (r : StopReq) (x : Axis) : KeptAxis F x (x.meet r) := { KeptAxis.refl x with }

/-- A fault record changed in its backoff outcome or its further-faults flag only. -/
theorem KeptAxis.ofFault (x : Axis) (f : FaultRec → FaultRec)
    (hf : ∀ r, (f r).kind = r.kind ∧ (f r).cause = r.cause ∧ (f r).pos = r.pos ∧ (f r).entry = r.entry) :
    KeptAxis F x { x with fault := x.fault.map f } :=
  { KeptAxis.refl x with
    fault := fun g hg => ⟨f g, by simp [hg], (hf g).1, (hf g).2.1, (hf g).2.2.1, (hf g).2.2.2⟩ }

theorem KeptAxis.cutShort (mode : StopMode) (arrived : Bool) (x : Axis) : KeptAxis F x (x.cutShort mode arrived) := by
  have h := KeptAxis.ofFault (F := F) x (fun f => if f.kind = .obstruction then { f with backoff := .cutShort } else f)
    (fun r => by split <;> exact ⟨rfl, rfl, rfl, rfl⟩)
  exact { h with }

theorem KeptAxis.backoffDone (x : Axis) : KeptAxis F x x.backoffDone := by
  have h := KeptAxis.ofFault (F := F) x FaultRec.backoffDone (fun _ => ⟨rfl, rfl, rfl, rfl⟩)
  unfold Axis.backoffDone
  split
  · exact KeptAxis.refl x
  · split
    · exact { h with }
    · split
      · exact KeptAxis.toFault x
      · exact KeptAxis.toIdle false x

theorem KeptAxis.rested (x : Axis) : KeptAxis F x x.rested := by
  unfold Axis.rested
  split
  · exact KeptAxis.toFault x
  · exact KeptAxis.toIdle _ x
  · exact KeptAxis.toIdle _ x

/-! ### Reports, references, operations -/

theorem Controls.closeEpisode (h : Controls F s t) (a : AxisNo) : Controls F s (t.closeEpisode a) := by
  unfold State.closeEpisode
  split
  · exact h
  · exact (h.modAx a _ (fun x => by exact { KeptAxis.refl x with })).report _

theorem Controls.forceCreep (h : Controls F s t) (a : AxisNo) : Controls F s (t.forceCreep a) :=
  h.modAll _ _ (fun x => by exact { KeptAxis.refl x with })

theorem Controls.suspect (f : F) (h : Controls F s t) (a : AxisNo) (c : RefCause) : Controls F s (t.suspect a c) := by
  unfold State.suspect
  split
  · next v =>
    have fall : Controls F t (t.modAx a (fun x => { x with ref := .suspect })) := { Controls.refl (F := F) t with
      axes := fun b => by
        rw [ax_modAx]
        split
        · next e =>
          subst e
          exact { KeptAxis.refl (F := F) (t.ax b) with ref := .inr ⟨v, rfl⟩, falls := fun _ => f }
        · exact KeptAxis.refl _ }
    exact ((h.trans fall).report _).forceCreep a
  · exact h

theorem Controls.modOp (h : Controls F s t) (a : AxisNo) (f : LinkOp → LinkOp) : Controls F s (t.modOp a f) :=
  h.modAll _ _ (fun x => by split <;> exact { KeptAxis.refl x with })

/-! ### Channels and the grant pass -/

theorem holds_not_retired {c : Channel} {a : AxisNo} (h : c.holds a = true) : c.state ≠ .retired := by
  intro e
  simp [Channel.holds, e] at h

theorem chanOf_not_retired {a : AxisNo} {c : ChanNo} (h : t.chanOf a = some c) : (t.ch c).state ≠ .retired :=
  holds_not_retired (by simpa using List.find?_some h)

theorem Controls.release (h : Controls F s t) (a : AxisNo) : Controls F s (t.release a) := by
  unfold State.release
  split
  · exact h
  · next e => exact h.setCh _ _ (fun r => absurd r (chanOf_not_retired e))

theorem Controls.releaseAll (h : Controls F s t) (as : List AxisNo) : Controls F s (t.releaseAll as) :=
  h.foldl as _ (fun _ a hu => hu.release a)

theorem Controls.engage (h : Controls F s t) (a : AxisNo) (c : ChanNo) (n : Nat) (free : (t.ch c).state ≠ .retired) :
    Controls F s (t.engage a c n) := by
  unfold State.engage
  refine Controls.modAx (Controls.setCh (h.closeEpisode a) c _ (fun r => ?_)) a _ (fun x => by exact { KeptAxis.refl x with })
  have : (t.closeEpisode a).chans = t.chans := by
    unfold State.closeEpisode
    split
    · rfl
    · simp
  rw [ch_congr this] at r
  exact absurd r free

theorem closeEpisode_chans (a : AxisNo) : (t.closeEpisode a).chans = t.chans := by
  unfold State.closeEpisode
  split
  · rfl
  · simp

/-- The channels of an engaged axis: the one granted is SETTLING, the others are as they were. -/
theorem engage_ch (a : AxisNo) (c d : ChanNo) (n : Nat) :
    ((t.engage a c n).ch d).state = if d = c then .settling else (t.ch d).state := by
  unfold State.engage
  simp only [State.ch, modAx_chans]
  show (((t.closeEpisode a).setCh c _).ch d).state = _
  rw [ch_setCh]
  split
  · rfl
  · rw [ch_congr (closeEpisode_chans a)]; rfl

/-- What a request takes in step 1 of R92 are FREE channels. -/
theorem chooseChans_free {q : GrantRequest} {c : ChanNo} {d : Option ChanNo} (h : t.chooseChans q = some (c, d)) :
    (t.ch c).state = .free ∧ ∀ e, d = some e → (t.ch e).state = .free := by
  unfold State.chooseChans at h
  simp only at h
  split at h
  · split at h
    · exact absurd h (by simp)
    · simp only [pickChan, Option.map_eq_some_iff, Prod.mk.injEq] at h
      obtain ⟨x, hx, rfl, rfl⟩ := h
      have := List.find?_some hx
      simp only [Bool.and_eq_true, decide_eq_true_eq] at this
      exact ⟨this.2, fun e he => absurd he (by simp)⟩
  · split at h
    · exact absurd h (by simp)
    · simp only [Option.map_eq_some_iff, Prod.mk.injEq] at h
      obtain ⟨⟨x, y⟩, hx, rfl, rfl⟩ := h
      unfold pickPair at hx
      split at hx
      · exact absurd hx (by simp)
      · next c' hc =>
        simp only [Option.map_eq_some_iff, Prod.mk.injEq] at hx
        obtain ⟨z, hz, rfl, rfl⟩ := hx
        have h1 := List.find?_some hc
        have h2 := List.find?_some hz
        simp only [Bool.and_eq_true, decide_eq_true_eq] at h1 h2
        exact ⟨h1.1.2, fun e he => by cases he; exact h2.2.1⟩

theorem Controls.grant (h : Controls F s t) (q : GrantRequest) (c : ChanNo) (d : Option ChanNo)
    (free : (t.ch c).state ≠ .retired) (free' : ∀ e, d = some e → (t.ch e).state ≠ .retired) :
    Controls F s (t.grant q c d) := by
  unfold State.grant
  simp only
  have h1 : Controls F s { t.leaveQueue q.axis with
      supply := { t.supply with grantCounter := t.supply.grantCounter + 1 } } :=
    (h.leaveQueue q.axis).setGrantCounter _
  have h2 := h1.engage q.axis c t.supply.grantCounter free
  split
  · next b e hb =>
    refine h2.engage b e _ ?_
    rw [engage_ch]
    split
    · simp
    · exact free' e rfl
  · exact h2

theorem Controls.passWalk (qs : List GrantRequest) (r : Option Nat) {t : State} (h : Controls F s t) :
    Controls F s (passWalk qs r t) := by
  induction qs generalizing r t with
  | nil => exact h
  | cons q qs ih =>
    unfold Machine.passWalk
    split
    · exact ih _ h
    · next c d e =>
      have f := chooseChans_free e
      split
      · exact ih _ h
      · split
        · exact ih _ (h.grant q c d (by rw [f.1]; simp) (fun x hx => by rw [f.2 x hx]; simp))
        · exact ih _ h

theorem Controls.grantPass (h : Controls F s t) : Controls F s t.grantPass := by
  unfold State.grantPass
  split
  · exact Controls.passWalk _ _ h
  · exact h

theorem Controls.passSince (h : Controls F s t) (u : State) : Controls F s (t.passSince u) := by
  unfold State.passSince
  split
  · exact h.grantPass
  · exact h

/-! ### Stops -/

theorem Controls.startStopFrom (h : Controls F s t) (n : Nat) (a : AxisNo) (d : Dest) (m : StopMode) :
    Controls F s (t.startStopFrom n a d m) :=
  h.modAx a _ (fun x => by exact { KeptAxis.refl x with })

theorem Controls.startStop (h : Controls F s t) (a : AxisNo) (d : Dest) (m : StopMode) : Controls F s (t.startStop a d m) :=
  h.startStopFrom _ a d m

theorem Controls.stopAxisFrom (h : Controls F s t) (n : Nat) (a : AxisNo) (r : StopReq) :
    Controls F s (t.stopAxisFrom n a r) := by
  unfold State.stopAxisFrom
  simp only
  split
  · exact h.startStopFrom _ _ _ _
  · exact h.modAx a _ (KeptAxis.meet r)
  · split
    · exact h.modAx a _ (KeptAxis.meet r)
    · exact h.modAx a _ (fun x => by exact { KeptAxis.refl x with })
  · split
    · exact h
    · exact (h.leaveQueue a).modAx a _ (KeptAxis.toIdle _)
    · exact (h.leaveQueue a).modAx a _ (KeptAxis.toIdle _)
    · exact (h.leaveQueue a).modAx a _ (fun x => by exact { KeptAxis.refl x with })
  · split
    · exact h.modAx a _ (KeptAxis.toIdle _)
    · exact h.modAx a _ (KeptAxis.toIdle _)
    · exact h
    · exact h
  · split
    · exact h.startStopFrom _ _ _ _
    · exact h
    · exact h
    · exact h
  · split
    · exact h.modAx a _ (fun x => by exact { KeptAxis.refl x with })
    · exact h
    · exact h
    · exact h
  · exact h
  · exact h

theorem Controls.stopAxis (h : Controls F s t) (a : AxisNo) (r : StopReq) : Controls F s (t.stopAxis a r) :=
  h.stopAxisFrom _ a r

theorem Controls.stopAll (h : Controls F s t) (as : List AxisNo) (r : StopReq) : Controls F s (t.stopAll as r) :=
  h.foldl as _ (fun _ a hu => hu.stopAxisFrom _ a r)

/-! ### Runners told -/

theorem Controls.runPaused (h : Controls F s t) (r : RunnerNo) (run : Run) : Controls F s (t.runPaused r run) := h.report _

theorem Controls.pauseFor (h : Controls F s t) (r : RunnerNo) (why : Reason) : Controls F s (t.pauseFor r why) := by
  unfold State.pauseFor
  split
  · exact h
  · simp only
    split
    · exact (h.setRun r _).stopAll _ _
    · exact h.setRun r _
    · split
      · exact h
      · exact (h.setRun r _).runPaused r _
    · exact h

theorem Controls.tellRunnerFault (h : Controls F s t) (r : RunnerNo) (a : AxisNo) (k : FaultKind) :
    Controls F s (t.tellRunnerFault r a k) := by
  unfold State.tellRunnerFault
  split
  · exact h
  · split
    · exact h
    · exact (h.setRun r _).pauseFor r _

theorem Controls.tellOwnerFault (h : Controls F s t) (a : AxisNo) (k : FaultKind) : Controls F s (t.tellOwnerFault a k) := by
  unfold State.tellOwnerFault
  split
  · exact h
  · exact h.modOp a _
  · exact h.tellRunnerFault _ a k

/-! ### Backoff and faults -/

theorem Controls.beginBackoff (h : Controls F s t) (a : AxisNo) (d : Dir) (n : Nat) : Controls F s (t.beginBackoff a d n) :=
  h.foldl _ _ (fun _ b hu => hu.modAx b _ (fun x => by exact { KeptAxis.refl x with }))

theorem Controls.cutBackoff (h : Controls F s t) (a : AxisNo) (m : StopMode) : Controls F s (t.cutBackoff a m) :=
  h.foldl _ _ (fun _ b hu => hu.modAx b _ (fun x => by
    split
    · exact KeptAxis.refl x
    · exact KeptAxis.cutShort _ _ x))

theorem Controls.faultMotion (h : Controls F s t) (a : AxisNo) (k : FaultKind) (due : Option Pinch) :
    Controls F s (t.faultMotion a k due) := by
  unfold State.faultMotion
  simp only
  split
  · exact h.beginBackoff _ _ _
  · split
    · exact h.startStop _ _ _
    · exact h.modAx a _ (fun x => by exact { KeptAxis.refl x with })
    · split
      · split
        · exact h.cutBackoff a _
        · exact h
      · exact h
    · exact h.modAx a _ (fun x => by exact { KeptAxis.refl x with })
    · exact (h.leaveQueue a).modAx a _ KeptAxis.toFault
    · exact h.startStop _ _ _
    · exact h.modAx a _ KeptAxis.toFault
    · exact h.modAx a _ KeptAxis.toFault
    · exact h

theorem KeptAxis.dropMove (x : Axis) : KeptAxis F x x.dropMove := { KeptAxis.refl x with }

theorem KeptAxis.partnerStopped (x : Axis) : KeptAxis F x x.partnerStopped := by
  unfold Axis.partnerStopped
  split
  · split
    · exact KeptAxis.refl x
    · exact { KeptAxis.refl x with }
  · exact { KeptAxis.refl x with }

theorem Controls.partnerStop (h : Controls F s t) (p : AxisNo) : Controls F s (t.partnerStop p) := by
  unfold State.partnerStop
  split
  · exact (h.startStop _ _ _).modAx p _ KeptAxis.dropMove
  · exact h.modAx p _ KeptAxis.partnerStopped
  · exact h.modAx p _ KeptAxis.partnerStopped
  · exact (h.leaveQueue p).modAx p _ (KeptAxis.toIdle _)
  · exact h.modAx p _ (KeptAxis.toIdle _)
  · exact (h.startStop _ _ _).modAx p _ KeptAxis.dropMove
  · exact h.modAx p _ KeptAxis.dropMove
  · exact h
  · exact h

/-- The record of a fault is written only where there is none (R62). -/
theorem KeptAxis.recordFault (x : Axis) (r : FaultRec) :
    KeptAxis F x { x with fault := some (match x.fault with
      | none => r
      | some f => { f with further := true }) } :=
  { KeptAxis.refl x with
    fault := fun f hf => ⟨{ f with further := true }, by simp [hf], rfl, rfl, rfl, rfl⟩ }

theorem Controls.raiseFault (h : Controls F s t) (a : AxisNo) (k : FaultKind) (c : Cause) (e : Option EntryNo)
    (due : Option Pinch) : Controls F s (t.raiseFault a k c e due) := by
  unfold State.raiseFault
  simp only
  have h1 := ((h.modAx a (fun x =>
    { x with fault := some (match x.fault with
      | none => ⟨k, c, x.pos, .none, e, false⟩
      | some f => { f with further := true }) }) (fun x => KeptAxis.recordFault x _)).report
    (.axisFault a (!(t.ax a).fault.isNone) k c (t.ax a).pos due.isSome e (t.ownerTag a))).faultMotion a k due
  split
  · split
    · split
      · exact h1.tellOwnerFault a k
      · exact (h1.tellOwnerFault a k).partnerStop _
    · exact h1.tellOwnerFault a k
  · exact h1

theorem Controls.raiseNoChannel (h : Controls F s t) (as : List AxisNo) (c : ChanNo) :
    Controls F s (t.raiseNoChannel as c) :=
  h.foldl as _ (fun _ a hu => hu.raiseFault a _ _ _ _)

theorem Controls.raiseSkew (h : Controls F s t) (as : List AxisNo) (n : Nat) : Controls F s (t.raiseSkew as n) :=
  h.foldl as _ (fun _ a hu => hu.raiseFault a _ _ _ _)

end Sys2Proof.Safety
end

