-- ==== Sys2Proof/Laws/MovesKept.lean ====
section
/-! SUPPORT. The operations of Moves.lean, the consequences of a position change, and the first part of the settling keep what
`Controls` says. -/

namespace Sys2Proof.Safety

open Sys2Proof.Machine Sys2Proof.Laws

variable {s t : State} {F : Prop}

/-! ### Joining the queue -/

theorem Controls.reevaluateCreep (h : Controls F s t) (as : List AxisNo) : Controls F s (t.reevaluateCreep as) := by
  unfold State.reevaluateCreep
  split
  · exact h.modAll as _ (fun x => by exact { KeptAxis.refl x with })
  · exact h

theorem Controls.wakeStage (h : Controls F s t) : Controls F s t.wakeStage := by
  unfold State.wakeStage
  split
  · exact h.setStage _
  · exact h

theorem Controls.failJoin (h : Controls F s t) (as : List AxisNo) : Controls F s (t.failJoin as) := by
  unfold State.failJoin
  dsimp only
  have h1 := h.modAll as (fun x => { x with motion := .idle, stop := none, backoff := none, link := none })
    (fun x => by exact { KeptAxis.refl x with })
  split
  · exact h1.raiseNoChannel as _
  · exact h1.raiseNoChannel as _
  · exact (h1.setFree _).raiseNoChannel as _

theorem Controls.joinQueue (h : Controls F s t) (as : List AxisNo) (held : Bool) : Controls F s (t.joinQueue as held) := by
  unfold State.joinQueue
  split
  · split
    · exact h
    · dsimp only
      split
      · exact (((h.modAll _ _ (fun x => by exact { KeptAxis.refl x with })).setQueue _).notIdle.wakeStage).grantPass
      · exact ((((h.setStamps _).modAll _ _ (fun x => by exact { KeptAxis.refl x with })).setQueue _).notIdle.wakeStage).grantPass
  · exact (h.failJoin as).passSince t

/-! ### BLOCKED -/

theorem Controls.blockedReport (h : Controls F s t) (ev : BlockEvent) (a : AxisNo) (l : BlockLink) :
    Controls F s (t.blockedReport ev a l) := h.report _

theorem Controls.searchDeadlock (h : Controls F s t) (a : AxisNo) : Controls F s (t.searchDeadlock a) := by
  unfold State.searchDeadlock
  split
  · split
    · exact h.raiseFault a _ _ _ _
    · exact h
  · exact h

theorem Controls.blockEntry (h : Controls F s t) (as : List AxisNo) : Controls F s (t.blockEntry as) := by
  unfold State.blockEntry
  dsimp only
  split
  · exact h
  · refine Controls.foldl (Controls.foldl h.notIdle _ _ (fun u p hu => ?_)) _ _ (fun u p hu => ?_)
    · exact (hu.modAx p.1 _ (fun x => by exact { KeptAxis.refl x with })).blockedReport _ _ _
    · split
      · exact hu.searchDeadlock _
      · exact hu

theorem Controls.enterBlocked (h : Controls F s t) (as : List AxisNo) : Controls F s (t.enterBlocked as) :=
  (h.blockEntry as).passSince t

theorem Controls.startOrBlock (h : Controls F s t) (as : List AxisNo) : Controls F s (t.startOrBlock as) := by
  unfold State.startOrBlock
  split
  · exact h.enterBlocked as
  · exact h.joinQueue as false

/-! ### Gates, marks, completions -/

theorem Controls.judgeRun (h : Controls F s t) (r : RunnerNo) (f : Gate → GateState → GateState) :
    Controls F s (t.judgeRun r f) := by
  unfold State.judgeRun
  split
  · exact h
  · split
    · exact h
    · exact h.setRun r _

theorem Controls.judgeAll (h : Controls F s t) (f : Gate → GateState → GateState) : Controls F s (t.judgeAll f) :=
  h.foldl _ _ (fun _ r hu => hu.judgeRun r f)

theorem Controls.setMark (h : Controls F s t) (m : MarkNo) : Controls F s (t.setMark m) := by
  unfold State.setMark
  split
  · exact h
  · exact (h.setMarks _).judgeAll _

theorem Controls.endRun (h : Controls F s t) (r : RunnerNo) (k : EndKind) : Controls F s (t.endRun r k) := by
  unfold State.endRun
  split
  · exact h
  · exact ((h.report _).modAll _ _ (fun x => by exact { KeptAxis.refl x with })).setRun r _

theorem Controls.setDoneMark (h : Controls F s t) (run : Run) (i : Nat) : Controls F s (t.setDoneMark run i) := by
  unfold State.setDoneMark
  split
  · exact h
  · exact h.setMark _

theorem Controls.completeMove (h : Controls F s t) (r : RunnerNo) (i : Nat) (o : MoveOutcome) (fins : List FinalPos) :
    Controls F s (t.completeMove r i o fins) := by
  unfold State.completeMove
  split
  · exact h
  · dsimp only
    have h1 := fun run => ((h.setRun r (some (Run.setMove run i (.done o)))).setDoneMark run i).report
      (.moveEnd r run.slot i o fins run.elapsed)
    split
    · exact h1 _
    · split
      · exact (h1 _).judgeRun r _
      · split
        · exact ((h1 _).judgeRun r _).endRun r _
        · exact (h1 _).judgeRun r _

theorem Controls.tellOutcome (h : Controls F s t) (a : AxisNo) (o : MoveOutcome) (fins : List FinalPos) :
    Controls F s (t.tellOutcome a o fins) := by
  unfold State.tellOutcome
  split
  · exact h
  · exact h.modOp a _
  · split
    · exact h
    · exact h.completeMove _ _ _ _

/-! ### Activation, restart, the engine -/

theorem Controls.latch (h : Controls F s t) (as : List AxisNo) (named : AxisNo) (target : Nat) (e : Bool) (p : Nat)
    (i : Fin 8) : Controls F s (t.latch as named target e p i) :=
  (h.modAll as _ (fun x => by exact { KeptAxis.refl x with })).reevaluateCreep as

theorem Controls.planFails (h : Controls F s t) (r : RunnerNo) (i : Nat) (c : PlanCause) :
    Controls F s (t.planFails r i c) := by
  unfold State.planFails
  split
  · exact h
  · exact ((h.setRun r _).pauseFor r _).passSince t

theorem Controls.activate (h : Controls F s t) (r : RunnerNo) (run : Run) (i : Nat) (e : PlanEntry) :
    Controls F s (t.activate r run i e) := by
  unfold State.activate
  dsimp only
  split
  · exact h.planFails r i _
  · split
    · exact h.completeMove r i _ _
    · exact ((h.setRun r _).latch _ _ _ _ _ _).startOrBlock _

theorem Controls.finish (h : Controls F s t) (as : List AxisNo) (o : MoveOutcome) : Controls F s (t.finish as o) := by
  unfold State.finish
  split
  · exact h
  · exact ((h.modAll _ _ (KeptAxis.toIdle false)).passSince t).tellOutcome _ _ _

theorem Controls.restart (h : Controls F s t) (e : PlanEntry) : Controls F s (t.restart e) := by
  unfold State.restart
  dsimp only
  split
  · exact (h.reevaluateCreep _).finish _ _
  · exact (h.reevaluateCreep _).startOrBlock _

theorem Controls.takeUp (h : Controls F s t) (r : RunnerNo) (run : Run) (i : Nat) : Controls F s (t.takeUp r run i) := by
  unfold State.takeUp
  split
  · split
    · exact h.restart _
    · exact h.activate r run i _
  · exact h

theorem Controls.passes (n : Nat) {t : State} (h : Controls F s t) : Controls F s (State.passes n t) := by
  induction n generalizing t with
  | zero => exact h
  | succ n ih =>
    unfold State.passes
    split
    · exact h
    · exact ih (h.takeUp _ _ _)

theorem Controls.engine (h : Controls F s t) : Controls F s t.engine := Controls.passes 128 h

/-! ### Unblocking -/

theorem Controls.proceed (h : Controls F s t) (as : List AxisNo) : Controls F s (t.proceed as) := by
  unfold State.proceed
  split
  · exact (h.finish as _).engine
  · exact (h.reevaluateCreep as).joinQueue as _

theorem Controls.unblock (h : Controls F s t) (as : List AxisNo) : Controls F s (t.unblock as) := by
  refine Controls.proceed (h.foldl as _ (fun u a hu => ?_)) as
  split
  · exact hu
  · exact (hu.modAx a _ (fun x => by exact { KeptAxis.refl x with })).blockedReport _ _ _

theorem Controls.reevaluate (h : Controls F s t) (a : AxisNo) : Controls F s (t.reevaluate a) := by
  unfold State.reevaluate
  split
  · dsimp only
    split
    · exact h.unblock _
    · have h1 : ∀ (l : List (AxisNo × Option (EntryNo × AxisNo))) (g : AxisNo × Option (EntryNo × AxisNo) → BlockLink → BlockLink),
          Controls F s (l.foldl (fun t p => match (t.ax p.1).link with
            | none => t
            | some l => (t.modAx p.1 (fun x => { x with link := some (g p l) })).blockedReport .change p.1 (g p l)) t) := by
        intro l g
        refine h.foldl _ _ (fun u p hu => ?_)
        split
        · exact hu
        · exact (hu.modAx p.1 _ (fun x => by exact { KeptAxis.refl x with })).blockedReport _ _ _
      refine Controls.passSince (Controls.foldl (h1 _ (fun p l => linkOf p.2 _ l.timer)) _ _ (fun u p hu => ?_)) t
      split
      · exact hu.searchDeadlock _
      · exact hu
  · exact h

/-! ### A position change -/

theorem Controls.blockGang (h : Controls F s t) (a : AxisNo) (n : EntryNo) (p : AxisNo) : Controls F s (t.blockGang a n p) := by
  unfold State.blockGang
  dsimp only
  split
  · exact (h.stopAll _ _).blockEntry _
  · exact h.cutBackoff a _
  all_goals exact h.stopAll _ _

theorem Controls.blocksOf (h : Controls F s t) (n : EntryNo) (e : KeepoutEntry) : Controls F s (t.blocksOf n e) := by
  unfold State.blocksOf
  split
  · refine h.foldl _ _ (fun u x hu => ?_)
    split
    · exact hu.blockGang _ _ _
    · exact hu
  · exact h

theorem Controls.blocks (h : Controls F s t) (a : AxisNo) : Controls F s (t.blocks a) := by
  refine h.foldl _ _ (fun u n hu => ?_)
  split
  · exact hu
  · split
    · exact hu.blocksOf _ _
    · exact hu

theorem Controls.breach (h : Controls F s t) (a : AxisNo) (old : Option Nat) : Controls F s (t.breach a old) := by
  unfold State.breach
  split
  · split
    · exact h
    · exact h.raiseFault a _ _ _ _
  · exact h

theorem Controls.reevaluateRelated (h : Controls F s t) (a : AxisNo) : Controls F s (t.reevaluateRelated a) := by
  refine h.foldl _ _ (fun u x hu => ?_)
  split
  · exact hu.reevaluate x
  · exact hu

theorem Controls.checkSkew (f : F) (h : Controls F s t) (a : AxisNo) : Controls F s (t.checkSkew a) := by
  unfold State.checkSkew
  split
  · exact h
  · split
    · exact h
    · split
      · exact h
      · split
        · split
          · exact h
          · exact ((h.modAll _ _ (fun x => by exact { KeptAxis.refl x with })).raiseSkew _ _).passSince t
        · split
          · exact h.foldl _ _ (fun u x hu => hu.suspect f x _)
          · exact h

theorem Controls.positionChange (f : F) (h : Controls F s t) (a : AxisNo) (old : Option Nat) (count : Bool) :
    Controls F s (t.positionChange a old count) := by
  unfold State.positionChange
  dsimp only
  have key : ∀ u, Controls F s u → Controls F s (((((u.blocks a).passSince t).reevaluateRelated a).judgeAll
      (openIf (whenHolds a ((((u.blocks a).passSince t).reevaluateRelated a).ax a).pos))).engine.checkSkew a) :=
    fun u hu => (((((hu.blocks a).passSince t).reevaluateRelated a).judgeAll _).engine).checkSkew f a
  split
  · exact key _ (h.breach a old)
  · exact key _ h

theorem Controls.handOn (f : F) (h : Controls F s t) (a : AxisNo) (old : Option Nat) : Controls F s (t.handOn a old) := by
  unfold State.handOn
  split
  · exact h
  · exact h.positionChange f a old false

/-! ### Drives -/

theorem Controls.advance (h : Controls F s t) (a : AxisNo) : Controls F s (t.advance a) := by
  unfold State.advance
  dsimp only
  split
  · split
    · exact h
    · repeat' split
      all_goals first
        | exact h.startStop a _ _
        | exact h.modAx a _ (fun x => by exact { KeptAxis.refl x with })
  · exact h

theorem Controls.enterDriving (h : Controls F s t) (a : AxisNo) : Controls F s (t.enterDriving a) := by
  unfold State.enterDriving
  dsimp only
  exact (h.modAx a _ (fun x => by exact { KeptAxis.refl x with })).advance a

theorem Controls.enterCorrect (h : Controls F s t) (a : AxisNo) (d : Dir) : Controls F s (t.enterCorrect a d) :=
  h.modAx a _ (fun x => by exact { KeptAxis.refl x with })

theorem Controls.enterReverse (h : Controls F s t) (a : AxisNo) : Controls F s (t.enterReverse a) :=
  h.modAx a _ (fun x => by split <;> exact { KeptAxis.refl x with })

theorem Controls.enterChecking (h : Controls F s t) (a : AxisNo) : Controls F s (t.enterChecking a) :=
  h.modAx a _ (fun x => by exact { KeptAxis.refl x with })

/-! ### The first part of the settling -/

theorem Controls.restRunner (h : Controls F s t) (r : RunnerNo) : Controls F s (t.restRunner r) := by
  unfold State.restRunner
  split
  · exact h
  · split
    · split
      · exact (h.setRun r _).runPaused r _
      · exact h
      · exact h.endRun r _
      all_goals exact h
    · exact h

theorem Controls.restRunners (h : Controls F s t) : Controls F s t.restRunners :=
  h.foldl _ _ (fun _ r hu => hu.restRunner r)

theorem Controls.concludeOp (h : Controls F s t) (a : AxisNo) : Controls F s (t.concludeOp a) := by
  unfold State.concludeOp
  split
  · exact h
  · exact h
  · split
    · exact h
    · split
      · exact (h.report _).modAll _ _ (fun x => by exact { KeptAxis.refl x with })
      · exact h

theorem Controls.concludeOps (h : Controls F s t) : Controls F s t.concludeOps :=
  h.foldl _ _ (fun _ a hu => hu.concludeOp a)

/-- The activation passes, the runners at rest and the link operations that end are control. -/
theorem Controls.conclude (h : Controls F s t) : Controls F s t.engine.restRunners.concludeOps :=
  h.engine.restRunners.concludeOps

end Sys2Proof.Safety
end

