-- ==== Sys2Proof/Laws/Clocks.lean ====
section
/-! SUPPORT. What the timers and the transmitter do at the end of every meaning: one lemma per field of State for
`State.clocks`, and that a calm state settles to its `clocks`. -/

namespace Sys2Proof.Laws

open Sys2Proof.Machine Sys2Proof.Safety

/-! ### The parts of `clocks` -/

theorem SameAxis.refl (x : Axis) : SameAxis x x := rfl

theorem SameAxis.trans {x y z : Axis} (h : SameAxis x y) (k : SameAxis y z) : SameAxis x z := by
  unfold SameAxis at *
  rw [h] at k
  exact k

/-- Two states agree on everything but the axes, the power state and its dwell timer, and what the timers and the transmitter
of the link hold. -/
def ClockKept (s t : State) : Prop := t =
  { s with
    axes := t.axes, power := { s.power with state := t.power.state, dwell := t.power.dwell },
    link := { s.link with
      supervision := t.link.supervision, cadence := t.link.cadence, slot := t.link.slot, tx := t.link.tx,
      reports := t.link.reports } }

theorem ClockKept.refl (s : State) : ClockKept s s := rfl

theorem ClockKept.trans {s t u : State} (h : ClockKept s t) (k : ClockKept t u) : ClockKept s u := by
  unfold ClockKept at *
  rw [h] at k
  exact k

theorem updateIdle_kept (s : State) : ClockKept s s.updateIdle := by
  unfold State.updateIdle State.notIdle ClockKept
  repeat' split
  all_goals rfl

theorem updateSupervision_kept (s : State) : ClockKept s s.updateSupervision := by
  unfold State.updateSupervision ClockKept
  repeat' split
  all_goals rfl

theorem updateCadence_kept (s : State) : ClockKept s s.updateCadence := rfl

theorem startTx_kept (s : State) : ClockKept s s.startTx := by
  unfold State.startTx ClockKept
  repeat' split
  all_goals rfl

/-- A relation that every step of a fold keeps holds over the fold. -/
theorem foldl_rel {α β : Type} {R : β → β → Prop} (refl : ∀ s, R s s) (trans : ∀ {s t u}, R s t → R t u → R s u)
    (l : List α) (f : β → α → β) (hf : ∀ t a, R t (f t a)) (s : β) : R s (l.foldl f s) := by
  induction l generalizing s with
  | nil => exact refl s
  | cons a l ih => exact trans (hf s a) (ih _)

theorem sampleDuty_kept (s : State) : ClockKept s s.sampleDuty :=
  foldl_rel ClockKept.refl ClockKept.trans _ _ (fun t a => show ClockKept t (t.modAx a _) from rfl) s

theorem clearSkew_kept (s : State) : ClockKept s s.clearSkew :=
  foldl_rel ClockKept.refl ClockKept.trans _ _ (fun t a => by dsimp only; split <;> rfl) s

/-- A fold of axis updates that each keep `SameAxis` keeps it. -/
theorem foldAxes_same (l : List AxisNo) (f : State → AxisNo → State)
    (hf : ∀ t a b, SameAxis (t.ax b) ((f t a).ax b)) (s : State) (b : AxisNo) :
    SameAxis (s.ax b) ((l.foldl f s).ax b) := by
  induction l generalizing s with
  | nil => exact SameAxis.refl _
  | cons a l ih => exact SameAxis.trans (hf s a b) (ih _)

theorem sampleDuty_same (s : State) (b : AxisNo) : SameAxis (s.ax b) (s.sampleDuty.ax b) :=
  foldAxes_same _ _ (fun t a b => by
    dsimp only
    rw [ax_modAx]
    split
    · next e => subst e; rfl
    · rfl) s b

theorem clearSkew_same (s : State) (b : AxisNo) : SameAxis (s.ax b) (s.clearSkew.ax b) :=
  foldAxes_same _ _ (fun t a b => by
    dsimp only
    split
    · rfl
    · rw [ax_modAx]
      split
      · next e => subst e; rfl
      · rfl) s b

/-! ### `clocks`, field by field -/

/-- `clocks` changes the axes, the timers, the power state between DOZE and ACTIVE, and the transmit path alone. -/
theorem clocks_kept (s : State) : ClockKept s s.clocks :=
  (updateIdle_kept s).trans ((updateSupervision_kept _).trans ((updateCadence_kept _).trans ((sampleDuty_kept _).trans
    ((clearSkew_kept _).trans (startTx_kept _)))))

theorem ClockKept.store {s t : State} (h : ClockKept s t) : t.store = s.store := by rw [h]
theorem ClockKept.chans {s t : State} (h : ClockKept s t) : t.chans = s.chans := by rw [h]
theorem ClockKept.queue {s t : State} (h : ClockKept s t) : t.queue = s.queue := by rw [h]
theorem ClockKept.stamps {s t : State} (h : ClockKept s t) : t.stamps = s.stamps := by rw [h]
theorem ClockKept.supply {s t : State} (h : ClockKept s t) : t.supply = s.supply := by rw [h]
theorem ClockKept.entries {s t : State} (h : ClockKept s t) : t.entries = s.entries := by rw [h]
theorem ClockKept.places {s t : State} (h : ClockKept s t) : t.places = s.places := by rw [h]
theorem ClockKept.slots {s t : State} (h : ClockKept s t) : t.slots = s.slots := by rw [h]
theorem ClockKept.marks {s t : State} (h : ClockKept s t) : t.marks = s.marks := by rw [h]
theorem ClockKept.runners {s t : State} (h : ClockKept s t) : t.runners = s.runners := by rw [h]
theorem ClockKept.inhibit {s t : State} (h : ClockKept s t) : t.inhibit = s.inhibit := by rw [h]
theorem ClockKept.wakeLine {s t : State} (h : ClockKept s t) : t.wakeLine = s.wakeLine := by rw [h]
theorem ClockKept.freeIndex {s t : State} (h : ClockKept s t) : t.freeIndex = s.freeIndex := by rw [h]
theorem ClockKept.pending {s t : State} (h : ClockKept s t) : t.pending = s.pending := by rw [h]
theorem ClockKept.rx {s t : State} (h : ClockKept s t) : t.link.rx = s.link.rx := by rw [h]
theorem ClockKept.intake {s t : State} (h : ClockKept s t) : t.link.intake = s.link.intake := by rw [h]
theorem ClockKept.overflow {s t : State} (h : ClockKept s t) : t.link.overflow = s.link.overflow := by rw [h]
theorem ClockKept.setup {s t : State} (h : ClockKept s t) : t.link.setup = s.link.setup := by rw [h]
theorem ClockKept.inReset {s t : State} (h : ClockKept s t) : t.power.inReset = s.power.inReset := by rw [h]
theorem ClockKept.stage {s t : State} (h : ClockKept s t) : t.power.stage = s.power.stage := by rw [h]
theorem ClockKept.sleepOpts {s t : State} (h : ClockKept s t) : t.power.sleepOpts = s.power.sleepOpts := by rw [h]
theorem ClockKept.sleepTime {s t : State} (h : ClockKept s t) : t.power.sleepTime = s.power.sleepTime := by rw [h]
theorem ClockKept.sleepTicks {s t : State} (h : ClockKept s t) : t.power.sleepTicks = s.power.sleepTicks := by rw [h]
theorem ClockKept.wakeCause {s t : State} (h : ClockKept s t) : t.power.wakeCause = s.power.wakeCause := by rw [h]

@[simp] theorem clocks_store (s : State) : s.clocks.store = s.store := (clocks_kept s).store
@[simp] theorem clocks_chans (s : State) : s.clocks.chans = s.chans := (clocks_kept s).chans
@[simp] theorem clocks_queue (s : State) : s.clocks.queue = s.queue := (clocks_kept s).queue
@[simp] theorem clocks_stamps (s : State) : s.clocks.stamps = s.stamps := (clocks_kept s).stamps
@[simp] theorem clocks_supply (s : State) : s.clocks.supply = s.supply := (clocks_kept s).supply
@[simp] theorem clocks_entries (s : State) : s.clocks.entries = s.entries := (clocks_kept s).entries
@[simp] theorem clocks_places (s : State) : s.clocks.places = s.places := (clocks_kept s).places
@[simp] theorem clocks_slots (s : State) : s.clocks.slots = s.slots := (clocks_kept s).slots
@[simp] theorem clocks_marks (s : State) : s.clocks.marks = s.marks := (clocks_kept s).marks
@[simp] theorem clocks_runners (s : State) : s.clocks.runners = s.runners := (clocks_kept s).runners
@[simp] theorem clocks_inhibit (s : State) : s.clocks.inhibit = s.inhibit := (clocks_kept s).inhibit
@[simp] theorem clocks_wakeLine (s : State) : s.clocks.wakeLine = s.wakeLine := (clocks_kept s).wakeLine
@[simp] theorem clocks_freeIndex (s : State) : s.clocks.freeIndex = s.freeIndex := (clocks_kept s).freeIndex
@[simp] theorem clocks_pending (s : State) : s.clocks.pending = s.pending := (clocks_kept s).pending
@[simp] theorem clocks_rx (s : State) : s.clocks.link.rx = s.link.rx := (clocks_kept s).rx
@[simp] theorem clocks_intake (s : State) : s.clocks.link.intake = s.link.intake := (clocks_kept s).intake
@[simp] theorem clocks_overflow (s : State) : s.clocks.link.overflow = s.link.overflow := (clocks_kept s).overflow
@[simp] theorem clocks_setup (s : State) : s.clocks.link.setup = s.link.setup := (clocks_kept s).setup
@[simp] theorem clocks_inReset (s : State) : s.clocks.power.inReset = s.power.inReset := (clocks_kept s).inReset
@[simp] theorem clocks_stage (s : State) : s.clocks.power.stage = s.power.stage := (clocks_kept s).stage
@[simp] theorem clocks_sleepOpts (s : State) : s.clocks.power.sleepOpts = s.power.sleepOpts := (clocks_kept s).sleepOpts
@[simp] theorem clocks_sleepTime (s : State) : s.clocks.power.sleepTime = s.power.sleepTime := (clocks_kept s).sleepTime
@[simp] theorem clocks_sleepTicks (s : State) : s.clocks.power.sleepTicks = s.power.sleepTicks := (clocks_kept s).sleepTicks
@[simp] theorem clocks_wakeCause (s : State) : s.clocks.power.wakeCause = s.power.wakeCause := (clocks_kept s).wakeCause

theorem startTx_axes (s : State) : s.startTx.axes = s.axes := by
  unfold State.startTx
  repeat' split
  all_goals rfl

theorem updateSupervision_axes (s : State) : s.updateSupervision.axes = s.axes := by
  unfold State.updateSupervision
  repeat' split
  all_goals rfl

theorem updateIdle_axes (s : State) : s.updateIdle.axes = s.axes := by
  unfold State.updateIdle State.notIdle
  repeat' split
  all_goals rfl

/-- Every axis but for the duties of the interval and the skew mark stands as it did. -/
theorem clocks_ax (s : State) (a : AxisNo) : SameAxis (s.ax a) (s.clocks.ax a) := by
  have h := SameAxis.trans (sampleDuty_same s.updateIdle.updateSupervision.updateCadence a) (clearSkew_same _ a)
  have e : s.updateIdle.updateSupervision.updateCadence.axes = s.axes :=
    (updateSupervision_axes _).trans (updateIdle_axes s)
  rw [ax_congr e] at h
  unfold State.clocks
  rw [ax_congr (startTx_axes _)]
  exact h

theorem SameAxis.measured {x y : Axis} (h : SameAxis x y) : Measured x y := by
  unfold SameAxis at h
  rw [h]
  exact { config := rfl, pos := rfl, overrun := rfl, lashDir := rfl, lashRem := rfl, ref := .inl rfl, heat := rfl,
          lockout := rfl, lastCheck := rfl }

theorem startTx_power (s : State) : s.startTx.power = s.power := by
  unfold State.startTx
  repeat' split
  all_goals rfl

theorem updateSupervision_power (s : State) : s.updateSupervision.power = s.power := by
  unfold State.updateSupervision
  repeat' split
  all_goals rfl

theorem clearSkew_power (s : State) : s.clearSkew.power = s.power :=
  (foldl_rel (R := fun a b : State => b.power = a.power) (fun _ => rfl) (fun h k => k.trans h) allAxes _
    (fun t a => by dsimp only; split <;> rfl) s)

theorem sampleDuty_power (s : State) : s.sampleDuty.power = s.power :=
  (foldl_rel (R := fun a b : State => b.power = a.power) (fun _ => rfl) (fun h k => k.trans h) allAxes _ (fun _ _ => rfl) s)

/-- The power state and its dwell timer follow idleness. -/
theorem clocks_power (s : State) : s.clocks.power = s.updateIdle.power := by
  unfold State.clocks
  rw [startTx_power, clearSkew_power, sampleDuty_power]
  exact updateSupervision_power _

theorem clocks_state (s : State) : s.clocks.power.state = s.power.state ∨
    (s.power.state = .doze ∧ s.clocks.power.state = .active) := by
  rw [clocks_power]
  unfold State.updateIdle State.notIdle
  split
  · split <;> exact .inl rfl
  · next e =>
    split
    · exact .inl rfl
    · exact .inr ⟨e, by simp⟩
  all_goals exact .inl rfl

theorem startTx_reports (s : State) : s.startTx.link.reports.length ≤ s.link.reports.length := by
  unfold State.startTx
  repeat' split
  all_goals simp_all

theorem sampleDuty_link (s : State) : s.sampleDuty.link = s.link :=
  (foldl_rel (R := fun a b : State => b.link = a.link) (fun _ => rfl) (fun h k => k.trans h) allAxes _ (fun _ _ => rfl) s)

theorem clearSkew_link (s : State) : s.clearSkew.link = s.link :=
  (foldl_rel (R := fun a b : State => b.link = a.link) (fun _ => rfl) (fun h k => k.trans h) allAxes _
    (fun t a => by dsimp only; split <;> rfl) s)

theorem updateIdle_link (s : State) : s.updateIdle.link = s.link := by
  unfold State.updateIdle State.notIdle
  repeat' split
  all_goals rfl

theorem updateSupervision_reports (s : State) : s.updateSupervision.link.reports = s.link.reports := by
  unfold State.updateSupervision
  repeat' split
  all_goals rfl

theorem updateCadence_reports (s : State) : s.updateCadence.link.reports = s.link.reports := by
  unfold State.updateCadence
  rfl

/-- The report queue only loses the report that begins to be sent. -/
theorem clocks_reports (s : State) : s.clocks.link.reports.length ≤ s.link.reports.length := by
  have h := startTx_reports s.updateIdle.updateSupervision.updateCadence.sampleDuty.clearSkew
  rw [clearSkew_link, sampleDuty_link, updateCadence_reports, updateSupervision_reports, updateIdle_link] at h
  unfold State.clocks
  exact h

/-! ### Calm states -/

/-- A queue that is empty, or that no pass walks, is left alone by a grant pass. -/
theorem grantPass_waits {s : State} (h : s.queue = [] ∨ s.mayGrant = false) : s.grantPass = s := by
  unfold State.grantPass
  rcases h with e | e
  · rw [e]
    split <;> rfl
  · rw [e]
    rfl

/-- Nothing has departed between a state and itself. -/
theorem departed_self (s : State) : s.departed s = false := by
  unfold State.departed
  simp only [Bool.or_eq_false_iff, List.any_eq_false, Bool.and_eq_true, not_and]
  exact ⟨fun q h k => by simp [h] at k, fun a _ h => by simp [h]⟩

/-- Without a departure the conditional pass is none. -/
theorem passSince_none {s t : State} (h : s.departed t = false) : t.passSince s = t := by
  unfold State.passSince
  rw [h]
  rfl

/-- With a departure the conditional pass is a grant pass. -/
theorem passSince_departed {s t : State} (h : s.departed t = true) : t.passSince s = t.grantPass := by
  unfold State.passSince
  rw [h]
  rfl

@[simp] theorem passSince_self (s : State) : s.passSince s = s := passSince_none (departed_self s)

theorem passes_none {s : State} (h : s.nextMove = none) (n : Nat) : State.passes n s = s := by
  cases n with
  | zero => rfl
  | succ n => unfold State.passes; rw [h]

theorem restRunner_calm {s : State} {r : RunnerNo} (h : ∀ run, s.run r = some run →
    run.state = .running ∨ run.state = .paused ∨ (run.state = .halting ∧ run.endKind = some .reset)) :
    s.restRunner r = s := by
  unfold State.restRunner
  split
  · rfl
  · next run e =>
    split
    · rcases h run e with a | a | ⟨a, b⟩
      · rw [a]
      · rw [a]
      · rw [a, b]
    · rfl

theorem concludeOp_calm {s : State} {a : AxisNo} (h : ∀ op, (s.ax a).owner = .link op → op.result = none) :
    s.concludeOp a = s := by
  unfold State.concludeOp
  split
  · rfl
  · rfl
  · next op e => rw [h op e]

/-- A fold of operations that each leave the state alone leaves it alone. -/
theorem foldl_fixed {α β : Type} (l : List α) (f : β → α → β) (s : β) (h : ∀ a, f s a = s) : l.foldl f s = s := by
  induction l with
  | nil => rfl
  | cons a l ih => rw [List.foldl_cons, h a, ih]

/-- A calm state settles to its timers and its transmitter. -/
theorem settle_calm {s : State} (h : Calm s) : s.settle = s.clocks := by
  unfold State.settle
  rw [h.running]
  have e1 : s.engine = s := by
    unfold State.engine
    rw [passes_none h.moves]
  have e2 : s.restRunners = s := foldl_fixed _ _ s (fun r => restRunner_calm (h.runners r))
  have e3 : s.concludeOps = s := foldl_fixed _ _ s (fun a => concludeOp_calm (h.ops a))
  have e4 : s.yieldShare = s := by
    unfold State.yieldShare
    rcases h.share with e | e
    · simp [e]
    · simp [e]
  have e5 : s.completeReset = s := by
    unfold State.completeReset
    rcases h.awake with e | e | ⟨_, e⟩ <;> simp [e]
  rw [e1, e2, e3, e4, e5]
  simp

theorem event_calm {s : State} {f : State → State} (h : s.power.inReset = false) (k : Calm (f s)) :
    s.event f = .next (f s).clocks := by
  unfold State.event
  rw [h, settle_calm k]
  simp

/-! ### Calm under changes that it does not look at -/

theorem nextMove_congr {s t : State} (ha : t.axes = s.axes) (hr : t.runners = s.runners) (hp : t.places = s.places)
    (hs : t.slots = s.slots) : t.nextMove = s.nextMove := by
  cases s
  cases t
  dsimp only at ha hr hp hs
  subst ha hr hp hs
  rfl

theorem nothingMoves_congr {s t : State} (ha : t.axes = s.axes) : t.nothingMoves = s.nothingMoves := by
  unfold State.nothingMoves State.ax
  rw [ha]

/-- Without a RUNNING runner no move is taken up. -/
theorem nextMove_noRun {s : State} (h : NoRun s) : s.nextMove = none := by
  unfold State.nextMove
  rw [List.findSome?_eq_none_iff]
  intro r _
  split
  · rfl
  · next run e =>
    rw [if_neg (h r run e)]

/-! ### Requests that are taken at once -/

/-- A request that arrives in a state that takes it is taken on the state whose supervision window its frame restarted. -/
theorem offer_taken {s : State} (hr : s.power.inReset = false)
    (ha : s.power.state = .active ∨ s.power.state = .doze ∨ s.power.state = .resetting) (ht : Takes s) (f : Frame)
    (taken : State → State) : s.offer (some f) taken = (taken s.frameHeard).settle := by
  have e : s.offerFrame f taken = taken s.frameHeard := by
    unfold State.offerFrame State.frameHeard State.canTake
    split <;> simp [ht.intake, ht.slot, ht.sleepOpts]
  unfold State.offer
  rw [hr]
  rcases ha with a | a | a <;> simp [a, e]

theorem frameHeard_eq (s : State) :
    s.frameHeard = { s with link := { s.link with supervision := s.frameHeard.link.supervision } } := by
  unfold State.frameHeard
  split <;> rfl

end Sys2Proof.Laws

namespace Sys2Proof.Safety

open Sys2Proof.Machine Sys2Proof.Laws

/-- Calm looks at the axes, the runners and their plans, the handshake and the power controller alone. -/
theorem Calm.congr {s t : State} (h : Calm s) (ha : t.axes = s.axes) (hr : t.runners = s.runners)
    (hp : t.places = s.places) (hs : t.slots = s.slots)
    (hh : t.supply.handshake = s.supply.handshake) (hpw : t.power = s.power) : Calm t where
  running := by rw [hpw]; exact h.running
  awake := by rw [hpw, nothingMoves_congr ha]; exact h.awake
  moves := by rw [nextMove_congr ha hr hp hs]; exact h.moves
  runners := fun r run e => h.runners r run (by rw [← run_congr hr r]; exact e)
  ops := fun a op e => h.ops a op (by rw [← ax_congr ha a]; exact e)
  share := by rw [hh, nothingMoves_congr ha]; exact h.share

theorem Calm.reply {s : State} (h : Calm s) (k tag : Byte) (r : Result) (d : List Byte) : Calm (s.reply k tag r d) :=
  h.congr rfl rfl rfl rfl rfl rfl

theorem Calm.frameHeard {s : State} (h : Calm s) : Calm s.frameHeard := by
  rw [frameHeard_eq]
  exact h.congr rfl rfl rfl rfl rfl rfl

end Sys2Proof.Safety
end

