-- ==== Sys2Proof/Laws/Settle.lean ====
section
/-! SUPPORT. The whole settling as one operation, and the two forms a meaning has: a request that is offered, an event that
settles. -/

namespace Sys2Proof.Safety

open Sys2Proof.Machine Sys2Proof.Laws

theorem Measured.refl (x : Axis) : Measured x x := (KeptAxis.refl (F := True) x).toMeasured

theorem Measured.trans {x y z : Axis} (h : Measured x y) (k : Measured y z) : Measured x z where
  config := k.config.trans h.config
  pos := k.pos.trans h.pos
  overrun := k.overrun.trans h.overrun
  lashDir := k.lashDir.trans h.lashDir
  lashRem := k.lashRem.trans h.lashRem
  ref := by
    rcases k.ref with e | ⟨e, f⟩
    · rw [e]
      exact h.ref
    · rcases h.ref with g | ⟨g, i⟩
      · exact .inr ⟨g ▸ e, f⟩
      · rw [i] at e
        cases e
  heat := k.heat.trans h.heat
  lockout := k.lockout.trans h.lockout
  lastCheck := k.lastCheck.trans h.lastCheck

end Sys2Proof.Safety

namespace Sys2Proof.Laws

open Sys2Proof.Machine Sys2Proof.Safety

/-! ### The last parts of the settling -/

theorem yieldShare_power (s : State) : s.yieldShare.power = s.power := by
  unfold State.yieldShare
  split
  · unfold State.supplyReport
    rw [report_power]
  · rfl

/-- A SHARE_YIELD changes the supply monitor and the report queue alone. -/
theorem yieldShare_kept (s : State) : ∃ m l, s.yieldShare = { s with supply := m, link := l } ∧ m.band = s.supply.band ∧
    m.thermal = s.supply.thermal ∧ m.base = s.supply.base ∧ m.shareReq = s.supply.shareReq ∧ l.rx = s.link.rx ∧
    l.intake = s.link.intake ∧ l.setup = s.link.setup := by
  unfold State.yieldShare
  split
  · unfold State.supplyReport State.report
    split <;> exact ⟨_, _, rfl, rfl, rfl, rfl, rfl, rfl, rfl, rfl⟩
  · exact ⟨_, _, rfl, rfl, rfl, rfl, rfl, rfl, rfl, rfl⟩

theorem completeReset_other {s : State} (h : s.power.state ≠ .resetting) : s.completeReset = s := by
  unfold State.completeReset
  rw [if_neg (fun k => h k.1)]

/-- Outside RESETTING the settling is control, the share handshake, the timers and the transmitter. -/
theorem settle_other {s : State} (r : s.power.inReset = false) (h : s.power.state ≠ .resetting) :
    s.settle = s.engine.restRunners.concludeOps.yieldShare.clocks := by
  have e : s.engine.restRunners.concludeOps.yieldShare.completeReset = s.engine.restRunners.concludeOps.yieldShare := by
    apply completeReset_other
    rw [yieldShare_power]
    rcases (Controls.conclude (Controls.refl (F := False) s)).power with y | ⟨_, y⟩
    · rw [y]
      exact h
    · rw [y]
      simp
  unfold State.settle
  rw [r, e]
  simp

theorem settle_held {s : State} (r : s.power.inReset = true) : s.settle = s := by
  unfold State.settle
  rw [r]
  simp

/-! ### The two forms of a meaning -/

@[simp] theorem frameHeard_power (s : State) : s.frameHeard.power = s.power := by rw [frameHeard_eq]
@[simp] theorem frameHeard_axes (s : State) : s.frameHeard.axes = s.axes := by rw [frameHeard_eq]
@[simp] theorem frameHeard_intake (s : State) : s.frameHeard.link.intake = s.link.intake := by rw [frameHeard_eq]
@[simp] theorem frameHeard_slot (s : State) : s.frameHeard.link.slot = s.link.slot := by rw [frameHeard_eq]

theorem runs_cases {p : PowerState} (h : p.runs = true) : p = .active ∨ p = .doze ∨ p = .resetting := by
  cases p <;> simp_all [PowerState.runs]

theorem offer_runs {s : State} (h : s.power.inReset = false) (r : s.power.state.runs = true) (k : Takes s) (f : Frame)
    (t : State → State) : s.offer (some f) t = (t s.frameHeard).settle := offer_taken h (runs_cases r) k f t

/-- A request that cannot be taken now is admitted or discarded. -/
theorem offer_waits {s : State} (h : s.power.inReset = false) (r : s.power.state.runs = true) (n : ¬ Takes s) (f : Frame)
    (t : State → State) : s.offer (some f) t = (s.frameHeard.admitFrame f).settle := by
  have e : (s.frameHeard.link.intake.isEmpty && s.frameHeard.canTake) = false := by
    rw [Bool.eq_false_iff]
    intro q
    apply n
    simp [State.canTake] at q
    exact ⟨q.1, q.2.1, q.2.2⟩
  unfold State.offer
  rw [h]
  have k : s.offerFrame f t = s.frameHeard.admitFrame f := by
    unfold State.offerFrame
    dsimp only
    rw [e]
    simp
  rcases runs_cases r with a | a | a <;> simp [a, k]

theorem offer_listens {s : State} (h : Listens s) (f : Frame) (t : State → State) :
    s.offer (some f) t = (t s.frameHeard).settle :=
  offer_taken h.running (h.awake.elim .inl (fun x => .inr (.inl x))) h.toTakes f t

theorem offer_resets {s : State} (h : Resets s) (f : Frame) (t : State → State) :
    s.offer (some f) t = (t s.frameHeard).settle := offer_taken h.running (.inr (.inr h.resetting)) h.toTakes f t

theorem resetting_listens {s : State} (h : Listens s) : s.frameHeard.resetting = false := by
  unfold State.resetting
  rw [frameHeard_power]
  rcases h.awake with e | e <;> simp [e]

theorem resetting_resets {s : State} (h : Resets s) : s.frameHeard.resetting = true := by
  unfold State.resetting
  rw [frameHeard_power]
  simp [h.resetting]

theorem event_runs {s : State} (h : s.power.inReset = false) (f : State → State) : s.event f = .next (f s).settle := by
  unfold State.event
  rw [h]
  simp

end Sys2Proof.Laws
end

