-- ==== Sys2Proof/Laws/Measured.lean ====
section
/-! SUPPORT. What is measured of the axes stands through every settling, the completion of a soft reset included, every reference
too; a position change that finds no skew changes no reference. -/

namespace Sys2Proof.Laws

open Sys2Proof.Machine Sys2Proof.Safety

theorem report_ax (s : State) (r : Report) (a : AxisNo) : (s.report r).ax a = s.ax a := ax_congr (report_axes s r) a

@[simp] theorem supplyReport_axes (s : State) (c : SupplyCause) : (s.supplyReport c).axes = s.axes := by
  unfold State.supplyReport
  rw [report_axes]

@[simp] theorem modChans_axes (s : State) (f : Channel → Channel) : (s.modChans f).axes = s.axes := by
  unfold State.modChans
  generalize allChans = l
  induction l generalizing s with
  | nil => rfl
  | cons c l ih => rw [List.foldl_cons, ih, setCh_axes]

/-- A soft reset changes nothing that is measured. -/
theorem softReset_measured (x : Axis) : Measured x x.softReset := { Measured.refl x with }

/-- The axes at the completion of a soft reset, where it completes. -/
theorem completeReset_axes (s : State) :
    s.completeReset.axes = s.axes ∨ s.completeReset.axes = (s.modAll allAxes Axis.softReset).axes := by
  unfold State.completeReset
  split
  · right
    simp only [supplyReport_axes, report_axes, modChans_axes]
  · exact .inl rfl

theorem completeReset_measured (s : State) (a : AxisNo) : Measured (s.ax a) (s.completeReset.ax a) := by
  rcases completeReset_axes s with h | h
  · rw [ax_congr h]
    exact Measured.refl _
  · rw [ax_congr h, ax_modAll_allAxes]
    exact softReset_measured _

theorem yieldShare_axes (s : State) : s.yieldShare.axes = s.axes := by
  obtain ⟨m, l, e, _⟩ := yieldShare_kept s
  rw [e]

/-- The settling changes nothing that is measured. -/
theorem settle_measured (s : State) (a : AxisNo) : Measured (s.ax a) (s.settle.ax a) := by
  unfold State.settle
  split
  · exact Measured.refl _
  · have h := ((Controls.conclude (Controls.refl (F := False) s)).axes a).toMeasured
    have k := completeReset_measured s.engine.restRunners.concludeOps.yieldShare a
    rw [ax_congr (yieldShare_axes _)] at k
    exact (h.trans k).trans (SameAxis.measured (clocks_ax _ a))

/-- Control changes nothing that is measured. -/
theorem Controls.measured {s t : State} {F : Prop} (h : Controls F s t) (a : AxisNo) : Measured (s.ax a) (t.ax a) :=
  (h.axes a).toMeasured

end Sys2Proof.Laws

namespace Sys2Proof.Safety

open Sys2Proof.Machine

/-! ### References -/

/-- Control in which no reference may fall keeps every reference. -/
theorem Controls.ref_eq {s t : State} (h : Controls False s t) (a : AxisNo) : (t.ax a).ref = (s.ax a).ref :=
  Classical.byContradiction (h.axes a).falls

/-- Control keeps every gang: the configuration records stay as they are. -/
theorem Controls.partner {s t : State} {F : Prop} (h : Controls F s t) (a : AxisNo) : t.partner a = s.partner a := by
  have e : t.names = s.names := funext (fun b => by unfold State.names; rw [(h.axes b).config])
  unfold State.partner
  rw [e]

end Sys2Proof.Safety

namespace Sys2Proof.Laws

open Sys2Proof.Machine Sys2Proof.Safety

theorem SameAxis.ref {x y : Axis} (h : SameAxis x y) : y.ref = x.ref := by
  unfold SameAxis at h
  rw [h]

/-- A soft reset keeps every reference (R21). -/
theorem completeReset_ref (s : State) (a : AxisNo) : (s.completeReset.ax a).ref = (s.ax a).ref := by
  rcases completeReset_axes s with h | h
  · rw [ax_congr h]
  · rw [ax_congr h, ax_modAll_allAxes]
    rfl

/-- The settling changes no reference. -/
theorem settle_ref (s : State) (a : AxisNo) : (s.settle.ax a).ref = (s.ax a).ref := by
  unfold State.settle
  split
  · rfl
  · rw [SameAxis.ref (clocks_ax _ a), completeReset_ref, ax_congr (yieldShare_axes _)]
    exact (Controls.conclude (Controls.refl (F := False) s)).ref_eq a

/-- No gang of the axis has a skew above its limit in use (R73, R82). -/
def SkewFits (s : State) (a : AxisNo) : Prop :=
  ∀ b p q, s.partner a = some b → (s.ax a).pos = some p → (s.ax b).pos = some q → apart p q ≤ s.skewLimit a b

/-- Within the skew limit the skew check does nothing. -/
theorem checkSkew_fits {s : State} {a : AxisNo} (h : SkewFits s a) : s.checkSkew a = s := by
  unfold State.checkSkew State.skew
  split
  · rfl
  · next b hb =>
    split
    · rfl
    · next n hn =>
      split at hn
      · next p q hp hq =>
        cases hn
        rw [if_pos (h b p q hb hp hq)]
      · cases hn

/-- A position change that finds no skew changes no reference (R11, R82). -/
theorem positionChange_ref {s : State} {a : AxisNo} (h : SkewFits s a) (old : Option Nat) (count : Bool) (b : AxisNo) :
    ((s.positionChange a old count).ax b).ref = (s.ax b).ref := by
  have key : ∀ u, Controls False s u → (u.checkSkew a).ax b = u.ax b := by
    intro u k
    rw [checkSkew_fits]
    intro c p q hc hp hq
    rw [k.partner] at hc
    rw [(k.axes a).pos] at hp
    rw [(k.axes c).pos] at hq
    have e : u.skewLimit a c = s.skewLimit a c := by simp only [State.skewLimit, (k.axes _).config]
    rw [e]
    exact h c p q hc hp hq
  have all : ∀ u, Controls False s u → Controls False s (((((u.blocks a).passSince s).reevaluateRelated a).judgeAll
      (openIf (whenHolds a ((((u.blocks a).passSince s).reevaluateRelated a).ax a).pos))).engine) :=
    fun u hu => ((((hu.blocks a).passSince s).reevaluateRelated a).judgeAll _).engine
  unfold State.positionChange
  dsimp only
  split
  · rw [key _ (all _ ((Controls.refl s).breach a old))]
    exact (all _ ((Controls.refl s).breach a old)).ref_eq b
  · rw [key _ (all _ (Controls.refl s))]
    exact (all _ (Controls.refl s)).ref_eq b

end Sys2Proof.Laws
end

