-- ==== Sys2Proof/Tests/Slice0.lean ====
section
/-! SUPPORT. The model's own tests: ill-formed commands that the check refuses, words and steps worked out by hand from the
spec, and for each statement with hypotheses a concrete state and operands that meet them (`test_meets_…`). -/

set_option Elab.async false


set_option maxRecDepth 100000

namespace Sys2Proof.Tests

open Sys2Proof Sys2Proof.Machine Sys2Proof.Safety

/-! ### WellFormed: an ill-formed command for each check -/

/-- An entry of PLAN_WRITE with no gate. -/
def plainEntry : EntryArgs := ⟨0, 0, 900, 0x00, 0xFF, []⟩

theorem test_illFormed_entryCount : Instr.wellFormed (.planWrite 1 0 2 [plainEntry]) = false := by decide

theorem test_illFormed_gateCount : Instr.wellFormed (.planWrite 1 0 1 [⟨0, 0, 900, 0x40, 0xFF, []⟩]) = false := by decide

theorem test_illFormed_tooLong :
    Instr.wellFormed (.planWrite 1 0 10 (List.replicate 10 plainEntry)) = false := by decide

theorem test_illFormed_knownKind : Instr.wellFormed (.unknownKind 1 0x13 []) = false := by decide

theorem test_illFormed_longPayload : Instr.wellFormed (.unknownKind 1 0x70 (List.replicate 61 0)) = false := by decide

theorem test_illFormed_delayMove : Instr.wellFormed (.afterDelayExpiry 0 32 0) = false := by decide

theorem test_illFormed_delayGate : Instr.wellFormed (.afterDelayExpiry 0 0 3) = false := by decide

theorem test_wellFormed_planWrite : Instr.wellFormed (.planWrite 1 0 1 [plainEntry]) = true := by decide

/-! ### Frames -/

/-- The check value of R176. -/
theorem test_crc : crc [0x31, 0x32, 0x33, 0x34, 0x35, 0x36, 0x37, 0x38, 0x39] = 0x29B1 := by decide +kernel

/-- No row of the table gives bits. -/
theorem test_decodeTableWord (n w : Nat) : decodeTableWord n w = none := rfl

/-! ### Small states -/

/-- The part in ACTIVE with its drive stage READY. -/
def awake : State := { State.reset with power := { Power.reset with state := .active, stage := .ready } }

/-- A configuration record. -/
def record : AxisConfig where
  travel := 1000
  refEnd := .low
  lash := 10
  endZone := 40
  stops := #v[some 100, none, none, none]
  draw := 50
  stallWindow := 100
  scaleGroup := 0
  reach := 15
  partner := none
  skewLimit := 20
  pinch := some ⟨200, 800, .high, 100⟩
  handMovable := true
  heatLimit := 60

/-- The bytes of an AXIS_SET of `record`. -/
def recordArgs : AxisArgs := ⟨1000, 0, 10, 40, 100, 0xFFFF, 0xFFFF, 0xFFFF, 50, 100, 0, 15, 0xFF, 20, 1, 200, 800, 1, 100, 1, 60⟩

/-- The part with axis 0 configured, VALID at 500. -/
def one : State := awake.modAx 0 (fun x => { x with config := some record, ref := .valid, pos := some 500 })

/-- `one` with axis 0 changed. -/
def oneWith (f : Axis → Axis) : State := one.modAx 0 f

/-- A current move record toward 900. -/
def toward900 : MoveRec := ⟨0, 900, false, 2, .a, 0, Profile.default, false, 0, 0, false⟩

/-- Axis 0 drives toward HIGH in CRUISE on channel 0. -/
def driving : State :=
  (oneWith (fun x => { x with motion := .driving, phase := some .cruise, move := some toward900, driveDir := .high })).setCh 0
    ⟨.granted, none, some 0, 0, none, false⟩

/-- Axis 0 stops on channel 0 with this destination. -/
def stoppingTo (d : Dest) (f : Axis → Axis) : State :=
  driving.modAx 0 (fun x => f { x with motion := .stopping, phase := none, stop := some ⟨d, .coast, 0, false, 0, false, false⟩ })

/-- Axis 0 is in a backoff of 100 counts toward LOW, in this step. -/
def backingOff (k : BackoffStep) : State :=
  driving.modAx 0 (fun x =>
    { x with
      motion := .backoff, phase := none, driveDir := .low, backoff := some ⟨k, .low, 100, 0, true, false⟩,
      fault := some ⟨.obstruction, .current, some 500, .none, none, false⟩ })

/-- Axis 0 belongs to a link operation. -/
def owned (op : LinkOp) : State := oneWith (fun x => { x with owner := .link op })

/-- A jog of axis 0 toward HIGH. -/
def jogOp (hold : Bool) : LinkOp := ⟨.jog, 0, hold, .high, if hold then some 0 else none, none⟩

/-- Axes 0 and 1 as a gang, both VALID at 500, and changed. -/
def ganged (f g : Axis → Axis) : State :=
  (awake.modAx 0 (fun x =>
    f { x with config := some { record with partner := some 1 }, ref := .valid, pos := some 500 })).modAx 1 (fun x =>
    g { x with config := some { record with partner := some 0 }, ref := .valid, pos := some 500 })

/-- A stop under way toward a destination. -/
def stopTo (d : Dest) (arrived : Bool) : Option Stop := some ⟨d, .coast, 0, false, 0, false, arrived⟩

/-- A step of a state with this command in front gives a state in which this holds. -/
def gives (c : Instr) (s : State) (p : State → Bool) : Bool :=
  match step { s with pending := [c] } with
  | .next t => p t
  | .fault _ | .refused _ => false

/-- The part with slot 0 of one move, ABS 900 on axis 0. -/
def planned : State :=
  { one with places := one.places.set 0 (some ⟨0, .abs 900, 0, 2, [], none⟩), slots := one.slots.set 0 ⟨0, 1, 0, 0⟩ }

/-- A run of slot 0 in a state, its one move PENDING with one gate. -/
def runIn (st : RunState) (g : GateState) : Run :=
  ⟨st, 0, [0], ⟨false, false, false, false, false⟩, none, none, none, 0, 5, [⟨.pending, [g]⟩]⟩

/-- `planned` with runner 0 running slot 0, changed. -/
def runs (f : Run → Run) : State :=
  (planned.setRun 0 (some (f (runIn .running (.timing 5))))).modAx 0 (fun x => { x with owner := .runner 0 })

/-- The part in another power state. -/
def inState (p : PowerState) (s : State) : State := { s with power := { s.power with state := p } }

/-- The part asleep with these options and this wake cause. -/
def asleep (o : SleepOpts) (c : Option WakeCause) : State :=
  { one with power := { one.power with state := .sleep, stage := .off, sleepOpts := some o, wakeCause := c } }

/-- A state whose link differs. -/
def withLink (f : Link → Link) (s : State) : State := { s with link := f s.link }

/-- A reply and a report that wait. -/
def someReply : Reply := ⟨0x81, 1, .ok, []⟩

theorem test_listens : Listens one := ⟨⟨rfl, rfl, rfl⟩, rfl, .inl rfl⟩

theorem test_resets : Resets (inState .resetting one) := ⟨⟨rfl, rfl, rfl⟩, rfl, rfl⟩

theorem test_listens_runs (f : Run → Run) : Listens (runs f) := ⟨⟨rfl, rfl, rfl⟩, rfl, .inl rfl⟩

theorem test_listens_oneWith (f : Axis → Axis) : Listens (oneWith f) := ⟨⟨rfl, rfl, rfl⟩, rfl, .inl rfl⟩


/-! ### The statements' hypotheses are met -/

theorem test_meets_StepRunsFrontCommand :
    ({ awake with pending := [.heatTick] } : State).pending = .heatTick :: [] ∧ awake.pending = [] := ⟨rfl, rfl⟩

theorem test_meets_SettleKeepsWhatIsMeasured : one.power.state ≠ .resetting := by decide

theorem test_meets_CalmSettleIsTheClocks : Calm awake ∧
    (let s := withLink (fun l => { l with slot := some someReply }) awake
     s.link.slot = some someReply ∧ s.link.tx = none ∧ s.power.state.runs = true) ∧
    (let s := withLink (fun l => { l with reports := [.positions []] }) awake
     s.link.slot = none ∧ s.link.reports = .positions [] :: [] ∧ s.link.tx = none ∧ s.power.state.runs = true) ∧
    (withLink (fun l => { l with tx := some ⟨[], false⟩ }) awake).link.tx = some ⟨[], false⟩ := by
  refine ⟨⟨rfl, .inl rfl, by decide +kernel, ?_, ?_, .inl (by decide)⟩, by decide, by decide, rfl⟩
  · intro r run h
    have e : ∀ r, awake.run r = none := by decide +kernel
    rw [e r] at h
    cases h
  · intro a op h
    have e : ∀ a, (awake.ax a).owner = .none := by decide +kernel
    rw [e a] at h
    cases h

theorem test_meets_CalmSettleIsTheClocks_timers :
    (awake.power.state = .active ∧ awake.idle = true) ∧ (driving.power.state = .active ∧ driving.idle = false) ∧
    ((inState .doze awake).power.state = .doze ∧ (inState .doze awake).idle = true) ∧
    ((inState .doze driving).power.state = .doze ∧ (inState .doze driving).idle = false) ∧
    ((runs id).run 0 = some (runIn .running (.timing 5)) ∧ (driving.ax 0).motion = .driving) ∧
    (driving.link.supervision = .off ∧ driving.link.setup.cadence ≠ 0) ∧
    (withLink (fun l => { l with supervision := .watching 20 500 }) driving).link.supervision ≠ .off ∧
    (∀ a, (awake.ax a).motion = .idle) := by decide +kernel

theorem lawful_axis {x : Axis} {c : AxisConfig} {p : Nat} (hc : x.config = some c) (hp : x.pos = some p)
    (h : x.ref ≠ .unknown ∧ (c.lash ≤ 63 ∧ x.lashRem ≤ c.lash) ∧ p ≤ c.travel ∧ x.overrun ≤ c.endZone ∧
      (0 < x.overrun → p = 0 ∨ p = c.travel)) : PositionLaw x := by
  refine ⟨by rw [hp]; simp [h.1], by simp [hp], h.2.1.2.trans h.2.1.1, fun d e => ?_, fun d q e f => ?_⟩
  · rw [hc] at e
    cases e
    exact ⟨h.2.1.1, .inl h.2.1.2⟩
  · rw [hc] at e
    rw [hp] at f
    cases e
    cases f
    exact h.2.2

theorem lawful_fresh {x : Axis} (hc : x.config = none) (hp : x.pos = none) (hr : x.ref = .unknown)
    (h0 : x.overrun = 0 ∧ x.lashRem = 0) : PositionLaw x := by
  refine ⟨by simp [hp, hr], fun _ => h0.1, by simp [h0.2], fun d e => ?_, fun d q e f => ?_⟩
  · rw [hc] at e
    cases e
  · rw [hc] at e
    cases e

/-- `one` with a count toward HIGH waiting. -/
def counting : State := { one with pending := [.hallEdge 0 (.count .high)] }

theorem test_meets_PositionsStayLawful : PositionsLawful counting ∧ ∃ t, step counting = .next t := by
  refine ⟨fun a => ?_, _, rfl⟩
  by_cases h : a = 0
  · subst h
    exact lawful_axis (c := record) (p := 500) (by decide +kernel) (by decide +kernel) (by decide +kernel)
  · have : (counting.ax a).config = none ∧ (counting.ax a).pos = none ∧ (counting.ax a).ref = .unknown ∧
        (counting.ax a).overrun = 0 ∧ (counting.ax a).lashRem = 0 := by
      revert a
      decide +kernel
    exact lawful_fresh this.1 this.2.1 this.2.2.1 this.2.2.2

theorem test_meets_BudgetStaysLawful : BudgetLawful counting ∧ ∃ t, step counting = .next t := ⟨rfl, _, rfl⟩

theorem test_meets_BuffersStayLawful : BuffersLawful counting ∧ ∃ t, step counting = .next t := by
  exact ⟨by unfold BuffersLawful; decide, _, rfl⟩

/-- `counting` with channel 3 RETIRED. -/
def retired : State := counting.setCh 3 ⟨.retired, none, none, 3, none, false⟩

theorem test_meets_RetiredStaysRetired : (retired.ch 3).state = .retired ∧ (∀ rest, retired.pending ≠ .powerOnReset :: rest) ∧
    (∀ rest, retired.pending ≠ .initStart :: rest) ∧ ∃ t, step retired = .next t := by
  have e : retired.pending = [.hallEdge 0 (.count .high)] := rfl
  refine ⟨by decide +kernel, ?_, ?_, _, rfl⟩
  · rw [e]
    simp
  · rw [e]
    simp

theorem test_meets_RequestFramesDecode :
    (Instr.wellFormed (.jog 1 0 1 0 2000) = true ∧
      (Instr.jog 1 0 1 0 2000).frame? = some ⟨0x13, 1, [0, 1, 0, 0x07, 0xD0]⟩ ∧ requestKinds.contains 0x13 = true) ∧
    Instr.wellFormed (.unknownKind 1 0x70 [7]) = true ∧
    (Instr.unknownKind 1 0x70 [7]).frame? = some ⟨0x70, 1, [7]⟩ ∧ requestKinds.contains 0x70 = false := by decide

theorem test_meets_ReceiverAssemblesEveryFrame :
    (Frame.mk 0x70 1 (List.replicate 60 0)).payload.length ≤ 60 ∧ (Frame.mk 0x70 1 (List.replicate 60 0)).bytes.length = 66 ∧
    66 ≤ (Frame.mk 0x70 1 (List.replicate 60 0)).bytes.length ∧ 65 < (Frame.mk 0x70 1 (List.replicate 60 0)).bytes.length := by
  decide

theorem test_meets_ReceiverFollowsItsTable :
    ([] : List Byte).length + 1 < 2 ∧ ([1] : List Byte).length + 1 = 2 ∧
    (awake.power.inReset = false ∧ awake.power.state.runs = true ∧ rxByte awake.link.rx 0x5A = (.length, none)) ∧
    (let s := withLink (fun l => { l with rx := .crc 2 [0x01, 7] (some (hiByte (crc [2, 1, 7]))) }) awake
     rxByte s.link.rx (loByte (crc [2, 1, 7])) = (.hunt, some ⟨1, 7, []⟩) ∧
     s.link.intake = [] ∧ s.link.slot = none ∧ s.power.sleepOpts = none) ∧
    (let s := withLink (fun l => { l with
        rx := .crc 2 [0x01, 7] (some (hiByte (crc [2, 1, 7]))), slot := some someReply }) awake
     rxByte s.link.rx (loByte (crc [2, 1, 7])) = (.hunt, some ⟨1, 7, []⟩) ∧ s.link.slot ≠ none ∧ s.link.intake.length < 4) ∧
    (let s := withLink (fun l => { l with
        rx := .crc 2 [0x01, 7] (some (hiByte (crc [2, 1, 7]))), intake := List.replicate 4 ⟨1, 2, []⟩ }) awake
     rxByte s.link.rx (loByte (crc [2, 1, 7])) = (.hunt, some ⟨1, 7, []⟩) ∧ 4 ≤ s.link.intake.length) ∧
    (State.reset.power.inReset = false ∧ State.reset.power.state = .init) ∧
    (asleep ⟨true, true, false⟩ none).power.state = .sleep := by decide +kernel

theorem test_meets_RequestsWaitTheirTurn :
    (Instr.ident 7).frame? = some ⟨1, 7, []⟩ ∧
    (let s := withLink (fun l => { l with intake := List.replicate 3 ⟨1, 2, []⟩ }) awake
     s.power.inReset = false ∧ s.power.state.runs = true ∧ s.link.intake ≠ [] ∧ s.link.intake.length < 4) ∧
    (let s := withLink (fun l => { l with intake := List.replicate 4 ⟨1, 2, []⟩ }) awake
     s.link.intake ≠ [] ∧ 4 ≤ s.link.intake.length) ∧
    State.reset.power.state = .init ∧ (asleep ⟨true, true, false⟩ none).power.state = .sleep ∧
    awake.link.supervision = .off ∧
    (withLink (fun l => { l with supervision := .lapsed }) awake).link.supervision ≠ .off := by decide +kernel

theorem test_meets_LinkChecksAndResettingRefuse :
    (Instr.wellFormed (.unknownKind 1 0x70 []) = true ∧ one.power.inReset = false ∧ one.power.state.runs = true) ∧
    (requestKinds.contains (0x13 : Byte) = true ∧ decodePayload 0x13 1 [0] = none) ∧
    planWriteFits 2 [plainEntry] = false ∧
    (Instr.wellFormed (.ack 1 0) = true ∧ (Instr.ack 1 0).frame? = some ⟨0x12, 1, [0]⟩ ∧
      requestKinds.contains (0x12 : Byte) = true) ∧ (0x12 : Byte) ≠ 0x01 ∧ (0x12 : Byte) ≠ 0x02 ∧ Takes one :=
  ⟨by decide, by decide, by decide, by decide, by decide, by decide, test_listens.toTakes⟩

theorem test_meets_NumbersOutOfRangeAreRefused :
    12 ≤ (12 : Byte).toNat ∧ 2 ≤ (2 : Byte).toNat ∧ 8 ≤ (8 : Byte).toNat ∧ 3 ≤ (3 : Byte).toNat ∧ (19 : Byte).toNat < 20 ∧
    100 < (101 : Byte).toNat ∧ 24 ≤ (24 : Byte).toNat ∧ Listens one :=
  ⟨by decide, by decide, by decide, by decide, by decide, by decide, by decide, test_listens⟩

theorem test_meets_IdentAndStatusAnswer : one.power.inReset = false ∧ one.power.state.runs = true ∧ Takes one :=
  ⟨rfl, rfl, test_listens.toTakes⟩

/-- `one` with a dwell timer that has run 1.2 s. -/
def dwelling : State := { one with power := { one.power with dwell := some 1200 } }

theorem test_meets_SetupReplacesTheValues :
    Listens dwelling ∧ ¬ (100 ≤ (99 : Half).toNat) ∧
    (100 ≤ (100 : Half).toNat ∧ (0 : Half) = 0 ∧ 1 ≤ (60 : Byte).toNat ∧ (60 : Byte).toNat ≤ 60 ∧ 5 ≤ (300 : Half).toNat ∧
      (300 : Half).toNat ≤ 300) ∧
    (∀ a, dwelling.blockedPast 60 a = false) ∧ dwelling.power.dwell = some 1200 ∧ 1200 < (300 : Half).toNat * 100 ∧
    (12 : Half).toNat ≠ dwelling.link.setup.dwell ∧ dwelling.power.state = .active ∧ (12 : Half).toNat * 100 ≤ 1200 :=
  ⟨⟨⟨rfl, rfl, rfl⟩, rfl, .inl rfl⟩, by decide, by decide, by decide +kernel, rfl, by decide, by decide, rfl, by decide⟩

theorem test_meets_ConfigRecordsLieInRange : configOf 0 recordArgs = some record := by decide +kernel

/-- `record` with another travel, and its bytes. -/
def longer : AxisConfig := { record with travel := 1200 }

theorem test_meets_AxisSetReplacesTheRecord :
    Listens one ∧ finOf 12 (0 : Byte) = some 0 ∧ configOf 0 { recordArgs with lash := 64 } = none ∧
    configOf 0 recordArgs = some record ∧ configOf 0 { recordArgs with travel := 1200 } = some longer ∧
    ((owned (jogOp false)).ax 0).owner ≠ .none ∧
    ((driving.ax 0).owner = .none ∧ (driving.ax 0).motion ≠ .idle) ∧
    ((one.ax 0).owner = .none ∧ (one.ax 0).motion = .idle ∧ (one.partner 0).toList ++ record.partner.toList = [] ∧
      record.partner = none ∧ (∀ n : EntryNo, one.entries[n] = none) ∧ ∀ r, one.run r = none) ∧
    ((one.ax 0).config = some record ∧ (one.ax 0).overrun ≤ 40) ∧
    (let s := oneWith (fun x => { x with overrun := 41 })
     (s.ax 0).config = some record ∧ 40 < (s.ax 0).overrun) ∧
    (longer.travel ≠ record.travel ∧ longer.partner = none) :=
  ⟨test_listens, by decide, by decide +kernel, by decide +kernel, by decide +kernel, by decide +kernel, by decide +kernel,
    by decide +kernel, by decide +kernel, by decide +kernel, by decide +kernel⟩

/-- Axis 0 names axis 1 as its partner, which is owned and in FAULT or not. -/
def besides (f : Axis → Axis) : State := one.modAx 1 f

theorem test_meets_AxisSetReplacesTheRecord_partner :
    configOf 0 { recordArgs with partner := 1 } = some { record with partner := some 1 } ∧
    ((besides (fun x => { x with owner := .runner 0 })).ax 1).owner ≠ .none ∧
    (let s := besides (fun x => { x with motion := .fault })
     (s.ax 1).owner = .none ∧ (s.ax 1).motion ≠ .idle) ∧
    (let s := { one with entries := one.entries.set 0 (some ⟨true, 0, 0, 1000, 1, 0, 100, 5⟩) }
     s.entries[(0 : EntryNo)] = some ⟨true, 0, 0, 1000, 1, 0, 100, 5⟩ ∧ ¬ 1000 ≤ 900) ∧
    (let s := { runs id with places := one.places.set 0 (some ⟨0, .abs 900, 0, 2, [.whenGe 0 950], none⟩) }
     s.run 0 = some (runIn .running (.timing 5)) ∧ 0 < (runIn .running (.timing 5)).moves.length ∧
     s.places[s.slots[(runIn .running (.timing 5)).slot].start + 0]? = some (some ⟨0, .abs 900, 0, 2, [.whenGe 0 950], none⟩) ∧
     .whenGe 0 950 ∈ [Gate.whenGe 0 950] ∧ ¬ 950 ≤ 900) := by decide +kernel

theorem test_meets_AxisSetReplacesTheRecord_gang :
    (let s := ganged id id
     (s.ax 0).config = some { record with partner := some 1 } ∧ (s.ax 1).config = some { record with partner := some 0 } ∧
     s.partner 0 = some 1) ∧ one.partner 0 = none ∧
    (let s := one.modAx 1 (fun x => { x with config := some { longer with partner := some 0 } })
     (s.ax 1).config = some { longer with partner := some 0 } ∧ record.travel ≠ longer.travel) ∧
    (∃ i j : ChanNo, i ≠ j ∧ record.reach.getLsbD i.val = true ∧ record.reach.getLsbD j.val = true) ∧
    ¬ (∃ i j : ChanNo, i ≠ j ∧ (1 : BitVec 4).getLsbD i.val = true ∧ (1 : BitVec 4).getLsbD j.val = true) := by decide +kernel

theorem test_meets_AxisGetAndRunGetAnswerSnapshots :
    Listens one ∧ finOf 12 (0 : Byte) = some 0 ∧ (2 : Byte) ≠ 1 ∧ (0 : Byte).toNat = (0 : RunnerNo).val ∧
    one.frameHeard.run 0 = none ∧ (runs id).frameHeard.run 0 = some (runIn .running (.timing 5)) ∧
    (0 : Byte).toNat < (runIn .running (.timing 5)).moves.length ∧
    (runIn .running (.timing 5)).moves.length ≤ (1 : Byte).toNat :=
  ⟨test_listens, by decide, by decide, rfl, by decide +kernel, by decide +kernel, by decide, by decide⟩

/-- A run of 32 moves with three gates each, more than one reply holds. -/
def longRun : Run := { runIn .running .closed with moves := List.replicate 32 ⟨.pending, [.closed, .timing 5, .opened]⟩ }

theorem test_runGet_fills_the_reply : (longRun.getReply 0).length = 53 ∧ (longRun.getReply 31).length = 31 := by
  decide +kernel

theorem test_meets_AckClearsTheFault :
    (one.frameHeard.ax 0).fault = none ∧
    ((backingOff .brake).frameHeard.ax 0).fault = some ⟨.obstruction, .current, some 500, .none, none, false⟩ ∧
    ((backingOff .brake).frameHeard.ax 0).motion ≠ .fault ∧
    (let s := oneWith (fun x => { x with motion := .fault, fault := some ⟨.short, .channel 0, none, .none, none, false⟩ })
     (s.frameHeard.ax 0).fault = some ⟨.short, .channel 0, none, .none, none, false⟩ ∧
     (s.frameHeard.ax 0).motion = .fault) := by decide +kernel

theorem test_meets_HomeAndCheckBegin :
    Listens one ∧ finOf 12 (0 : Byte) = some 0 ∧
    ((one.ax 1).config = none ∧ (one.ax 0).config ≠ none ∧ one.gangPending 0 = false) ∧
    one.members 0 = [0] ∧ ({ one with inhibit := true } : State).inhibit = true ∧
    ((owned (jogOp false)).ax 0).owner ≠ .none ∧
    ((oneWith (fun x => { x with motion := .fault })).ax 0).motion = .fault ∧
    ((oneWith (fun x => { x with lockout := true })).ax 0).lockout = true ∧
    (one.modChans (fun c => { c with state := .retired })).reachable [0] = false ∧
    ((one.ax 0).owner = .none ∧ (one.ax 0).motion ≠ .fault ∧ (one.ax 0).lockout = false ∧ one.reachable [0] = true ∧
      (one.ax 0).config = some record) :=
  ⟨test_listens, by decide, by decide +kernel, by decide +kernel, rfl, by decide +kernel, by decide +kernel,
    by decide +kernel, by decide +kernel, by decide +kernel⟩

theorem test_meets_JogBegins :
    ((0 : Byte) = 0 ∧ (1 : Byte) = 1 ∧ 1 ≤ (1 : Half).toNat ∧ (2000 : Half).toNat ≤ 2000) ∧
    ((one.ax 0).config ≠ none ∧ one.gangPending 0 = false ∧ (one.ax 0).ref ≠ .unknown ∧ one.inhibit = false) ∧
    ((oneWith (fun x => { x with ref := .unknown, pos := none })).ax 0).ref = .unknown ∧
    (apart 501 500 ≤ (one.profile .a 0).tolerance ∧ ¬ apart 505 500 ≤ (one.profile .a 0).tolerance) := by decide +kernel

theorem test_meets_JogBegins_refused :
    (let s := owned ⟨.home, 0, false, .low, none, none⟩
     (s.ax 0).owner = .link ⟨.home, 0, false, .low, none, none⟩ ∧ OpKind.home ≠ .jog ∧ (s.ax 0).owner ≠ .none) ∧
    ((oneWith (fun x => { x with motion := .fault })).ax 0).motion = .fault ∧
    ((oneWith (fun x => { x with lockout := true })).ax 0).lockout = true ∧
    (one.modChans (fun c => { c with state := .retired })).reachable [0] = false := by decide +kernel

theorem test_meets_JogWindowRestartsAndExpires :
    Listens (owned (jogOp true)) ∧ ((owned (jogOp true)).ax 0).owner = .link (jogOp true) ∧
    ((owned (jogOp false)).ax 0).owner = .link (jogOp false) ∧ (jogOp true).result = none ∧
    (∀ b ∈ (owned (jogOp true)).members 0, ((owned (jogOp true)).ax b).fault = none ∧
      ((owned (jogOp true)).ax b).ref ≠ .unknown ∧ ((owned (jogOp true)).ax b).motion ≠ .checking ∧
      ((owned (jogOp true)).ax b).stop = none) ∧
    dirOf (1 : Byte) = some (jogOp true).dir ∧ (jogOp true).window ≠ none ∧ (jogOp false).window = none :=
  ⟨test_listens_oneWith _, by decide +kernel, by decide +kernel, rfl, by decide +kernel, by decide, by decide, rfl⟩

theorem test_meets_JogWindowRestartsAndExpires_decided :
    (let op : LinkOp := { jogOp true with result := some (.released, none) }
     Listens (owned op) ∧ ((owned op).ax 0).owner = .link op ∧ op.kind = .jog ∧ op.result ≠ none) ∧
    (let s := (owned (jogOp true)).modAx 0 (fun x => { x with fault := some ⟨.short, .channel 0, none, .none, none, false⟩ })
     Listens s ∧ (s.ax 0).owner = .link (jogOp true) ∧ (∃ b ∈ s.members 0, (s.ax b).fault ≠ none) ∧ (s.ax 0).config ≠ none ∧
     s.gangPending 0 = false ∧ s.inhibit = false ∧ (∀ b ∈ s.members 0, (s.ax b).ref ≠ .unknown)) ∧
    (1 ≤ (2000 : Half).toNat ∧ (2000 : Half).toNat ≤ 2000) ∧ dirOf (0 : Byte) = some .low :=
  ⟨⟨test_listens_oneWith _, by decide +kernel, rfl, by decide⟩,
    ⟨⟨⟨rfl, rfl, rfl⟩, rfl, .inl rfl⟩, by decide +kernel, by decide +kernel, by decide +kernel, by decide +kernel, rfl,
      by decide +kernel⟩, by decide, rfl⟩

/-- Axis 0 belongs to a HOLD jog toward HIGH and is in this motion state, its partner of an entry at 600. -/
def jogging (m : Motion) (e : Option KeepoutEntry) : State :=
  { (owned (jogOp true)).modAx 0 (fun x => { x with motion := m, move := some toward900, stop := stopTo .held false }) with
    entries := one.entries.set 0 e }

theorem test_meets_JogWindowRestartsAndExpires_reversal :
    (∀ m ∈ [Motion.queued, .blocked, .driving, .stopping, .engaging],
      let s := jogging m none
      (s.ax 0).owner = .link (jogOp true) ∧ (s.ax 0).motion = m ∧ (s.ax 0).fault = none ∧ (s.ax 0).config ≠ none ∧
      s.gangPending 0 = false ∧ s.inhibit = false ∧ s.partner 0 = none ∧ (s.ax 0).ref ≠ .unknown ∧
      (s.ax 0).stop = some ⟨.held, .coast, 0, false, 0, false, false⟩) ∧
    (dirOf (0 : Byte) = some .low ∧ Dir.low ≠ (jogOp true).dir) ∧
    (let s := (jogging .queued (some ⟨true, 0, 100, 600, 1, 0, 100, 5⟩)).modAx 0 (fun x =>
        { x with move := some { toward900 with target := 0, endFlag := true } })
     s.anyBlocked [0] = true ∧ (s.modAx 0 (fun x => { x with pos := some 700 })).anyBlocked [0] = false) := by decide +kernel

/-- A revoked stop stays one toward held under a jog reversal, whatever its destination (R51, R106). -/
theorem test_reverse_revoked :
    ∀ d ∈ [Dest.completion .correct, .blocked 0 1, .held, .idle true, .reversal],
      (Stop.reverse ⟨d, .coast, 0, false, 0, true, false⟩).dest = .held := by decide

theorem test_meets_StopRequestsActByMotionState :
    (driving.ax 0).motion = .driving ∧
    (let s := oneWith (fun x => { x with motion := .engaging })
     (s.ax 0).motion = .engaging ∧ (s.ax 0).stop = none) ∧
    (∀ d ∈ [Dest.completion .correct, .completion .held, .idle true, .idle false, .held, .blocked 0 1, .fault, .reversal,
        .checkDone],
      ((stoppingTo d id).ax 0).motion = .stopping ∧
      ((stoppingTo d id).ax 0).stop = some ⟨d, .coast, 0, false, 0, false, false⟩) ∧
    (∀ m ∈ [Motion.queued, .blocked, .idle, .fault, .backoff],
      ((oneWith (fun x => { x with motion := m })).ax 0).motion = m) := by decide +kernel

theorem test_meets_StopRequestsActByMotionState_gang :
    (let s := ganged (fun x => { x with motion := .driving }) (fun x => { x with motion := .driving })
     (1 : AxisNo) ≠ 0 ∧ (s.ax 0).motion = .driving ∧ (s.ax 1).motion = .driving) := by decide +kernel

theorem test_meets_ProfilesAreReadAndSwapped :
    Listens one ∧ Resets (inState .resetting one) ∧ (7 : Byte).toNat = (7 : Fin 8).val ∧ 2 ≤ (2 : Byte).toNat ∧
    8 ≤ (8 : Byte).toNat := ⟨test_listens, test_resets, rfl, by decide, by decide⟩

/-- The least value of each field of a profile, as its bytes. -/
def leastProfile : ProfileArgs := ⟨10, 20, 0, 10, 0, 0, 1, 5, 5, 50⟩

theorem test_meets_ProfileWriteAndScaleSet :
    Listens one ∧ bankOf 0 = some .a ∧ bankOf 1 = some .b ∧ finOf 8 (7 : Byte) = some 7 ∧
    profileOf leastProfile = some ⟨10, 20, 0, 10, 0, 0, 1, 5, 5, 50⟩ ∧ profileOf { leastProfile with cruiseDuty := 19 } = none ∧
    Bank.a = one.store.active ∧ (driving.ax 0).motion = .driving ∧ Bank.b ≠ one.store.active ∧
    ((2 : Byte).toNat = (2 : Fin 3).val ∧ 20 ≤ (20 : Byte).toNat ∧ (100 : Byte).toNat ≤ 100) :=
  ⟨test_listens, rfl, by decide, by decide, by decide, by decide, rfl, by decide +kernel, by decide, by decide⟩

/-- `one` with axis 1 configured too, and entry 0 between the two. -/
def two (e : Option KeepoutEntry) : State :=
  { one.modAx 1 (fun x => { x with config := some record, ref := .valid, pos := some 500 }) with
    entries := one.entries.set 0 e }

/-- The bytes of the contents that the next test writes. -/
def entryArgs : KeepoutArgs := ⟨1, 0, 0, 100, 1, 900, 1000, 5⟩

theorem test_meets_KeepoutSetReplacesAnEntry :
    Listens (two none) ∧ (0 : Byte).toNat = (0 : EntryNo).val ∧ 2 ≤ (2 : Byte).toNat ∧ (two none).entries[(0 : EntryNo)] = none ∧
    (let s := (two (some ⟨true, 0, 0, 100, 1, 0, 100, 5⟩)).modAx 0 (fun x => { x with motion := .driving })
     s.entries[(0 : EntryNo)] = some ⟨true, 0, 0, 100, 1, 0, 100, 5⟩ ∧ (s.ax 0).motion ≠ .idle ∧ (s.ax 0).motion ≠ .fault) ∧
    (entryArgs.enabled.toNat ≤ 1 ∧ entryArgs.axisA.toNat < 12 ∧ entryArgs.axisB.toNat < 12 ∧ entryArgs.axisA ≠ entryArgs.axisB ∧
      entryArgs.loA.toNat ≤ entryArgs.hiA.toNat ∧ entryArgs.loB.toNat ≤ entryArgs.hiB.toNat ∧ 5 ≤ entryArgs.guard.toNat) ∧
    ¬ 5 ≤ ({ entryArgs with guard := 4 } : KeepoutArgs).guard.toNat ∧
    (((two none).ax 0).config = some record ∧ ((two none).ax 1).config = some record ∧ 1000 ≤ record.travel) ∧
    ¬ ({ entryArgs with hiB := 1001 } : KeepoutArgs).hiB.toNat ≤ record.travel :=
  ⟨⟨⟨rfl, rfl, rfl⟩, rfl, .inl rfl⟩, rfl, by decide, by decide +kernel, by decide +kernel, by decide, by decide,
    by decide +kernel, by decide⟩

theorem test_meets_KeepoutGetAnswersTheEntry :
    Listens (two none) ∧ Resets (inState .resetting (two none)) ∧ (23 : Byte).toNat = (23 : EntryNo).val ∧
    24 ≤ (24 : Byte).toNat ∧ (two none).entries[(23 : EntryNo)] = none ∧
    (two (some ⟨false, 0, 0, 100, 1, 0, 100, 5⟩)).entries[(0 : EntryNo)] = some ⟨false, 0, 0, 100, 1, 0, 100, 5⟩ ∧
    (two (some ⟨true, 0, 505, 600, 1, 0, 494, 5⟩)).entries[(0 : EntryNo)] = some ⟨true, 0, 505, 600, 1, 0, 494, 5⟩ ∧
    (((two none).ax 0).pos = some 500 ∧ 505 ≤ 500 + 5 ∧ ¬ 500 ≤ 494 + 5) :=
  ⟨⟨⟨rfl, rfl, rfl⟩, rfl, .inl rfl⟩, ⟨⟨rfl, rfl, rfl⟩, rfl, rfl⟩, rfl, by decide, by decide +kernel, by decide +kernel,
    by decide +kernel, by decide +kernel⟩

theorem test_meets_DeeperFollowsTheTable :
    (100 ≤ 300 ∧ 300 ≤ 1000) ∧ (99 < 100 ∧ 300 < 301) ∧ (199 - 100 < 300 - 199 ∧ 300 - 201 < 201 - 100 ∧ 200 - 100 = 300 - 200) ∧
    (100 ≤ 1000 ∧ 1000 ≤ 1000) ∧ (0 ≤ 300 ∧ 300 ≠ 1000) := by decide

/-- Axis 0 drives toward HIGH from 500 while axis 1 stands at 500, under an entry that joins them. -/
def nearing (m : Motion) : State :=
  { two (some ⟨true, 0, 400, 600, 1, 0, 1000, 5⟩) with places := one.places }.modAx 0 (fun x =>
    { x with pos := some 450, motion := m, driveDir := .high, move := some toward900, check := some ⟨0, some .high, 0, 0⟩,
             backoff := some ⟨.reverse, .high, 100, 0, true, false⟩ })

theorem test_meets_DeeperFollowsTheTable_blocks :
    (∀ m ∈ [Motion.driving, .checking, .engaging, .backoff],
      let s := nearing m
      (s.ax 0).motion = m ∧ s.entries[(0 : EntryNo)] = some ⟨true, 0, 400, 600, 1, 0, 1000, 5⟩ ∧
      s.conflict ⟨true, 0, 400, 600, 1, 0, 1000, 5⟩ = true ∧ s.ask 0 [.high] = some (0, 1) ∧ s.ask 0 [] = none ∧
      (∀ b, s.partner b = none) ∧ (∀ b, (s.ax b).motion ≠ .queued)) ∧
    ((nearing .driving).ax 0).check = some ⟨0, some .high, 0, 0⟩ ∧ (nearing .engaging).wantDirs 0 = [.low, .high] ∧
    (nearing .engaging).deeperIn ⟨true, 0, 400, 600, 1, 0, 1000, 5⟩ 0 ((nearing .engaging).nowDirs 0) = true ∧
    ((nearing .engaging).ax 0).stop = none ∧
    (∀ p ∈ [899, 900, 901], ∀ e ∈ [false, true],
      let x := (oneWith (fun x => { x with pos := some p, move := some { toward900 with endFlag := e } })).ax 0
      x.pos = some p ∧ x.check = none ∧ x.homing = false ∧ x.move = some { toward900 with endFlag := e }) ∧
    (let s := ganged (fun x => { x with pos := some 900, move := some toward900 }) id
     s.partner 0 = some 1 ∧ (s.ax 1).pos = some 500 ∧ 500 < 900) := by decide +kernel

theorem test_meets_DeeperFollowsTheTable_question :
    (let x := (oneWith (fun x => { x with
        owner := .link ⟨.home, 0, false, .low, none, none⟩, move := some { toward900 with target := 0 } })).ax 0
     x.homing = true ∧ x.check = none ∧ x.config = some record) ∧
    (let x := (oneWith (fun x => { x with pos := none, ref := .unknown, move := some { toward900 with target := 0 } })).ax 0
     x.homing = false ∧ x.pos = none) ∧
    (one.ax 0).move = none := by decide +kernel

theorem test_meets_PlanWriteAndDefineReplace :
    Listens one ∧ planWriteFits 1 [plainEntry] = true ∧ ¬ (64 : Byte).toNat < 64 ∧ (63 : Byte).toNat + (1 : Byte).toNat ≤ 64 ∧
    entriesOf [plainEntry] = some [some ⟨0, .abs 900, 0, 0, [], none⟩] ∧ entriesOf [{ plainEntry with kind := 5 }] = none ∧
    ((runs id).run 0 = some (runIn .running (.timing 5)) ∧ ((runs id).slots[(0 : SlotNo)]).start ≤ 0 ∧
      0 < ((runs id).slots[(0 : SlotNo)]).start + ((runs id).slots[(0 : SlotNo)]).length) ∧
    (∀ r, one.run r = none) ∧ (runIn .running (.timing 5)).slot = 0 ∧
    ((32 : Byte).toNat + (32 : Byte).toNat ≤ 64 ∧ (120 : Byte).toNat ≤ 120 ∧ ¬ (33 : Byte).toNat ≤ 32) :=
  ⟨test_listens, by decide, by decide, by decide, by decide +kernel, by decide +kernel, by decide +kernel, by decide +kernel,
    rfl, by decide⟩

theorem test_meets_PlanReadAnswersEntriesAndSlots :
    Listens (runs id) ∧ ((63 : Byte).toNat < 64 ∧ 1 ≤ (1 : Byte).toNat ∧ (63 : Byte).toNat + (1 : Byte).toNat ≤ 64) ∧
    ¬ (1 ≤ (0 : Byte).toNat) ∧ (∀ r, one.run r = none) ∧ (runs id).run 0 = some (runIn .running (.timing 5)) :=
  ⟨test_listens_runs _, by decide, by decide, by decide +kernel, by decide +kernel⟩

/-- Two moves on axis 0, each gated by the completion of the other. -/
def circular : State :=
  { one with
    places := (one.places.set 0 (some ⟨0, .abs 900, 0, 2, [.after 1 0], none⟩)).set 1
      (some ⟨0, .abs 900, 0, 2, [.after 0 0], none⟩),
    slots := one.slots.set 0 ⟨0, 2, 0, 0⟩ }

theorem test_meets_CycleCheckFindsTheLowestCycle :
    (∀ i, i < 2 → circular.checkMove circular.slots[(0 : SlotNo)] i = none) ∧ Listens circular ∧
    (circular.slots[(0 : SlotNo)]).length ≠ 0 ∧ circular.validate circular.slots[(0 : SlotNo)] = some (0, .cycle) ∧
    planned.validate planned.slots[(0 : SlotNo)] = none :=
  ⟨by decide +kernel, ⟨⟨rfl, rfl, rfl⟩, rfl, .inl rfl⟩, by decide +kernel, by decide +kernel, by decide +kernel⟩

/-- A plan of one move with these gates on this axis. -/
def gated (a : AxisNo) (g : List Gate) : State :=
  { one with places := one.places.set 0 (some ⟨a, .abs 900, 0, 2, g, none⟩), slots := one.slots.set 0 ⟨0, 1, 0, 0⟩ }

theorem test_meets_CycleCheckFindsTheLowestCycle_entries :
    one.slotEntry ⟨0, 1, 0, 0⟩ 0 = none ∧ ((gated 1 []).ax 1).config = none ∧
    (∀ g ∈ [[], [.after 1 0], [Gate.after 0 0], [.whenGe 0 1001], [.whenLe 1 0], [.mark 0, .whenLe 0 1000]],
      (gated 0 g).slotEntry ⟨0, 1, 0, 0⟩ 0 = some ⟨0, .abs 900, 0, 2, g, none⟩ ∧ ((gated 0 g).ax 0).config = some record) ∧
    (let s := (gated 0 []).modAx 0 (fun x => { x with config := some { record with partner := some 1 } })
     (s.ax 0).config = some { record with partner := some 1 } ∧ (s.ax 1).config = none) ∧
    (gated 0 []).validate ⟨0, 1, 0, 0⟩ = none ∧ (gated 0 [.after 1 0]).validate ⟨0, 1, 0, 0⟩ = some (0, .afterRange) := by
  decide +kernel

theorem test_meets_RunStartsThePlan :
    Listens planned ∧ (one.slots[(0 : SlotNo)]).length = 0 ∧ circular.validate circular.slots[(0 : SlotNo)] = some (0, .cycle) ∧
    ((planned.slots[(0 : SlotNo)]).length ≠ 0 ∧ planned.validate planned.slots[(0 : SlotNo)] = none) ∧
    planned.claimSet planned.slots[(0 : SlotNo)] = [0] ∧ ({ planned with inhibit := true } : State).inhibit = true ∧
    ((planned.modAx 0 (fun x => { x with owner := .runner 2 })).ax 0).owner ≠ .none ∧
    ((planned.modAx 0 (fun x => { x with motion := .fault })).ax 0).motion = .fault ∧
    (∀ r, (((planned.setRun 0 (some (runIn .paused .closed))).setRun 1 (some (runIn .paused .closed))).setRun 2
      (some (runIn .paused .closed))).run r ≠ none) ∧
    ((planned.ax 0).owner = .none ∧ (planned.ax 0).motion ≠ .fault ∧ planned.run 0 = none) :=
  ⟨⟨⟨rfl, rfl, rfl⟩, rfl, .inl rfl⟩, by decide +kernel, by decide +kernel, by decide +kernel, by decide +kernel, rfl,
    by decide +kernel, by decide +kernel, by decide +kernel, by decide +kernel⟩

/-- RUN clears the clear-marks before it judges: a MARK gate whose mark it clears stays CLOSED, an open WHEN gate is OPEN. -/
theorem test_run_judges_on_the_cleared_marks :
    (let s : State := { gated 0 [.mark 1, .whenGe 0 500] with marks := 0x02, slots := one.slots.set 0 ⟨0, 1, 0x02, 0⟩ }
     gives (.run 1 0) s (fun t => t.marks = 0 ∧ (t.run 0).map Run.moves = some [⟨.pending, [.closed, .opened]⟩])) = true := by
  decide +kernel

/-- A TIMING gate shows its remaining time in ms (R142, R192). -/
theorem test_gate_bytes : (GateState.timing 1000).bytes = [1, 0x27, 0x10] := by decide

theorem test_meets_GatesAndMarks :
    (runIn .running .closed).moves[0]? = some ⟨.pending, [.closed]⟩ ∧ Listens one ∧ (7 : Byte).toNat = (7 : MarkNo).val ∧
    one.marks.getLsbD 7 = false ∧ ({ one with marks := 0x80 } : State).marks.getLsbD 7 = true ∧ 2 ≤ (2 : Byte).toNat :=
  ⟨rfl, test_listens, rfl, by decide, by decide, by decide⟩

theorem test_meets_GatesAndMarks_completion :
    (∀ st ∈ [RunState.running, .halting],
      let s := runs (fun r => { r with state := st, moves := [⟨.active, [.opened]⟩] })
      s.run 0 = some { runIn .running (.timing 5) with state := st, moves := [⟨.active, [.opened]⟩] }) ∧
    ((runs id).completeMove 0 0 .done []).run 0 = none ∧
    one.run 0 = none := by decide +kernel

theorem test_meets_PauseResumeHaltActOnTheRunner :
    Listens one ∧ one.run 0 = none ∧
    (∀ st ∈ [RunState.running, .pausing, .paused, .halting],
      (runs (fun r => { r with state := st })).run 0 = some { runIn .running (.timing 5) with state := st }) ∧
    ({ runIn .paused .closed with reasons := ⟨true, false, false, false, false⟩ } : Run).reasons.host = true ∧
    (runIn .paused .closed).reasons.host = false ∧ (runs id).inhibit = false ∧
    ({ runs id with inhibit := true } : State).inhibit = true ∧
    (((runs id).modAx 0 (fun x => { x with motion := .fault })).ax 0).motion = .fault ∧ ((runs id).ax 0).motion ≠ .fault ∧
    (let r : Run := { runIn .paused .closed with
      reasons := ⟨false, false, false, false, true⟩, planError := some (0, .badTarget) }
     r.reasons.planError = true ∧ r.planError = some (0, .badTarget)) :=
  ⟨test_listens, by decide +kernel, by decide +kernel, rfl, rfl, rfl, rfl, by decide +kernel, by decide +kernel, by decide⟩

theorem test_meets_SupplySamplesMoveTheFilters :
    (10999 < 11000 ∧ ¬ 11000 < 11000 ∧ 8999 < 9000 ∧ 11400 ≤ 11400 ∧ 9400 ≤ 9400 ∧ (1250 : Int) ≤ 1250 ∧ (1500 : Int) ≤ 1500 ∧
      (1149 : Int) < 1150 ∧ (1299 : Int) < 1300) ∧
    (Supply.reset.band = .normal ∧ Supply.reset.falling < 3 ∧ 3 ≤ ({ Supply.reset with falling := 3 } : Supply).falling ∧
      19 ≤ ({ Supply.reset with band := .hold, rising := 19 } : Supply).rising) ∧
    (Supply.reset.thermal = .cool ∧ 3 ≤ ({ Supply.reset with heating := 3 } : Supply).heating ∧
      19 ≤ ({ Supply.reset with thermal := .hot, cooling := 19 } : Supply).cooling) ∧
    one.power.inReset = false ∧ (asleep ⟨true, true, false⟩ none).power.state = .sleep ∧ one.power.state ≠ .sleep := by
  decide

theorem test_meets_BudgetSetReplacesTheBase :
    Listens one ∧ Resets (inState .resetting one) ∧ (49 : Half).toNat < 50 ∧ 600 < (601 : Half).toNat ∧
      50 ≤ (50 : Half).toNat ∧ (600 : Half).toNat ≤ 600 :=
  ⟨test_listens, test_resets, by decide, by decide, by decide, by decide⟩

/-- Axes 0 and 1 drive, axis 1 on a grant of lower priority. -/
def overBudget : State :=
  { ((two none).modAx 0 (fun x => { x with motion := .driving, move := some toward900, grantStamp := 1 })).modAx 1
      (fun x => { x with motion := .driving, move := some { toward900 with priority := 1 }, grantStamp := 0 }) with
    supply := { one.supply with avail := 60 } }

theorem test_meets_RevocationReachesTheBudget :
    overBudget.supply.avail < overBudget.inUse ∧ overBudget.nextRevoked = some 1 ∧ one.nextRevoked = none ∧
    (revokeLoop 12 overBudget).inUse = 50 ∧ one.inUse ≤ one.supply.avail := by decide +kernel

/-- SHARE_REQ taken as asserted, in a handshake state, with an available budget of 0. -/
def sharing (h : Handshake) (s : State) : State :=
  { s with supply := { s.supply with shareReq := true, handshake := h, avail := 0 } }

theorem test_meets_ShareHandshakeFollowsTheRequest :
    (false = one.supply.shareReq ∧ one.power.state.runs = true) ∧
    (∀ a, ((sharing .draining one).revoke.ax a).motion.moving = false) ∧
    ((sharing .draining driving).revoke.ax 0).motion.moving = true ∧
    ((sharing .yielded one).supply.shareReq = true ∧ State.reset.power.state.runs = false) ∧
    ((sharing .draining one).supply.handshake = .draining ∧ ∀ a, ((sharing .draining one).ax a).motion.moving = false) ∧
    (one.supply.handshake ≠ .draining) := by decide +kernel

/-- An assertion revokes a reversing jog though the available budget was 0 before it (R114). -/
theorem test_share_revokes_at_zero :
    (let s := stoppingTo .reversal (fun x => { x with move := some toward900 })
     gives (.shareReqChange true) { s with supply := { s.supply with avail := 0 } } (fun t =>
       (t.ax 0).stop.map Stop.dest = some .held ∧ t.inUse = 0 ∧ t.supply.handshake = .draining)) = true := by decide +kernel

theorem test_meets_SoftResetRunsToItsEnd :
    Listens driving ∧ (driving.ax 0).motion = .driving ∧
    ((oneWith (fun x => { x with motion := .blocked, link := some ⟨0, 1, false, 0⟩ })).ax 0).motion = .blocked ∧
    ((inState .resetting one).power.inReset = false ∧ (inState .resetting one).power.state = .resetting ∧
      ∀ a, ((inState .resetting one).ax a).motion.moving = false) ∧
    ((inState .resetting driving).ax 0).motion.moving = true ∧ one.power.state ≠ .resetting ∧
    ((retired.ch 3).state = .retired ∧ (retired.ch 2).state ≠ .retired ∧ (retired.ch 2).trips < 3) :=
  ⟨⟨⟨rfl, rfl, rfl⟩, rfl, .inl rfl⟩, by decide +kernel, by decide +kernel, by decide +kernel, by decide +kernel, by decide,
    by decide +kernel⟩

/-- `one` after a taken POWER, with this frame on the line. -/
def leaving (f : Option TxFrame) : State :=
  { withLink (fun l => { l with tx := f }) one with
    power := { one.power with sleepOpts := some ⟨true, false, false⟩ } }

theorem test_meets_PowerTakesThePartToSleep :
    Listens one ∧ ((0 : Byte) = 0 ∧ (1 : Byte).toNat ≤ 1 ∧ ¬ (2 : Byte).toNat ≤ 1 ∧ ¬ ((1 : Byte) = 1 ∧ (1 : Byte) = 0)) ∧
    (∀ r, one.run r = none) ∧ (∀ a, (one.ax a).motion = .idle ∨ (one.ax a).motion = .fault) ∧ (runs id).run 0 ≠ none ∧
    (let s := leaving (some ⟨[], true⟩)
     s.power.sleepOpts = some ⟨true, false, false⟩ ∧ s.link.tx = some ⟨[], true⟩) ∧
    (let s := leaving none
     s.power.sleepOpts = some ⟨true, false, false⟩ ∧ s.power.state = .active ∧ s.link.slot = none ∧ s.link.tx = none) ∧
    one.power.sleepOpts = none :=
  ⟨test_listens, by decide, by decide +kernel, by decide +kernel, by decide +kernel, by decide, by decide, rfl⟩

theorem test_meets_WakeEndsTheSleep :
    (let s := asleep ⟨true, true, false⟩ none
     s.power.inReset = false ∧ s.power.state = .sleep ∧ s.power.sleepOpts = some ⟨true, true, false⟩ ∧
     s.power.wakeCause = none) ∧
    (asleep ⟨false, false, false⟩ none).power.sleepOpts = some ⟨false, false, false⟩ ∧
    (one.power.state ≠ .sleep ∧ ∀ l, WakeSource.hand ≠ .line l) ∧
    (let s := asleep ⟨false, false, false⟩ (some .link)
     s.power.wakeCause = some .link ∧ s.power.sleepOpts = some ⟨false, false, false⟩ ∧ s.link.reports.length ≤ 14 ∧
     (s.ax 0).config = some record ∧ (s.ax 0).ref = .valid ∧ (s.ax 1).ref ≠ .valid) := by
  refine ⟨by decide, by decide, ⟨by decide, fun l h => by cases h⟩, by decide +kernel⟩

theorem test_meets_PowerOnResetRestartsThePart :
    (let s : State := { one with power := { one.power with inReset := true } }
     s.power.inReset = true) ∧
    (one.power.inReset = false ∧ State.reset.power.inReset = false ∧ State.reset.power.state = .init ∧
      one.power.state ≠ .init) ∧
    (∀ c ∈ [Instr.heatTick, .wakeEvent .rxEdge, .wakeEvent .hand],
      c ≠ .powerOnReset ∧ c ≠ .initStart ∧ ∀ l, c ≠ .wakeEvent (.line l)) :=
  ⟨rfl, by decide, by decide⟩

/-- A part held in reset takes the level of the WAKE pin, and nothing wakes it, whatever the rest of its state. -/
theorem test_held_part_does_not_wake :
    (let s := asleep ⟨true, true, false⟩ none
     let t : State := { s with power := { s.power with inReset := true } }
     gives (.wakeEvent .rxEdge) t (fun u => u = t) && gives (.wakeEvent .hand) t (fun u => u = t) &&
     gives (.wakeEvent (.line true)) t (fun u => u = { t with wakeLine := true })) = true := by decide +kernel

theorem test_meets_DozeAndTheDriveStage :
    (dwelling.power.state = .active ∧ dwelling.power.dwell ≠ none ∧ dwelling.idle = true) ∧ driving.idle = false ∧
    (let s : State := { one with power := { one.power with stage := .waking } }
     s.power.stage = .waking ∧ s.power.state ≠ .resetting) ∧ one.power.stage ≠ .waking := by decide +kernel

theorem test_meets_TransmitEndAndCadenceExpiry :
    (one.link.tx = none ∧ one.link.cadence = none) ∧
    (let s := withLink (fun l => { l with tx := some ⟨[], false⟩, slot := some someReply }) one
     s.link.tx = some ⟨[], false⟩ ∧ s.link.slot = some someReply ∧ s.link.intake = [] ∧ s.power.sleepOpts = none) ∧
    (let s := withLink (fun l => { l with
        tx := some ⟨[], false⟩, slot := some someReply, intake := [⟨1, 2, []⟩] }) one
     s.link.intake = ⟨1, 2, []⟩ :: []) ∧
    (let s := withLink (fun l => { l with tx := some ⟨[], false⟩, reports := [.positions []] }) one
     s.link.slot = none ∧ s.link.reports = .positions [] :: []) ∧
    (let s := withLink (fun l => { l with cadence := some 200 }) driving
     s.link.cadence = some 200 ∧ (s.ax 0).motion = .driving ∧ (s.ax 0).move = some toward900 ∧ (s.ax 0).pos = some 500) ∧
    (((backingOff .reverse).ax 0).motion = .backoff ∧ ((backingOff .reverse).ax 0).pos = some 500 ∧
      ((backingOff .reverse).ax 0).backoff = some ⟨.reverse, .low, 100, 0, true, false⟩) ∧ (one.ax 1).pos = none := by
  decide +kernel

theorem test_meets_TransmitEndAndCadenceExpiry_sleep :
    (∀ q ∈ [none, some someReply], ∀ rs ∈ [[], [Report.positions []]],
      let s := withLink (fun l => { l with slot := q, reports := rs }) (leaving (some ⟨[], false⟩))
      s.link.tx = some ⟨[], false⟩ ∧ s.power.sleepOpts = some ⟨true, false, false⟩ ∧ s.power.state.runs = true ∧
      s.link.slot = q ∧ s.link.reports = rs ∧ s.power.inReset = false) := by decide +kernel

theorem test_meets_TransmitEndAndCadenceExpiry_item :
    (∀ ph ∈ [Phase.ramp, .cruise, .creep, .correct],
      let s := driving.modAx 0 (fun x => { x with phase := some ph })
      (s.ax 0).motion = .driving ∧ (s.ax 0).phase = some ph) ∧
    (∀ m ∈ [none, some toward900],
      let s := stoppingTo .fault (fun x => { x with move := m })
      (s.ax 0).motion = .stopping ∧ (s.ax 0).move = m ∧ (s.ax 0).pos = some 500) ∧
    ((Report.positions [(stoppingTo .fault (fun x => { x with move := none })).posItem 0]).payload =
      [1, 0x40, 1, 0xF4, 0xFF, 0xFF]) := by decide +kernel

/-- The reply to a POWER that waits behind a report goes out next, and is the one whose end is the entry to SLEEP. -/
theorem test_power_reply_after_report :
    gives .transmitEnd (withLink (fun l => { l with slot := some someReply, reports := [.positions []] })
        (leaving (some ⟨[], false⟩)))
      (fun t => t.link.tx = some ⟨someReply.frame.bytes, true⟩ ∧ t.power.state = .active) = true := by decide +kernel

theorem test_meets_SilenceAndInhibitStopTheWork :
    (withLink (fun l => { l with supervision := .watching 500 500 }) (runs id)).link.supervision = .watching 500 500 ∧
    (runs id).link.supervision = .off ∧ (runs id).power.inReset = false ∧ (runs id).power.state ≠ .sleep ∧
    (runs id).inhibit = false ∧ ({ runs id with inhibit := true } : State).inhibit = true ∧
    (asleep ⟨true, true, false⟩ none).power.state = .sleep := by decide

theorem test_meets_CountsMoveLashOverrunAndPosition :
    (one.power.inReset = false ∧ one.power.state.runs = true ∧ (one.ax 0).config = some record ∧ (one.ax 0).pos = some 500) ∧
    (let x := (oneWith (fun x => { x with lashRem := 1 })).ax 0
     x.lashDir = .low ∧ x.lashRem = 1) ∧
    (let x := (oneWith (fun x => { x with pos := some 0, overrun := 1, lashDir := .high })).ax 0
     0 < x.overrun ∧ x.pos = some 0) ∧
    (let x := (oneWith (fun x => { x with pos := some 0, overrun := 39 })).ax 0
     x.pos = some 0 ∧ x.overrun < 40) ∧
    (let x := (oneWith (fun x => { x with pos := some 0, overrun := 40 })).ax 0
     x.pos = some 0 ∧ 40 ≤ x.overrun) := by decide +kernel

/-- Axis 0 drives a HOME that has counted `n` toward its reference end. -/
def homing (n : Int) (f : Axis → Axis) : State :=
  driving.modAx 0 (fun x => f { x with
    owner := .link ⟨.home, 0, false, .low, none, none⟩, driveDir := .low, phase := some .creep, search := n })

theorem test_meets_CountsMoveLashOverrunAndPosition_limits :
    (let x := (homing 1100 id).ax 0
     x.homing = true ∧ x.motion = .driving ∧ x.noStop = false ∧ x.stalled = false ∧ x.config = some record ∧ 1000 * 11 / 10 ≤ 1100) ∧
    ¬ 1000 * 11 / 10 ≤ 1099 ∧
    (∀ b ∈ [true, false],
      let x := (driving.modAx 0 (fun x => { x with pos := some 1000, overrun := 40, lashDir := .high, noStop := b })).ax 0
      x.homing = false ∧ x.motion = .driving ∧ x.driveDir = .high ∧ x.noStop = b ∧ x.lashDir = .high ∧ x.lashRem = 0 ∧
      x.config = some record ∧ record.endZone ≤ x.overrun ∧ x.pos = some 1000 ∧ x.ref = .valid) ∧
    ((one.ax 0).homing = false ∧ (one.ax 0).motion = .idle ∧ (one.ax 1).ref ≠ .valid) ∧
    (let s := homing 0 (fun x => { x with pos := none, ref := .unknown })
     Awake s ∧ (s.ax 0).phase = some .creep ∧ (s.ax 0).pos = none) := by
  refine ⟨by decide +kernel, by decide, by decide +kernel, by decide +kernel, .inl rfl, by decide +kernel⟩

theorem test_meets_CountsMoveLashOverrunAndPosition_moves :
    (∀ m ∈ [Motion.idle, .queued, .engaging, .driving, .stopping, .backoff, .blocked, .fault, .checking],
      let s := oneWith (fun x => { x with motion := m })
      s.power.inReset = false ∧ s.power.state.runs = true ∧ (s.ax 0).motion = m ∧ (s.ax 0).config = some record ∧
      (s.ax 0).pos = some 500 ∧ (s.ax 0).lashDir = .low ∧ (s.ax 0).lashRem = 0 ∧ (s.ax 0).overrun = 0) ∧
    (let s := oneWith (fun x => { x with pos := some 0, lashDir := .high, overrun := 1 })
     (s.ax 0).pos = some 0 ∧ 0 < (s.ax 0).overrun ∧ (s.ax 0).lashDir = .high ∧ (s.ax 0).lashRem = 0) ∧
    (let s := (homing 0 (fun x => { x with motion := .stopping, pos := none, ref := .unknown }))
     (s.ax 0).homing = true ∧ (s.ax 0).motion = .stopping ∧ (s.ax 0).pos = none ∧ (s.ax 0).config = some record) ∧
    (let x := ((backingOff .reverse).modAx 0 (fun x => { x with pos := some 499 })).ax 0
     x.motion = .backoff ∧ x.backoff = some ⟨.reverse, .low, 100, 0, true, false⟩ ∧ x.pos ≠ some 500) ∧
    ((100 : Int) ≤ 99 + 1 ∧ (98 : Int) + 1 < 100) ∧ ((backingOff .finish).ax 0).pos = some 500 := by decide +kernel

/-- The count that completes the backoff distance turns the output off and begins FINISH; the one before it, and one that the lash
absorbs, do not (R57). -/
theorem test_backoff_distance :
    (let s (n : Int) (lash : Nat) := (backingOff .reverse).modAx 0 (fun x => { x with
        blanking := true, lashRem := lash, backoff := some ⟨.reverse, .low, 100, n, true, false⟩ })
     let after (t : State) := ((t.ax 0).pos, (t.ax 0).blanking, (t.ax 0).backoff)
     gives (.hallEdge 0 (.count .low)) (s 99 0)
       (fun t => after t = (some 499, false, some ⟨.finish, .low, 100, 100, true, false⟩)) ∧
     gives (.hallEdge 0 (.count .low)) (s 98 0)
       (fun t => after t = (some 499, true, some ⟨.reverse, .low, 100, 99, true, false⟩)) ∧
     gives (.hallEdge 0 (.count .low)) (s 99 1)
       (fun t => after t = (some 500, true, some ⟨.reverse, .low, 100, 99, true, false⟩))) := by decide +kernel

theorem test_meets_CountsMoveLashOverrunAndPosition_phases :
    (∀ p ∈ [897, 850, 700], ∀ ph ∈ [Phase.ramp, .cruise, .creep, .correct],
      let x := (driving.modAx 0 (fun x => { x with pos := some p, phase := some ph, rampCounts := 60 })).ax 0
      x.move = some toward900 ∧ x.phase = some ph ∧ x.homing = false ∧ x.pos = some p) ∧
    (toward900.endFlag = false ∧ apart 900 897 ≤ toward900.profile.coast ∧ apart 900 897 ≤ toward900.profile.tolerance ∧
      toward900.profile.coast < apart 900 850 ∧ apart 900 850 ≤ toward900.profile.creepZone ∧
      toward900.profile.creepZone < apart 900 700 ∧ toward900.profile.rampUp ≤ 60) ∧
    (((homing 0 id).ax 0).homing = true ∧ ((homing 0 id).ax 0).phase = some .creep ∧
      ((homing 0 id).ax 0).move = some toward900) := by decide +kernel

theorem test_meets_CountsMoveLashOverrunAndPosition_asleep :
    HallPowered (asleep ⟨true, true, false⟩ none) ∧
    (let s := asleep ⟨true, true, false⟩ none
     let y : Axis := { s.ax 0 with lashDir := .low, lashRem := 0, pos := some 499, episode := some ⟨-1, false⟩ }
     let t := ((handWoken s).setAx 0 y).positionChange 0 (some 500) true
     (t.ax 0).homing = false ∧ (t.ax 0).motion = .idle ∧ t.power.wakeCause = some .hand) ∧
    (let x := (homing 1100 (fun x => { x with stalled := true })).ax 0
     x.homing = true ∧ x.stalled = true) :=
  ⟨.inr ⟨rfl, _, rfl, rfl⟩, by decide +kernel, by decide +kernel⟩

/-- The stall of a HOME ends the watch of its search limit, and nothing else: NO_STOP has not been raised. -/
theorem test_stall_of_home :
    gives (.stall 0) (homing 0 (fun x => { x with blanking := false }))
      (fun t => (t.ax 0).stalled ∧ (t.ax 0).noStop = false ∧ (t.ax 0).ref = .valid) = true := by decide +kernel

/-- A count past the end zone after a RESET has ended a HOME between its stall and its standstill raises NO_STOP (R10, R201). -/
theorem test_noStop_after_reset_of_home :
    gives (.hallEdge 0 (.count .low))
      (inState .resetting (stoppingTo (.idle false)
        (fun x => { x with driveDir := .low, stalled := true, pos := some 0, overrun := 40 })))
      (fun t => ((t.ax 0).fault.map FaultRec.kind = some .noStop) ∧ (t.ax 0).ref = .suspect) = true := by decide +kernel

/-- A count that a driven axis discards at its end zone raises NO_STOP. -/
theorem test_noStop :
    gives (.hallEdge 0 (.count .high))
      (driving.modAx 0 (fun x => { x with pos := some 1000, overrun := 40, lashDir := .high }))
      (fun t => ((t.ax 0).fault.map FaultRec.kind = some .noStop) ∧ (t.ax 0).ref = .suspect ∧ (t.ax 0).motion = .stopping) = true
    := by decide +kernel

theorem test_meets_HandMovesAndIllegalEdges :
    one.power.inReset = false ∧ Awake one ∧
    ((one.ax 1).pos = none ∧ (one.ax 1).homing = false ∧ (one.ax 1).motion = .idle) ∧
    (one.power.state.runs = true ∧ (one.ax 1).ref ≠ .valid ∧ (one.ax 0).ref = .valid) ∧
    ((asleep ⟨true, false, false⟩ none).power.state = .sleep ∧
      (asleep ⟨true, false, false⟩ none).power.sleepOpts = some ⟨true, false, false⟩) ∧
    State.reset.power.state = .init ∧
    ((oneWith (fun x => { x with episode := some ⟨3, false⟩ })).ax 0).episode = some ⟨3, false⟩ ∧
    (one.ax 0).episode = none :=
  ⟨rfl, .inl rfl, by decide +kernel, by decide +kernel, by decide, rfl, by decide +kernel, by decide +kernel⟩

theorem test_meets_HandMovesAndIllegalEdges_unknown :
    (let x := (driving.modAx 0 (fun x => { x with pos := none, ref := .unknown, phase := some .ramp })).ax 0
     x.pos = none ∧ x.homing = false ∧ x.motion = .driving ∧ x.move = some toward900 ∧ x.phase = some .ramp) ∧
    (∀ m ∈ [Motion.engaging, .stopping, .backoff, .checking],
      let x := (oneWith (fun x => { x with pos := none, ref := .unknown, motion := m })).ax 0
      x.pos = none ∧ x.homing = false ∧ x.motion = m) := by decide +kernel

theorem test_meets_HandMovesAndIllegalEdges_asleep :
    (∀ w ∈ [true, false],
      let s := asleep ⟨true, w, false⟩ none
      s.power.state = .sleep ∧ s.power.sleepOpts = some ⟨true, w, false⟩ ∧ s.power.wakeCause = none ∧ (s.ax 1).pos = none ∧
      (s.ax 1).motion = .idle) ∧
    (asleep ⟨true, true, false⟩ (some .link)).power.wakeCause ≠ none ∧ one.power.state ≠ .sleep ∧
    ¬ HallPowered State.reset ∧ ¬ HallPowered (asleep ⟨false, false, false⟩ none) := by
  refine ⟨by decide +kernel, by decide, by decide, ?_, ?_⟩
  · rintro (h | h)
    · exact absurd h (by decide)
    · exact absurd h.1 (by decide)
  · rintro (h | ⟨_, o, ho, hw⟩)
    · exact absurd h (by decide)
    · cases ho
      exact absurd hw (by decide)

/-- A hand count in a watched SLEEP moves the position and, with wake-on-hand, is the wake event. -/
theorem test_count_in_sleep :
    (let moved (o : SleepOpts) (c : Option WakeCause) := gives (.hallEdge 0 (.count .low)) (asleep o none)
       (fun t => (t.ax 0).pos = some 499 ∧ t.power.state = .sleep ∧ t.power.wakeCause = c)
     moved ⟨true, true, false⟩ (some .hand) = true ∧ moved ⟨true, false, false⟩ none = true) := by decide +kernel

theorem test_meets_EffectiveDutyFollowsItsSteps :
    60 ≤ Profile.default.rampUp ∧
    ((driving.ax 0).motion = .driving ∧ (driving.ax 0).move = some toward900 ∧ (driving.ax 0).config = some record ∧
      (driving.ax 0).phase = some .cruise) ∧
    (((backingOff .reverse).ax 0).phase = none ∧ ((backingOff .reverse).ax 0).move = some toward900 ∧
      ((backingOff .reverse).ax 0).backoff = some ⟨.reverse, .low, 100, 0, true, false⟩) ∧
    one.partner 0 = none ∧
    (let f (p : Nat) (x : Axis) : Axis := { x with motion := .driving, phase := some .cruise, driveDir := .high, pos := some p }
     let s := ganged (f 510) (f 500)
     s.partner 0 = some 1 ∧ (s.ax 0).homing = false ∧ (s.ax 0).check = none ∧ (s.ax 0).pos = some 510 ∧
     (s.ax 1).pos = some 500 ∧ s.leadSkew 0 = 10 ∧ s.leadSkew 1 = 0) ∧
    (ganged id id).leadSkew 0 = 0 := by decide +kernel

/-- R36 by hand: 30 + (80 − 30) · 30 / 60 = 55 in RAMP, at 50 % 27; forced creep at 20 % gives 35 · 0.2 = 7; a skew of 60
leaves the creep duty. -/
theorem test_effectiveDuty :
    effectiveDuty Profile.default .ramp 30 50 false false 0 = 27 ∧ effectiveDuty Profile.default .cruise 0 20 true true 0 = 7 ∧
    effectiveDuty Profile.default .cruise 0 100 false false 60 = 35 := by decide

/-- Axis 0 is in a pulse of a winding test. -/
def pulsing (d : Dir) : State := oneWith (fun x => { x with motion := .checking, check := some ⟨0, some d, 0, 0⟩ })

theorem test_meets_DriveMarksAndCheckPulses :
    (driving.power.inReset = false ∧ (driving.ax 0).motion = .driving ∧ (driving.ax 0).phase = some .cruise ∧
      (driving.ax 0).blanking = false ∧ (driving.ax 0).move = some toward900 ∧ toward900.forcedCreep = false) ∧
    ({ driving with store := { driving.store with scales := driving.store.scales.set 0 99 } } : State).scale 0 < 100 ∧
    ¬ driving.scale 0 < 100 ∧
    (∀ d ∈ [Dir.high, .low], ((pulsing d).ax 0).motion = .checking ∧ ((pulsing d).ax 0).check = some ⟨0, some d, 0, 0⟩ ∧
      (pulsing d).ask 0 [.low] = none) ∧
    (let s : State := { two (some ⟨true, 0, 100, 490, 1, 400, 600, 20⟩) with runners := one.runners }
     let t := s.setAx 0 { s.ax 0 with motion := .checking, driveDir := .low, check := some ⟨0, some .low, 300, 0⟩ }
     t.ask 0 [.low] = some (0, 1)) ∧
    (one.ax 0).motion ≠ .checking := by decide +kernel

/-- The OP_END of a CHECK carries its result after the axis, and no position (R68). -/
theorem test_opEnd_check :
    (Report.opEnd .check .fault (some .opened) [⟨3, some 500, 0⟩] [some .opened]).payload =
      [2, 3, 1, 6, byteOf FaultKind.opened.code, 0xFF, 0xFF] := by decide

/-- The OP_END of a JOG of a gang (R52). -/
theorem test_opEnd_jog :
    (Report.opEnd .jog .done none [⟨3, some 500, 0⟩, ⟨4, none, 0⟩] []).payload =
      [0, 3, 0, 0x01, 0xF4, 0xFF, 4, 0xFF, 0xFF] := by decide

theorem test_meets_ObstructionAndBlockTimeoutRaiseFaults :
    (driving.power.inReset = false ∧ (driving.ax 0).blanking = false ∧ (driving.ax 0).motion = .driving ∧
      (driving.ax 0).homing = false ∧ (driving.ax 0).config = some record ∧ record.pinch = some ⟨200, 800, .high, 100⟩ ∧
      (driving.ax 0).pos = some 500 ∧ (driving.ax 0).driveDir = .high) ∧
    (((backingOff .reverse).ax 0).blanking = false ∧ ((backingOff .reverse).ax 0).motion = .backoff ∧
      ((backingOff .reverse).ax 0).backoff = some ⟨.reverse, .low, 100, 0, true, false⟩) ∧
    (one.ax 0).motion = .idle ∧
    (let x := (oneWith (fun x => { x with motion := .blocked, link := some ⟨0, 1, false, 8000⟩ })).ax 0
     x.motion = .blocked ∧ x.link = some ⟨0, 1, false, 8000⟩) ∧
    (let x := (oneWith (fun x => { x with motion := .blocked, link := some ⟨0, 1, true, 0⟩ })).ax 0
     x.link = some ⟨0, 1, true, 0⟩) := by decide +kernel

theorem test_meets_ObstructionAndBlockTimeoutRaiseFaults_breach :
    (let s := { two (some ⟨true, 0, 500, 600, 1, 500, 600, 5⟩) with places := one.places }.modAx 0 (fun x =>
        { x with motion := .driving, move := some toward900 })
     (s.ax 0).motion = .driving ∧ (s.ax 0).move ≠ none ∧ (s.ax 0).check = none ∧ (s.ax 0).pos = some 500 ∧
     (s.ax 1).pos = some 500 ∧ ¬ (500 ≤ 499 ∧ 499 ≤ 600)) ∧ (one.ax 0).motion = .idle := by decide +kernel

theorem test_meets_ObstructionAndBlockTimeoutRaiseFaults_blocked :
    (let s := (nearing .idle).modAx 0 (fun x => { x with check := none, backoff := none })
     s.ask 0 (s.wantDirs 0) = some (0, 1)) ∧ one.ask 0 (one.wantDirs 0) = none ∧
    (∀ c ∈ [true, false],
      let x := (oneWith (fun x => { x with motion := .blocked, link := some ⟨0, 1, c, 70⟩ })).ax 0
      x.motion = .blocked ∧ x.link = some ⟨0, 1, c, 70⟩) ∧
    (let s := (nearing .blocked).modAx 0 (fun x => { x with check := none, link := some ⟨0, 1, false, 70⟩ })
     s.ask 0 (s.wantDirs 0) = some (0, 1) ∧ s.partner 0 = none) ∧
    (let s := ((two none).modAx 0 (fun x => { x with motion := .blocked, link := some ⟨0, 1, false, 0⟩ })).modAx 1
        (fun x => { x with motion := .blocked, link := some ⟨1, 0, false, 0⟩ })
     (s.ax 1).motion = .blocked ∧ (s.ax 1).link = some ⟨1, 0, false, 0⟩) ∧
    (one.ax 0).move = none ∧ (driving.ax 0).move = some toward900 := by decide +kernel

theorem test_meets_StallIsClassified :
    (driving.power.inReset = false ∧ (driving.ax 0).blanking = false ∧ (driving.ax 0).motion = .driving ∧
      (driving.ax 0).homing = false ∧ (driving.ax 0).config = some record ∧ (driving.ax 0).pos = some 500 ∧
      ¬ 1000 ≤ 500 + record.endZone) ∧
    (let x := (driving.modAx 0 (fun x => { x with pos := some 960 })).ax 0
     x.pos = some 960 ∧ x.driveDir = .high ∧ 1000 ≤ 960 + record.endZone) ∧
    (let x := (driving.modAx 0 (fun x => { x with owner := .link ⟨.home, 0, false, .low, none, none⟩ })).ax 0
     x.homing = true ∧ x.config = some record) ∧
    ((driving.modAx 0 (fun x => { x with pos := none, ref := .unknown })).ax 0).pos = none ∧
    (((backingOff .reverse).ax 0).motion = .backoff ∧ ((backingOff .reverse).ax 0).driveDir = .low ∧
      ((backingOff .reverse).ax 0).pos = some 500 ∧ ¬ 500 ≤ record.endZone) ∧
    (let x := ((backingOff .reverse).modAx 0 (fun x => { x with pos := some 40 })).ax 0
     x.pos = some 40 ∧ 40 ≤ record.endZone) ∧
    (((backingOff .reverse).modAx 0 (fun x => { x with pos := none })).ax 0).pos = none ∧ (one.ax 0).motion = .idle := by
  decide +kernel

theorem test_meets_FaultsAreRecordedAndStopTheAxis :
    (driving.ax 0).fault = none ∧ ((backingOff .brake).ax 0).fault ≠ none ∧ driving.link.reports.length < 16 ∧
    driving.partner 0 = none ∧ (driving.ax 0).owner = .none ∧ (driving.ax 0).motion = .driving ∧
    (∀ m ∈ [Motion.engaging, .idle, .queued, .blocked],
      let s := oneWith (fun x => { x with motion := m })
      (s.ax 0).motion = m ∧ (s.ax 0).fault = none ∧ (s.ax 0).owner = .none ∧ s.partner 0 = none) := by decide +kernel

theorem test_meets_FaultsAreRecordedAndStopTheAxis_gang :
    (∀ m ∈ [Motion.driving, .queued, .blocked, .checking, .idle, .fault, .backoff],
      let s := ganged (fun x => { x with motion := .driving }) (fun x => { x with motion := m })
      s.partner 0 = some 1 ∧ (s.ax 0).fault = none ∧ (s.ax 0).motion ≠ .backoff ∧ (s.ax 1).motion = m ∧
      FaultKind.short ≠ .skew ∧ FaultKind.short ≠ .noChannel) ∧
    (∀ d ∈ [Dest.fault, .held],
      ((ganged id (fun x => { x with motion := .stopping, stop := stopTo d false })).ax 1).stop =
        some ⟨d, .coast, 0, false, 0, false, false⟩) ∧
    ((ganged id (fun x => { x with motion := .engaging })).ax 1).stop = none ∧
    (∀ k ∈ [BackoffStep.brake, .reverse, .finish],
      ((backingOff k).ax 0).motion = .backoff ∧ ((backingOff k).ax 0).backoff = some ⟨k, .low, 100, 0, true, false⟩) ∧
    ((stoppingTo .held id).ax 0).stop = some ⟨.held, .coast, 0, false, 0, false, false⟩ ∧
    ((pulsing .high).ax 0).motion = .checking ∧ one.partner 0 ≠ some 0 := by decide +kernel

theorem test_meets_FaultsAreRecordedAndStopTheAxis_skew :
    (∀ b ∈ [true, false],
      let s := ganged (fun x => { x with pos := some 521, motion := .driving, skewRaised := b }) id
      s.partner 0 = some 1 ∧ (s.ax 0).pos = some 521 ∧ (s.ax 1).pos = some 500 ∧ (s.ax 0).motion = .driving ∧
      (s.ax 0).homing = false ∧ (s.ax 0).check = none ∧ (s.ax 0).skewRaised = b ∧ min record.skewLimit 20 < apart 521 500) ∧
    ¬ min record.skewLimit 20 < apart 520 500 ∧
    (let s := ganged (fun x => { x with pos := some 521 }) id
     (s.ax 0).motion = .idle ∧ (s.ax 1).motion = .idle ∧ s.power.state ≠ .sleep) ∧
    ((ganged (fun x => { x with pos := none, ref := .unknown }) id).ax 0).pos = none := by decide +kernel

/-- A skew of 21 counts at rest, above the limit of 20, makes both references SUSPECT; one of 20 does not. -/
theorem test_skew_at_rest :
    (let s (p : Nat) := (ganged (fun x => { x with pos := some p }) id).checkSkew 0
     ((s 521).ax 0).ref = .suspect ∧ ((s 521).ax 1).ref = .suspect ∧ ((s 520).ax 0).ref = .valid) := by decide +kernel

theorem test_meets_StandstillReachesTheDestination :
    (∀ d ∈ [Dest.fault, .idle true, .held, .blocked 0 1, .reversal, .checkDone, .completion .correct],
      let s := stoppingTo d id
      s.power.inReset = false ∧ s.partner 0 = none ∧ (s.ax 0).motion = .stopping ∧
      (s.ax 0).stop = some ⟨d, .coast, 0, false, 0, false, false⟩ ∧ (s.ax 0).noted = none ∧
      (s.ax 0).move = some toward900 ∧ (s.ax 0).pos = some 500 ∧ s.ask 0 [.high] = none) ∧
    ((stoppingTo (.completion .correct) (fun x => { x with noted := some .atEnd })).ax 0).noted = some .atEnd ∧
    (apart 900 896 ≤ toward900.profile.tolerance ∧ toward900.profile.tolerance < apart 900 895 ∧ toward900.corrections < 2) ∧
    ((stoppingTo (.completion .correct) (fun x => { x with move := some { toward900 with corrections := 2 } })).ax 0).move =
      some { toward900 with corrections := 2 } ∧
    (∀ k ∈ [BackoffStep.brake, .reverse, .finish],
      ((backingOff k).ax 0).motion = .backoff ∧ ((backingOff k).ax 0).backoff = some ⟨k, .low, 100, 0, true, false⟩ ∧
      (backingOff k).ask 0 [.low] = none ∧ (backingOff k).partner 0 = none) ∧
    ((one.ax 0).motion ≠ .stopping ∧ (one.ax 0).motion ≠ .backoff) := by decide +kernel

theorem test_meets_StandstillReachesTheDestination_gang :
    (∀ d ∈ [Dest.fault, .completion .correct],
      let s := ganged
        (fun x => { x with motion := .stopping, stop := stopTo d false, noted := some .done, move := some toward900 })
        (fun x => { x with motion := .stopping, stop := stopTo d true, noted := some .near })
      s.power.inReset = false ∧ s.partner 0 = some 1 ∧ (s.ax 0).motion = .stopping ∧
      (s.ax 0).stop = some ⟨d, .coast, 0, false, 0, false, false⟩ ∧ (s.ax 0).noted = some .done ∧
      (s.ax 1).motion = .stopping ∧ (s.ax 1).stop = some ⟨d, .coast, 0, false, 0, false, true⟩ ∧
      (s.ax 1).noted = some .near) ∧
    (let s := ganged
        (fun x => { x with motion := .stopping, stop := stopTo (.completion .correct) false, pos := some 900,
                           move := some toward900 }) (fun x => { x with motion := .driving })
     (s.ax 0).noted = none ∧ (s.ax 0).move = some toward900 ∧ (s.ax 0).pos = some 900 ∧
     apart 900 900 ≤ toward900.profile.tolerance ∧ (s.ax 1).motion = .driving) := by decide +kernel

/-- Axis 0 comes to rest at 450 short of 900, its correction blocked by entry 0 where there is one, while axis 2 waits for the
budget that axis 0 takes. -/
def correcting (k : Corr) (e : Option KeepoutEntry) : State :=
  let s := (two e).modAx 0 (fun x => { x with
    motion := .stopping, pos := some 450, move := some toward900, driveDir := .high, stop := stopTo (.completion k) false })
  let s := s.modAx 2 (fun x => { x with
    config := some record, motion := .queued, move := some { toward900 with named := 2 }, ref := .valid, pos := some 500 })
  { (s.setCh 0 ⟨.granted, none, some 0, 0, none, false⟩) with
    queue := [⟨2, none, 2, 0, 50, false⟩], supply := { one.supply with avail := 60 } }

/-- The entry that blocks `correcting`. -/
def inTheWay : KeepoutEntry := ⟨true, 0, 400, 600, 1, 0, 1000, 5⟩

theorem test_meets_StandstillReachesTheDestination_corrections :
    (∀ k ∈ [Corr.held, .blocked 0 1, .correct],
      let s := correcting k (some inTheWay)
      s.power.inReset = false ∧ s.partner 0 = none ∧ (s.ax 0).motion = .stopping ∧
      (s.ax 0).stop = stopTo (.completion k) false ∧ (s.ax 0).noted = none ∧ (s.ax 0).move = some toward900 ∧
      (s.ax 0).pos = some 450 ∧ toward900.profile.tolerance < apart 900 450 ∧ toward900.corrections < 2 ∧
      (∀ q ∈ s.queue, q.axis ≠ 0 ∧ q.partner ≠ some 0) ∧ s.ask 0 [.high] = some (0, 1)) ∧
    (∀ d ∈ [Dest.fault, .blocked 0 1, .held, .idle false, .reversal, .checkDone, .completion .held],
      let s := ganged
        (fun x => { x with motion := .stopping, stop := stopTo d false, move := some toward900 })
        (fun x => { x with motion := .stopping, stop := stopTo (.completion .correct) true, noted := some .near })
      s.power.inReset = false ∧ s.partner 0 = some 1 ∧ (s.ax 0).motion = .stopping ∧ (s.ax 0).stop = stopTo d false ∧
      (s.ax 0).noted = none ∧ (s.ax 0).move = some toward900 ∧ toward900.profile.tolerance < apart 900 500 ∧ s.queue = [] ∧
      (s.ax 1).motion = .stopping ∧ (s.ax 1).stop = stopTo (.completion .correct) true) ∧
    (let s := ganged
        (fun x => { x with motion := .stopping, stop := stopTo (.completion .held) false, move := some toward900 })
        (fun x => { x with motion := .driving })
     (s.ax 0).stop = stopTo (.completion .held) false ∧ (s.ax 1).motion = .driving ∧ s.queue = []) := by decide +kernel

/-- A correction that the keep-out question blocks ends its charge, and the axis that waits for the budget is granted. -/
theorem test_blocked_correction_grants :
    gives (.standstill 0) (correcting .correct (some inTheWay))
      (fun t => (t.ax 0).motion = .blocked ∧ (t.ax 2).motion = .engaging) = true := by decide +kernel

theorem test_meets_HeatTickHeatsAndCools :
    (one.power.inReset = false ∧ one.power.state.runs = true ∧ State.reset.power.state = .init) ∧
    ((asleep ⟨true, true, false⟩ (some .link)).power.wakeCause ≠ none ∧
      (asleep ⟨true, true, false⟩ none).power.wakeCause = none ∧ (asleep ⟨true, true, false⟩ none).power.sleepTicks < 99) ∧
    (let s := driving.modAx 0 (fun x => { x with dutyLo := 80, dutyHi := 80, heat := 599999 })
     (s.ax 0).config = some record ∧ (s.ax 0).dutyLo = 80 ∧ (s.ax 0).dutyHi = 80 ∧ s.dutyNow 0 = 80 ∧ (s.ax 0).stop = none) ∧
    ((one.ax 0).dutyLo = 0 ∧ (one.ax 0).dutyHi = 0 ∧ one.dutyNow 0 = 0) ∧
    (let x := (driving.modAx 0 (fun x => { x with dutyLo := 30, dutyHi := 80 })).ax 0
     x.dutyLo ≤ x.dutyHi ∧ 0 < x.dutyHi ∧ x.heat + x.dutyLo ≤ 600000) := by decide +kernel

theorem test_meets_HeatTickHeatsAndCools_overheat :
    (let s := driving.modAx 0 (fun x => { x with heat := 600000, pos := some 700 })
     let before := driving
     (s.ax 0).motion = .driving ∧ (s.ax 0).move = some toward900 ∧ (s.ax 0).pos = some 700 ∧ 200 ≤ apart 900 700 ∧
     (s.ax 0).config = some record ∧ (before.ax 0).heat < 600000 ∧ (s.ax 0).heat = 600000) ∧
    (∀ b : AxisNo, b ≠ 0 → (driving.ax b).config = none) := by decide +kernel

/-- The heat limit, reached 200 counts from the target, raises OVERHEAT; reached 199 counts from it, it locks the axis out
only. -/
theorem test_overheat :
    (let s (p : Nat) := driving.modAx 0 (fun x => { x with dutyLo := 80, dutyHi := 80, heat := 599999, pos := some p })
     gives .heatTick (s 700) (fun t => ((t.ax 0).fault.map FaultRec.kind = some .overheat) ∧ (t.ax 0).lockout = true) ∧
     gives .heatTick (s 701) (fun t => (t.ax 0).fault = none ∧ (t.ax 0).lockout = true)) := by decide +kernel

/-- Channel 0 with its relay closing toward axis 0, which is engaging. -/
def closing (f : Axis → Axis) : State :=
  (oneWith (fun x => f { x with motion := .engaging, move := some toward900 })).setCh 0
    ⟨.settling, some true, some 0, 0, none, false⟩

theorem test_meets_RelaysSettle :
    (let s := closing id
     s.power.inReset = false ∧ (s.ch 0).state = .settling ∧ (s.ch 0).closing = some true ∧ (s.ch 0).axis = some 0 ∧
     s.partner 0 = none ∧ s.chanOf 0 = some 0 ∧ (s.ax 0).stop = none ∧ (s.ax 0).check = none ∧
     (s.ax 0).move = some toward900 ∧ toward900.reversed = false) ∧
    ((closing (fun x => { x with check := some ⟨0, none, 0, 0⟩ })).ax 0).check = some ⟨0, none, 0, 0⟩ ∧
    ((closing (fun x => { x with stop := some ⟨.fault, .coast, 0, false, 0, false, false⟩ })).ax 0).stop =
      some ⟨.fault, .coast, 0, false, 0, false, false⟩ ∧
    ((one.setCh 0 ⟨.settling, some false, some 0, 0, none, false⟩).ch 0).closing = some false ∧
    ((one.setCh 0 ⟨.tripped, none, some 0, 1, some 500, true⟩).ch 0).opening = true ∧
    ((one.ch 0).state ≠ .settling ∧ (one.ch 0).state ≠ .tripped) := by decide +kernel

theorem test_meets_RelaysSettle_destinations :
    (∀ d ∈ [Dest.fault, .idle true, .held, .blocked 0 1],
      let s := closing (fun x => { x with stop := stopTo d false })
      (s.ax 0).stop = stopTo d false ∧ s.partner 0 = none ∧ s.chanOf 0 = some 0) ∧
    (let s := closing id
     let u (e : Option KeepoutEntry) : State := { s.modAx 0 (fun x => { x with move := some { toward900 with reversed := true } })
       with entries := one.entries.set 0 e }
     ((u none).ax 0).move = some { toward900 with reversed := true } ∧ (u none).anyBlocked [0] = false) ∧
    (let s := ((nearing .engaging).modAx 0 (fun x => { x with check := none })).setCh 0 ⟨.settling, some true, some 0, 0, none, false⟩
     (s.ax 0).stop = none ∧ (s.ax 0).check = none ∧ s.chanOf 0 = some 0 ∧ s.partner 0 = none ∧ s.anyBlocked [0] = true) := by
  decide +kernel

/-- The relays of channels 0 and 1 close toward the gang of axes 0 and 1. -/
def closingGang (f : Axis → Axis) : State :=
  ((ganged (fun x => f { x with motion := .engaging, move := some toward900 })
    (fun x => { x with motion := .engaging, move := some toward900 })).setCh 0 ⟨.settling, some true, some 0, 0, none, false⟩).setCh 1
      ⟨.settling, some true, some 1, 0, none, false⟩

theorem test_meets_RelaysSettle_gang :
    (let s := closingGang id
     s.power.inReset = false ∧ (s.ch 0).state = .settling ∧ (s.ch 0).closing = some true ∧ (s.ch 0).axis = some 0 ∧
     s.partner 0 = some 1 ∧ s.chanOf 0 = some 0 ∧ s.chanOf 1 = some 1 ∧ (s.ax 0).stop = none ∧ (s.ax 1).stop = none ∧
     (s.ax 0).check = none ∧ s.anyBlocked [0, 1] = false) ∧
    ((closingGang (fun x => { x with check := some ⟨0, none, 0, 0⟩ })).ax 0).check ≠ none ∧
    (∃ m, ((closingGang (fun x => { x with move := some { toward900 with reversed := true } })).ax 0).move = some m ∧
      m.reversed = true) ∧
    (∀ d ∈ [Dest.fault, .idle true, .held, .blocked 0 1],
      ((closingGang (fun x => { x with stop := stopTo d false })).ax 0).stop.map Stop.dest = some d) ∧
    (let s := (closingGang id).modAx 2 (fun x => { x with config := some record, ref := .valid, pos := some 500 })
     ({ s with entries := one.entries.set 0 (some ⟨true, 0, 400, 700, 2, 0, 1000, 5⟩) } : State).anyBlocked [0, 1] = true) :=
  ⟨by decide +kernel, by decide +kernel, ⟨_, rfl, rfl⟩, by decide +kernel, by decide +kernel⟩

/-- The first settle end of a gang's grant starts the drive of both axes on both channels. -/
theorem test_gang_drives :
    gives (.settleCloseEnd 0) (closingGang id)
      (fun t => (t.ax 0).motion = .driving ∧ (t.ax 1).motion = .driving ∧ (t.ch 0).state = .granted ∧ (t.ch 1).state = .granted)
      = true := by decide +kernel

theorem test_meets_TripsAndRetirement :
    (driving.power.inReset = false ∧ (driving.ch 0).state = .granted ∧ (driving.ch 0).axis = some 0 ∧
      (driving.ax 0).motion ≠ .checking ∧ (driving.ax 0).stop = none) ∧
    (let s := (pulsing .high).setCh 0 ⟨.granted, none, some 0, 0, none, false⟩
     (s.ch 0).state = .granted ∧ (s.ch 0).axis = some 0 ∧ (s.ax 0).motion = .checking) ∧
    (one.ch 0).state ≠ .granted ∧
    (let x := (one.setCh 0 ⟨.tripped, none, none, 2, some 0, false⟩).ch 0
     x.state = .tripped ∧ x.axis = none ∧ x.trips < 3) ∧
    (let x := (one.setCh 0 ⟨.tripped, none, none, 3, some 0, false⟩).ch 0
     x.axis = none ∧ 3 ≤ x.trips) := by decide +kernel

theorem test_meets_GrantsTakeTheirOrder :
    ([] : List GrantRequest).Pairwise (fun x y => y.ahead x = false) ∧
    ([⟨0, none, 3, 1, 50, false⟩, ⟨1, none, 2, 0, 50, false⟩] : List GrantRequest).Pairwise (fun x y => y.ahead x = false) := by
  decide

/-- Axis 0 waits in the queue for a grant. -/
def waiting : State :=
  { oneWith (fun x => { x with motion := .queued, move := some toward900 }) with
    queue := [⟨0, none, 2, 0, 50, false⟩], supply := { one.supply with avail := 60 } }

theorem test_meets_GrantsTakeTheirOrder_pass :
    (waiting.power.stage = .ready ∧ waiting.power.state = .active) ∧
    waiting.chooseChans ⟨0, none, 2, 0, 50, false⟩ = some (0, none) ∧ 50 ≤ waiting.supply.avail ∧
    waiting.inUse + (none : Option Nat).getD 0 + 50 ≤ waiting.supply.avail ∧
    waiting.supply.avail < waiting.inUse + (some 11).getD 0 + 50 ∧
    (waiting.modChans (fun c => { c with state := .granted })).chooseChans ⟨0, none, 2, 0, 50, false⟩ = none ∧
    (ganged id id).chooseChans ⟨0, some 1, 2, 0, 50, false⟩ = some (0, some 1) ∧
    (waiting.leaveQueue 0).queue = [] ∧ ((waiting.leaveQueue 0).ax 0).motion ≠ .engaging ∧
    one.reachable [0] = true ∧ (one.modChans (fun c => { c with state := .retired })).reachable [0] = false ∧
    (inState .sleep waiting).power.state = .sleep := by decide +kernel

theorem test_meets_RunnerEventsFollowTheRunnerState :
    (one.power.inReset = false ∧ one.run 0 = none) ∧
    ((runs id).run 0 = some (runIn .running (.timing 5)) ∧
      (runIn .running (.timing 5)).moves[0]? = some ⟨.pending, [.timing 5]⟩ ∧ (runIn .running (.timing 5)).timeout = 5 ∧
      (runIn .running (.timing 5)).elapsed < 500 ∧
      500 ≤ ({ runIn .running (.timing 5) with elapsed := 500 } : Run).elapsed) ∧
    ({ runIn .running .closed with timeout := 0 } : Run).timeout = 0 ∧
    (∀ st ∈ [RunState.pausing, .paused, .halting],
      (runs (fun r => { r with state := st, endKind := some .aborted })).run 0 =
        some { runIn .running (.timing 5) with state := st, endKind := some .aborted }) ∧
    (∀ a ∈ (runIn .running (.timing 5)).claim, ((runs id).ax a).motion = .idle) ∧
    ¬ (∀ a ∈ (runIn .running (.timing 5)).claim,
      (((runs id).modAx 0 (fun x => { x with motion := .driving })).ax a).motion = .idle) := by decide +kernel

/-! ### The hypotheses of the clauses on what the commands rest on -/

theorem test_meets_StopRequestsActByMotionState_recorded :
    (let s := oneWith (fun x => { x with motion := .engaging, stop := stopTo .held false })
     (s.ax 0).motion = .engaging ∧ (s.ax 0).stop = some ⟨.held, .coast, 0, false, 0, false, false⟩) ∧
    (let s := stoppingTo .held (fun x => { x with stop := stopTo (.completion .correct) true, noted := some .done })
     (s.ax 0).motion = .stopping ∧ (s.ax 0).stop = some ⟨.completion .correct, .coast, 0, false, 0, false, true⟩ ∧
     (s.ax 0).noted ≠ none) ∧
    ((oneWith (fun x => { x with motion := .checking })).ax 0).motion = .checking := by decide +kernel

theorem test_meets_SetupReplacesTheValues_expired :
    (let s := oneWith (fun x => { x with motion := .blocked, link := some ⟨0, 1, false, 1000⟩ })
     (s.ax 0).motion = .blocked ∧ (s.ax 0).link = some ⟨0, 1, false, 1000⟩ ∧ 1 * 1000 ≤ 1000 ∧
     1 ≠ s.link.setup.blockTimeout) := by decide +kernel

theorem test_meets_PlanReadAnswersEntriesAndSlots_bytes :
    (let e : EntryArgs := ⟨3, 4, 0xFFFF, 0x65, 0xFF, [⟨2, 0, 900⟩]⟩
     entryOf e = some (some ⟨3, .rel (-1), 5, 2, [.whenGe 0 900], none⟩) ∧ e.packed.toNat / 64 = e.gates.length) := by
  decide

theorem test_meets_RunStartsThePlan_activation :
    (runs id).run 0 = some (runIn .running (.timing 5)) ∧ (runs id).members 0 = [0] ∧
    (((runs id).modAx 0 (fun x => { x with ref := .unknown })).ax 0).ref = .unknown ∧
    (((runs id).ax 0).ref ≠ .unknown ∧ (runs id).travel 0 = 1000 ∧ ¬ 1001 ≤ (runs id).travel 0 ∧
      ((runs id).ax 0).config = some record ∧ record.stops[(0 : Fin 4)] = some 100 ∧ record.stops[(1 : Fin 4)] = none ∧
      ((runs id).ax 0).pos = some 500 ∧ (400 : Int) = 500 + (-100)) ∧
    (apart 504 500 ≤ Profile.default.tolerance ∧ ¬ apart 900 500 ≤ Profile.default.tolerance) ∧
    (let s := (jogging .idle (some ⟨true, 0, 100, 600, 1, 0, 100, 5⟩)).modAx 0 (fun x =>
        { x with move := some { toward900 with target := 0, endFlag := true } })
     s.ask 0 (s.wantDirs 0) ≠ none) ∧ one.ask 0 (one.wantDirs 0) = none := by decide +kernel

/-- `runs` with its move in this state. -/
def runsMove (m : MoveState) : State := runs (fun r => { r with moves := [⟨m, [.opened]⟩] })

theorem test_meets_GatesAndMarks_told :
    (runsMove .active).activeOn { runIn .running (.timing 5) with moves := [⟨.active, [.opened]⟩] } 0 = some 0 ∧
    (runs id).activeOn (runIn .running (.timing 5)) 0 = none ∧
    ((runs id).ax 0).owner = .runner 0 ∧ (runs id).run 0 ≠ none ∧ ((runs id).setRun 0 none).run 0 = none ∧
    (one.ax 0).owner = .none ∧ ((owned (jogOp true)).ax 0).owner = .link (jogOp true) := by decide +kernel

theorem test_meets_PauseResumeHaltActOnTheRunner_pass :
    one.nextMove = none ∧ ((runsMove .ready).nextMove.map (fun p => (p.1, p.2.2))) = some (0, 0) ∧
    ((runsMove .active).nextMove.map (fun p => (p.1, p.2.2))) = some (0, 0) ∧
    (∀ st ∈ [MoveState.ready, .active],
      (runsMove st).moveEntry { runIn .running (.timing 5) with moves := [⟨st, [.opened]⟩] } 0 =
        some ⟨0, .abs 900, 0, 2, [], none⟩) ∧
    (runsMove .ready).members 0 = [0] ∧ (runsMove .ready).reevaluateCreep [0] = runsMove .ready ∧
    (let s := (runsMove .active).modAx 0 (fun x => { x with move := some { toward900 with target := 502 } })
     s.standsAtTarget [0] = true) ∧
    (let s := (runsMove .active).modAx 0 (fun x => { x with move := some toward900 })
     s.standsAtTarget [0] = false) := by decide +kernel

theorem test_meets_SoftResetRunsToItsEnd_stops :
    (∀ m ∈ [Motion.stopping, .engaging],
      let s := oneWith (fun x => { x with motion := m, stop := stopTo .held false })
      (s.ax 0).motion = m ∧ (s.ax 0).stop = stopTo .held false) ∧
    (let s := oneWith (fun x => { x with motion := .engaging })
     (s.ax 0).motion = .engaging ∧ (s.ax 0).stop = none) ∧
    (((backingOff .reverse).ax 0).motion = .backoff ∧
      ((backingOff .reverse).ax 0).backoff = some ⟨.reverse, .low, 100, 0, true, false⟩) ∧
    Listens (backingOff .reverse) ∧ (one.ax 0).motion = .idle :=
  ⟨by decide +kernel, by decide +kernel, by decide +kernel, ⟨⟨rfl, rfl, rfl⟩, rfl, .inl rfl⟩, by decide +kernel⟩

/-- Axis 0 belongs to a HOME and is in this motion state, with this stop. -/
def homingIn (m : Motion) (st : Option Stop) : State :=
  (owned ⟨.home, 0, false, .low, none, none⟩).modAx 0 (fun x => { x with motion := m, stop := st, noted := some .done })

theorem test_meets_SilenceAndInhibitStopTheWork_ends :
    one.run 0 = none ∧
    (∀ st ∈ [RunState.running, .pausing, .paused, .halting],
      (runs (fun r => { r with state := st })).run 0 = some { runIn .running (.timing 5) with state := st }) ∧
    (one.ax 0).owner = .none ∧
    ((owned { jogOp true with result := some (.released, none) }).ax 0).owner =
      .link { jogOp true with result := some (.released, none) } ∧
    ((homingIn .checking none).ax 0).motion = .checking ∧ ((homingIn .checking none).members 0) = [0] ∧
    (∀ m ∈ [Motion.driving, .engaging, .queued, .blocked, .idle, .fault, .backoff],
      ((homingIn m none).ax 0).owner = .link ⟨.home, 0, false, .low, none, none⟩ ∧ ((homingIn m none).ax 0).motion = m ∧
      ((homingIn m none).ax 0).stop = none ∧ (homingIn m none).partner 0 = none) ∧
    (∀ d ∈ [Dest.completion .correct, .blocked 0 1, .fault],
      ((homingIn .stopping (stopTo d false)).ax 0).stop = stopTo d false ∧ d ≠ .checkDone) := by decide +kernel

/-- The HOME whose stall is past and whose standstill is not ends INHIBITED, toward IDLE (log 31). -/
theorem test_inhibit_ends_a_home_after_its_stall :
    gives (.inhibitChange true) (homingIn .stopping (stopTo (.completion .correct) false)) (fun t =>
      (t.ax 0).stop.map Stop.dest = some (.idle false) ∧
      (t.ax 0).owner = .link ⟨.home, 0, false, .low, none, some (.inhibited, none)⟩) = true := by decide +kernel

theorem test_meets_DriveMarksAndCheckPulses_ends :
    (let s := owned { jogOp true with result := some (.released, none) }
     (s.ax 0).owner = .link { jogOp true with result := some (.released, none) } ∧ (s.ax 0).motion = .idle ∧
     s.members 0 = [0] ∧ ({ jogOp true with result := some (.released, none) } : LinkOp).named = 0) ∧
    ((owned (jogOp true)).ax 0).owner = .link (jogOp true) ∧ (jogOp true).result = none ∧ (one.ax 0).owner = .none ∧
    one.link.reports.length < 16 ∧
    16 ≤ (withLink (fun l => { l with reports := List.replicate 16 (.positions []) }) one).link.reports.length := by
  decide +kernel

theorem test_meets_FaultsAreRecordedAndStopTheAxis_told :
    ((owned (jogOp true)).ax 0).fault = none ∧ ((owned (jogOp true)).ax 0).owner = .link (jogOp true) ∧
    (0 : AxisNo) ∈ (owned (jogOp true)).members 0 ∧
    (∀ st ∈ [RunState.running, .pausing, .paused, .halting],
      let s := runs (fun r => { r with state := st })
      (s.ax 0).fault = none ∧ (s.ax 0).owner = .runner 0 ∧
      s.run 0 = some { runIn .running (.timing 5) with state := st }) ∧
    ((backingOff .reverse).ax 0).fault ≠ none ∧ (one.ax 0).owner = .none := by decide +kernel

theorem test_meets_HeatTickHeatsAndCools_ramp : (driving.ax 0).config = some record := by decide +kernel

theorem test_meets_RelaysSettle_ends :
    (let s := oneWith (fun x => { x with motion := .stopping, move := some { toward900 with target := 502 } })
     s.standsAtTarget [0] = true) ∧
    ((oneWith (fun x => { x with motion := .stopping, move := some toward900 })).standsAtTarget [0] = false) ∧
    (let s := (jogging .stopping (some ⟨true, 0, 100, 600, 1, 0, 100, 5⟩)).modAx 0 (fun x =>
        { x with move := some { toward900 with target := 0, endFlag := true } })
     s.anyBlocked [0] = true ∧ s.standsAtTarget [0] = false) ∧
    one.anyBlocked [0] = false ∧ one.chanOf 0 = none ∧ driving.chanOf 0 = some 0 ∧ (driving.ch 0).state ≠ .tripped ∧
    ((driving.setCh 0 ⟨.tripped, none, some 0, 1, some 1000, false⟩).chanOf 0 = some 0) := by decide +kernel

/-! ### Gangs, joint backoffs and NO_CHANNEL -/

/-- A gang whose axis 0 comes to rest 10 short of 900 while axis 1 waits at its outcome 2 short of it, in the region of this
entry. -/
def gangCorrecting (e : Option KeepoutEntry) (w : Axis → Axis) : State :=
  let s := ganged
    (fun x => { x with motion := .stopping, stop := stopTo (.completion .correct) false, move := some toward900, pos := some 890 })
    (fun x => w { x with motion := .stopping, stop := stopTo (.completion .correct) true, move := some toward900,
                         noted := some .done, pos := some 898 })
  { s with entries := s.entries.set 0 e }

/-- An entry in conflict in which axis 1 alone goes deeper, toward HIGH. -/
def beyondPartner : KeepoutEntry := ⟨true, 1, 880, 1000, 2, 0, 100, 5⟩

theorem test_meets_StandstillReachesTheDestination_decided :
    (let s := gangCorrecting none id
     s.power.inReset = false ∧ s.partner 0 = some 1 ∧ (s.ax 0).motion = .stopping ∧
     (s.ax 0).stop = stopTo (.completion .correct) false ∧ (s.ax 0).noted = none ∧ (s.ax 0).move = some toward900 ∧
     (s.ax 0).pos = some 890 ∧ toward900.profile.tolerance < apart 900 890 ∧ toward900.corrections < 2 ∧
     s.ask 0 [.high] = none ∧ s.ask 1 (s.nowDirs 1) = none ∧ (s.ax 1).motion = .stopping ∧
     (s.ax 1).stop = stopTo (.completion .correct) true ∧ (s.ax 1).noted = some .done) ∧
    (let s := gangCorrecting (some beyondPartner) id
     s.ask 0 [.high] = none ∧ s.ask 1 (s.nowDirs 1) = some (0, 2)) ∧
    (apart 900 896 ≤ toward900.profile.tolerance ∧ toward900.profile.tolerance < apart 900 895 ∧
      2 ≤ ({ toward900 with corrections := 2 } : MoveRec).corrections) := by decide +kernel

/-- A correction of a gang axis does not begin while its partner is held back by a keep-out entry: both go to BLOCKED, and the
axis that nothing blocks of itself copies its partner's link (R75, R123). -/
theorem test_partner_blocks_correction :
    gives (.standstill 0) (gangCorrecting (some beyondPartner) id)
      (fun t => (t.ax 0).motion = .blocked ∧ (t.ax 1).motion = .blocked ∧ (t.ax 0).link = some ⟨0, 2, true, 0⟩ ∧
        (t.ax 1).link = some ⟨0, 2, false, 0⟩ ∧ (t.ax 0).move = some { toward900 with corrections := 0 }) = true := by
  decide +kernel

theorem test_gang_correction_begins :
    gives (.standstill 0) (gangCorrecting none id)
      (fun t => (t.ax 0).phase = some .correct ∧ (t.ax 1).noted = some .done) = true := by decide +kernel

/-- Both axes of a gang in this step of a joint backoff of axis 0, axis 1 at rest or not. -/
def jointBackoff (k : BackoffStep) (rest : Bool) (e : Option KeepoutEntry) : State :=
  let s := ganged
    (fun x => { x with motion := .backoff, driveDir := .low, backoff := some ⟨k, .low, 100, 0, true, false⟩,
                       fault := some ⟨.obstruction, .current, some 500, .none, none, false⟩ })
    (fun x => { x with motion := .backoff, driveDir := .low, backoff := some ⟨k, .low, 100, 0, false, rest⟩ })
  { s with entries := s.entries.set 0 e }

theorem test_meets_StandstillReachesTheDestination_backoff :
    (∀ k ∈ [BackoffStep.brake, .finish], ∀ r ∈ [true, false],
      let s := jointBackoff k r none
      s.power.inReset = false ∧ s.partner 0 = some 1 ∧ (s.ax 0).motion = .backoff ∧
      (s.ax 0).backoff = some ⟨k, .low, 100, 0, true, false⟩ ∧ (s.ax 1).motion = .backoff ∧
      (s.ax 1).backoff = some ⟨k, .low, 100, 0, false, r⟩ ∧ s.ask 0 [.low] = none ∧ s.ask 1 [.low] = none) ∧
    (let s := jointBackoff .brake true (some ⟨true, 1, 0, 600, 2, 0, 100, 5⟩)
     s.ask 1 [.low] = some (0, 2)) := by decide +kernel

/-- REVERSE begins on both axes at the second standstill, and FINISH ends with the faulted axis in FAULT and its partner in IDLE
(R77). -/
theorem test_joint_backoff :
    gives (.standstill 0) (jointBackoff .brake true none)
      (fun t => (t.ax 0).reversing ∧ (t.ax 1).reversing ∧ (t.ax 1).blanking = true) = true ∧
    gives (.standstill 0) (jointBackoff .finish true none)
      (fun t => (t.ax 0).motion = .fault ∧ (t.ax 0).fault.map FaultRec.backoff = some .done ∧ (t.ax 1).motion = .idle)
      = true := by decide +kernel

theorem test_meets_StallIsClassified_gang :
    driving.partner 0 = none ∧ (jointBackoff .reverse false none).partner 0 = some 1 ∧
    (jointBackoff .reverse false none).partner 0 ≠ some 0 ∧
    ((jointBackoff .reverse false none).ax 1).backoff = some ⟨.reverse, .low, 100, 0, false, false⟩ ∧
    (let s := jointBackoff .reverse false none
     (s.ax 1).pos = some 500 ∧ apart 500 500 ≤ s.skewLimit 0 1 ∧ ¬ apart 0 500 ≤ s.skewLimit 0 1) ∧
    ((driving.modAx 0 (fun x => { x with ref := .suspect, pos := some 960 })).ax 0).ref ≠ .valid := by decide +kernel

/-- A gang in BLOCKED by this entry, with these links. -/
def gangBlocked (e : Option KeepoutEntry) (l m : BlockLink) : State :=
  let s := ganged (fun x => { x with motion := .blocked, move := some toward900, link := some l })
    (fun x => { x with motion := .blocked, move := some toward900, link := some m })
  { s with entries := s.entries.set 0 e }

theorem test_meets_ObstructionAndBlockTimeoutRaiseFaults_gang :
    (let s := gangBlocked none ⟨0, 2, true, 70⟩ ⟨0, 2, false, 70⟩
     s.ask 0 (s.wantDirs 0) = none ∧ s.ask 1 (s.wantDirs 1) = none ∧ s.members 0 = [0, 1] ∧ (s.ax 0).motion = .blocked ∧
     (s.ax 0).link = some ⟨0, 2, true, 70⟩ ∧ (s.ax 1).link = some ⟨0, 2, false, 70⟩ ∧ (s.ax 0).move = some toward900 ∧
     (s.ax 1).move = some toward900) ∧
    (let s := gangBlocked (some ⟨true, 1, 480, 1000, 2, 0, 100, 5⟩) ⟨3, 4, true, 70⟩ ⟨0, 2, false, 70⟩
     s.ask 0 (s.wantDirs 0) = none ∧ s.ask 1 (s.wantDirs 1) = some (0, 2)) ∧
    ((one.ax 0).move = none ∧ (one.ax 1).move = none) := by decide +kernel

/-- A gang unblocks as one: both CLEAR reports, and one request (R75, R127). -/
theorem test_gang_unblocks :
    ((gangBlocked none ⟨0, 2, true, 70⟩ ⟨0, 2, false, 70⟩).reevaluate 1).link.reports =
      [.blocked .clear 0 0 2 true (some 500) none .none, .blocked .clear 1 0 2 false (some 500) none .none] := by
  decide +kernel

theorem test_meets_GrantsTakeTheirOrder_gang :
    (ganged id id).reachable [0, 1] = true ∧
    ((ganged id id).modChans (fun c => { c with state := .retired })).reachable [0, 1] = false ∧
    (let s := one.setCh 2 ⟨.retired, none, none, 3, none, false⟩
     (s.ch 2).state = .retired ∧ ((s.ax 0).config.map AxisConfig.reach) = some 15 ∧ (s.ch 0).state ≠ .retired) ∧
    one.retiredIn [0] = [] ∧ (one.setCh 2 ⟨.retired, none, none, 3, none, false⟩).retiredIn [0] = [2] ∧
    2 ≤ ((one.modChans (fun c => { c with state := .retired })).retiredIn [0]).length := by decide +kernel

theorem test_meets_TripsAndRetirement_gang :
    (ganged id id).partner 0 = some 1 ∧ ((ganged id id).ax 0).owner = .none := by decide +kernel

/-- NO_CHANNEL of a gang is raised on both axes, with no partner stop (R76, R96). -/
theorem test_noChannel_of_gang :
    (let s := ganged (fun x => { x with motion := .queued }) (fun x => { x with motion := .queued })
     let t := s.raiseNoChannel [0, 1] 3
     (t.ax 0).motion = .fault ∧ (t.ax 1).motion = .fault ∧ (t.ax 1).fault.map FaultRec.kind = some .noChannel ∧
     (t.ax 1).fault.map FaultRec.cause = some (.channel 3)) := by decide +kernel

/-- A soft reset after the pulses of a winding test is a quick stop toward IDLE (R69). -/
theorem test_reset_after_the_pulses :
    gives (.reset 1) (oneWith (fun x => { x with motion := .stopping, check := some ⟨0, none, 300, 300⟩,
                                                 stop := stopTo .checkDone false }))
      (fun t => (t.ax 0).motion = .stopping ∧ (t.ax 0).stop = some ⟨.idle false, .quick, 0, false, 0, false, false⟩) = true := by
  decide +kernel

theorem test_meets_SoftResetRunsToItsEnd_tested :
    (∀ d ∈ [Dest.fault, .checkDone, .held],
      let s := oneWith (fun x => { x with motion := .stopping, stop := stopTo d false })
      (s.ax 0).motion = .stopping ∧ (s.ax 0).stop = stopTo d false) := by decide +kernel

/-! ### The clauses on what an event leaves of the rest -/

/-- An UNKNOWN axis may hold more lash than its present record has: a change of travel kept it (R3). -/
theorem test_meets_PositionsStayLawful_unknown :
    PositionLaw { Axis.reset with config := some record, lashRem := 40 } ∧ ¬ 40 ≤ record.lash :=
  ⟨⟨by simp [Axis.reset], fun _ => rfl, by decide, fun c e => by
      cases e
      exact ⟨by decide, .inr rfl⟩, fun _ _ _ e => by cases e⟩, by decide⟩

theorem test_meets_JogBegins_badArg :
    (2 ≤ (2 : Byte).toNat ∧ 2 ≤ (255 : Byte).toNat ∧ 2000 < (2001 : Half).toNat) ∧
    gives (.jog 1 0 1 0 2001) one (fun t => t.link.tx = some ⟨(Reply.mk 0x93 1 .badArg []).frame.bytes, false⟩) = true ∧
    gives (.jog 1 0 2 1 0) State.reset (fun t => t = State.reset) = true := by decide +kernel

theorem test_meets_StopRequestsActByMotionState_waiting :
    (∀ d ∈ [Dest.completion .correct, .idle true, .held],
      let s := stoppingTo d (fun x => { x with stop := stopTo d true, noted := some .done })
      (s.ax 0).motion = .stopping ∧ (s.ax 0).stop = stopTo d true ∧ (s.ax 0).noted.isSome = true) ∧
    (∀ m ∈ [Motion.queued, .blocked, .idle], ((oneWith (fun x => { x with motion := m })).ax 0).motion = m) := by decide +kernel

/-- A pause that reaches an axis waiting at its noted outcome leaves the outcome noted; a revocation discards it (R79). -/
theorem test_waiting_axis_stops :
    (let s := stoppingTo (.completion .correct) (fun x => { x with stop := stopTo (.completion .correct) true, noted := some .done })
     let after (r : StopReq) := (((s.stopAxis 0 r).ax 0).stop.map Stop.dest, ((s.stopAxis 0 r).ax 0).noted)
     after .pause = (some (.idle true), some .done) ∧ after .revoke = (some .held, none)) := by decide +kernel

theorem test_meets_DeeperFollowsTheTable_backoff : ((backingOff .reverse).ax 0).motion = .backoff := by decide +kernel

/-- A part in RESETTING with nothing moving, a channel at its third trip and a share request. -/
def resetting (trips : Nat) : State :=
  sharing .yielded ((inState .resetting one).setCh 2 ⟨.tripped, none, none, trips, some 400, false⟩)

/-- The completion of a soft reset retires the channel at its third trip, and frees one at its second; the handshake follows the
line (R98, R115). -/
theorem test_reset_completes :
    gives .resettingComplete (resetting 3) (fun t => t.ch 2 = ⟨.retired, none, none, 3, none, false⟩ ∧
      t.supply.handshake = .yielded ∧ t.supply.shareAck = true ∧ t.supply.avail = 0) = true ∧
    gives .resettingComplete (resetting 2) (fun t => t.ch 2 = ⟨.free, none, none, 2, none, false⟩) = true := by decide +kernel

theorem test_meets_PowerTakesThePartToSleep_channels :
    ((resetting 3).ch 2).state = .tripped ∧ 3 ≤ ((resetting 3).ch 2).trips ∧ ((resetting 2).ch 2).trips < 3 ∧
    ((retired.ch 3).state = .retired) ∧ (one.ch 0).state ≠ .retired ∧ (one.ch 0).state ≠ .tripped := by decide +kernel

/-- The reports of the end of an unwatched sleep: WAKE, which goes out, SUPPLY, REFERENCE and the HAND_MOVED of an episode that has
rested (R200). -/
theorem test_wake_reports :
    gives .wakeTimeEnd ((asleep ⟨false, false, false⟩ (some .link)).modAx 0 (fun x => { x with episode := some ⟨3, true⟩ }))
      (fun t => t.link.reports.length = 3 ∧ t.link.reports[1]? = some (.reference 0 .valid .suspect .wake (some 500)) ∧
        t.link.reports[2]? = some (.handMoved 0 3 (some 500) .suspect) ∧ (t.ax 0).episode = none) = true := by decide +kernel

theorem test_meets_FaultsAreRecordedAndStopTheAxis_joint :
    (∀ k ∈ [BackoffStep.brake, .reverse, .finish], ∀ r ∈ [true, false],
      let s := jointBackoff k r none
      s.partner 0 = some 1 ∧ s.partner 0 ≠ some 0 ∧ (s.ax 0).motion = .backoff ∧ (1 : AxisNo) ∈ s.members 0 ∧
      (s.ax 0).backoff = some ⟨k, .low, 100, 0, true, false⟩ ∧ (s.ax 1).motion = .backoff ∧
      (s.ax 1).backoff = some ⟨k, .low, 100, 0, false, r⟩ ∧ (s.ax 0).fault ≠ none ∧ (s.ax 1).fault = none) ∧
    (2 : AxisNo) ∉ (jointBackoff .brake true none).members 0 := by decide +kernel

/-- SHORT on the axis of a joint backoff that rests: it waits at its destination, and the standstill of the other axis alone ends
the stop of both, the tripped one in FAULT SHORT and the faulted one in FAULT with its backoff CUT_SHORT (R39, R72, R78). -/
theorem test_short_on_a_resting_axis :
    (let s := (jointBackoff .brake true none).setCh 1 ⟨.granted, none, some 1, 0, none, false⟩
     gives (.shortTrip 1) s (fun t => (t.ax 1).stop = some ⟨.fault, .coast, 0, false, 0, false, true⟩ ∧
       (t.ax 0).stop = some ⟨.fault, .quick, 0, false, 0, false, false⟩ ∧
       gives (.standstill 0) t (fun u => (u.ax 0).motion = .fault ∧ (u.ax 1).motion = .fault ∧
         (u.ax 0).fault.map FaultRec.backoff = some .cutShort ∧ (u.ax 1).fault.map FaultRec.kind = some .short)) = true) := by
  decide +kernel

/-- A second obstruction in REVERSE of the partner of a faulted axis is a first fault, with the outcome CUT_SHORT (R78). -/
theorem test_partner_obstructed :
    gives (.obstructionCurrent 1) (jointBackoff .reverse false none)
      (fun t => (t.ax 1).fault = some ⟨.obstruction, .current, some 500, .cutShort, none, false⟩ ∧
        (t.ax 0).fault.map FaultRec.backoff = some .cutShort ∧ (t.ax 0).motion = .stopping) = true := by decide +kernel

theorem test_meets_StandstillReachesTheDestination_single :
    (let s : State := { backingOff .brake with entries := (two (some ⟨true, 0, 0, 600, 2, 0, 100, 5⟩)).entries }
     (s.ax 0).backoff = some ⟨.brake, .low, 100, 0, true, false⟩ ∧ s.partner 0 = none ∧ s.ask 0 [.low] = some (0, 2) ∧
     (s.ax 0).fault = some ⟨.obstruction, .current, some 500, .none, none, false⟩ ∧
     gives (.standstill 0) s (fun t => (t.ax 0).motion = .fault ∧ (t.ax 0).move = none ∧ (t.ch 0).state = .settling ∧
       (t.ax 0).fault = some ⟨.obstruction, .current, some 500, .cutShort, none, false⟩) = true) ∧
    (let x := ((backingOff .finish).modAx 0 (fun x => { x with backoff := some ⟨.finish, .low, 100, 0, false, false⟩ })).ax 0
     x.backoff = some ⟨.finish, .low, 100, 0, false, false⟩) ∧
    (((backingOff .brake).modAx 0 (fun x => { x with fault := none })).ax 0).fault = none := by decide +kernel

/-- The grant of a request closes the open episode of its axis with a HAND_MOVED report (R18, R34). -/
theorem test_grant_closes_the_episode :
    (let s := waiting.modAx 0 (fun x => { x with episode := some ⟨-2, false⟩ })
     let t := s.grant ⟨0, none, 2, 0, 50, false⟩ 0 none
     (t.ax 0).episode = none ∧ t.link.reports = [.handMoved 0 (-2) (some 500) .valid]) := by decide +kernel

/-- A gang needs two different channels that are not RETIRED (R88). -/
theorem test_reachable :
    (let s (n : BitVec 4) := (ganged id id).modAx 1 (fun x => { x with config := x.config.map (fun c => { c with reach := n }) })
     (s 1).reachable [0, 1] = true ∧ ((s 1).setCh 0 ⟨.retired, none, none, 3, none, false⟩).reachable [0, 1] = false ∧
     (s 0).reachable [1] = false) := by decide +kernel

theorem test_meets_RelaysSettle_notDue :
    (∀ c ∈ [none, some false], ((one.setCh 0 ⟨.settling, c, some 0, 0, none, false⟩).ch 0).closing ≠ some true) ∧
    ((one.setCh 0 ⟨.settling, some true, none, 0, none, false⟩).ch 0).axis = none ∧
    ((one.setCh 0 ⟨.tripped, none, some 0, 1, some 500, false⟩).ch 0).opening = false := by decide +kernel

theorem test_meets_TripsAndRetirement_test :
    (let s := (oneWith (fun x => { x with motion := .stopping, stop := stopTo .checkDone false })).setCh 0
        ⟨.granted, none, some 0, 0, none, false⟩
     (s.ch 0).axis = some 0 ∧ (s.ax 0).motion = .stopping ∧ (s.ax 0).stop = stopTo .checkDone false) ∧
    ((one.setCh 0 ⟨.granted, none, none, 0, none, false⟩).ch 0).axis = none := by decide +kernel

theorem test_meets_RunnerEventsFollowTheRunnerState_ends :
    (∀ k ∈ [some EndKind.reset, none],
      (runs (fun r => { r with state := .halting, endKind := k })).run 0 =
        some { runIn .running (.timing 5) with state := .halting, endKind := k }) ∧
    (runsMove .ready).run 0 = some { runIn .running (.timing 5) with moves := [⟨.ready, [.opened]⟩] } ∧
    gives (.haltingEnd 0) (runs (fun r => { r with state := .pausing })) (fun t => (t.run 0).map Run.state = some .paused) =
      true := by decide +kernel

/-! ### The clauses on the operations that other clauses name -/

theorem test_meets_RequestsWaitTheirTurn_taken :
    (Instr.setup 1 0 100 60 0).wellFormed = true ∧ (Instr.setup 1 0 100 60 0).frame? = some ⟨0x03, 1, [0, 0, 0, 100, 60, 0, 0]⟩ ∧
    (one.power.inReset = false ∧ one.power.state.runs = true) ∧ Takes one := ⟨rfl, rfl, ⟨rfl, rfl⟩, rfl, rfl, rfl⟩

/-- Under the entry of `nearing`, axis 0 waits in QUEUED, single or as a gang with axis 2. -/
def nearingQueued (partner : Option AxisNo) : State :=
  ((nearing .queued).modAx 0 (fun x => { x with check := none, backoff := none, config := some { record with partner := partner } })).modAx 2
    (fun x => { x with config := some { record with partner := some 0 }, ref := .valid, pos := some 450, motion := .queued,
                       move := some toward900 })

theorem test_meets_DeeperFollowsTheTable_walk :
    (∀ p ∈ [none, some (2 : AxisNo)],
      let s := nearingQueued p
      (s.ax 0).motion = .queued ∧ s.entries[(0 : EntryNo)] = some ⟨true, 0, 400, 600, 1, 0, 1000, 5⟩ ∧
      s.conflict ⟨true, 0, 400, 600, 1, 0, 1000, 5⟩ = true ∧
      s.deeperIn ⟨true, 0, 400, 600, 1, 0, 1000, 5⟩ 0 (s.nowDirs 0) = true ∧ s.partner 0 = p ∧
      (s.ax 0).check = none ∧ (s.ax 0).move = some toward900) ∧
    (State.reset.ax 0).config = none ∧ (one.ax 0).config = some record := by decide +kernel

/-- A position change of the other axis of the entry blocks a QUEUED gang as a whole: the axis that the entry names takes a link
of its own, its partner a copy (R75, R124, R125). -/
theorem test_queued_gang_is_blocked :
    (let t := (nearingQueued (some 2)).blocks 1
     (t.ax 0).motion = .blocked ∧ (t.ax 2).motion = .blocked ∧ (t.ax 0).link = some ⟨0, 1, false, 0⟩ ∧
     (t.ax 2).link = some ⟨0, 1, true, 0⟩) := by decide +kernel

theorem test_meets_GatesAndMarks_runners :
    (runs id).run 0 = some (runIn .running (.timing 5)) ∧ (runs id).run 1 = none ∧
    (5 : Fin 64).val = ((runs id).slots[(0 : SlotNo)]).start + 5 := by decide +kernel

/-- A set mark opens the gate of a run of runner 2. -/
theorem test_mark_reaches_every_runner :
    (let s := { planned with places := one.places.set 0 (some ⟨0, .abs 900, 0, 2, [.mark 3], none⟩) }
     let t := (s.setRun 2 (some (runIn .running .closed))).setMark 3
     (t.run 2).map Run.moves = some [⟨.ready, [.opened]⟩]) := by decide +kernel

theorem test_meets_StandstillReachesTheDestination_rested :
    (∀ d ∈ [Dest.fault, .idle true, .idle false, .held, .completion .correct],
      ((stoppingTo d id).ax 0).stop.map Stop.dest = some d) ∧ (one.ax 0).stop = none := by decide +kernel

/-- At the joint end of a gang's stop, the axis bound for FAULT stands in FAULT without its record, and one bound for IDLE by a
pause in IDLE with it (R39, R63, R76). -/
theorem test_gang_rests :
    (((stoppingTo .fault id).ax 0).rested.motion = .fault ∧ ((stoppingTo .fault id).ax 0).rested.move = none) ∧
    (((stoppingTo (.idle true) id).ax 0).rested.motion = .idle ∧ ((stoppingTo (.idle true) id).ax 0).rested.move = some toward900) ∧
    ((stoppingTo (.idle false) id).ax 0).rested.move = none := by decide +kernel

theorem test_meets_HeatTickHeatsAndCools_duty :
    ((driving.ax 0).motion = .driving ∧ (driving.ax 0).move = some toward900 ∧ (driving.ax 0).phase = some .cruise ∧
      (driving.ax 0).config = some record) ∧
    (∀ k ∈ [BackoffStep.brake, .reverse, .finish],
      let x := (backingOff k).ax 0
      x.motion = .backoff ∧ x.backoff = some ⟨k, .low, 100, 0, true, false⟩ ∧ x.move = some toward900 ∧ x.phase = none ∧
      x.config = some record) ∧
    (((pulsing .low).ax 0).motion = .checking ∧ ((pulsing .low).ax 0).check = some ⟨0, some .low, 0, 0⟩) ∧
    (let x := (oneWith (fun x => { x with motion := .checking, check := some ⟨0, none, 0, 0⟩ })).ax 0
     x.motion = .checking ∧ x.check = some ⟨0, none, 0, 0⟩) ∧
    (∀ r ∈ [true, false],
      let x := (stoppingTo .held (fun x => { x with stop := some ⟨.held, .controlled, 80, r, 3, false, false⟩ })).ax 0
      x.motion = .stopping ∧ x.stop = some ⟨.held, .controlled, 80, r, 3, false, false⟩) ∧
    (let x := (oneWith (fun x => { x with motion := .stopping })).ax 0
     x.motion = .stopping ∧ x.stop = none) ∧
    (∀ m ∈ [Motion.idle, .queued, .engaging, .blocked, .fault], ((oneWith (fun x => { x with motion := m })).ax 0).motion = m) ∧
    (∀ n ∈ [0, 1], { Axis.reset with dutyLo := n, dutyHi := n }.dutyHi = n) ∧ (State.reset.ax 0).config = none := by
  decide +kernel

/-- A pulse applies 25 %, and a controlled stop from 80 % applies 56 % after 30 ms and nothing after 100 ms (R40, R67). -/
theorem test_duty_now :
    (pulsing .high).dutyNow 0 = 25 ∧
    (∀ p ∈ [(0, 80), (3, 56), (9, 8), (10, 0)],
      (stoppingTo .held (fun x => { x with stop := some ⟨.held, .controlled, 80, true, p.1, false, false⟩ })).dutyNow 0 = p.2) := by
  decide +kernel

theorem test_meets_RunnerEventsFollowTheRunnerState_rests :
    (∀ st ∈ [RunState.running, .pausing, .paused, .halting], ∀ k ∈ [some EndKind.aborted, none],
      let s := runs (fun r => { r with state := st, endKind := k })
      s.run 0 = some { runIn .running (.timing 5) with state := st, endKind := k } ∧ (s.ax 0).motion = .idle) ∧
    ((runs id).modAx 0 (fun x => { x with motion := .driving })).run 0 = some (runIn .running (.timing 5)) ∧
    (((runs id).modAx 0 (fun x => { x with motion := .driving })).ax 0).motion = .driving ∧ (runs id).run 2 = none := by
  decide +kernel

theorem test_meets_ShareHandshakeFollowsTheRequest_due :
    ((sharing .draining one).supply.handshake = .draining ∧ (sharing .draining one).power.state.runs = true ∧
      ∀ a, ((sharing .draining one).ax a).motion.moving = false) ∧
    ((sharing .draining driving).ax 0).motion.moving = true := by decide +kernel

theorem test_meets_CalmSettleIsTheClocks_duties :
    (let s := ganged (fun x => { x with motion := .driving, move := some toward900 }) id
     (0 : AxisNo) ∈ s.members 1 ∧ (s.ax 0).homing = false ∧ (s.ax 0).check = none ∧ (s.ax 0).motion = .driving) ∧
    (∀ b ∈ one.members 0, (one.ax b).motion = .idle) ∧
    (one.link.tx = none ∧ one.link.slot = none ∧ one.link.reports = []) ∧
    (State.reset.link.tx = none ∧ State.reset.power.state.runs = false) := by decide +kernel

/-- An IDENT with one byte of payload, an AXIS_GET with three and a PLAN_WRITE one byte short are answered BAD_LENGTH (R179). -/
theorem test_bad_lengths :
    decodePayload 0x01 7 [0] = none ∧ decodePayload 0x11 7 [0, 1, 2] = none ∧
    decodePayload 0x28 7 [0, 1, 0, 0, 3, 0x84, 0] = none := by decide

end Sys2Proof.Tests
end

/-! ### Operand ranges -/

namespace Sys2Proof.Laws

open Sys2Proof.Machine

theorem inRange_eq_some {lo hi n k : Nat} : inRange lo hi n = some k ↔ (lo ≤ n ∧ n ≤ hi) ∧ k = n := by
  unfold inRange
  split
  · next h => simp [h, eq_comm]
  · next h => simp [h]

theorem finOf_eq_some {k : Nat} {b : Byte} {i : Fin k} : finOf k b = some i ↔ b.toNat = i.val := by
  unfold finOf
  split
  · simp [Fin.ext_iff]
  · next h => exact ⟨fun e => by simp at e, fun e => absurd (e ▸ i.isLt) h⟩

theorem finOf_eq_none {k : Nat} {b : Byte} : finOf k b = none ↔ k ≤ b.toNat := by
  unfold finOf
  split
  · next h => simp [h]
  · next h => simpa using h

/-- A byte is the value of a numeral exactly where its number is. -/
theorem byte_eq_iff (b : Byte) (n : Nat) (h : n < 256) : b = BitVec.ofNat 8 n ↔ b.toNat = n := by
  rw [← BitVec.toNat_inj]
  simp [Nat.mod_eq_of_lt h]

theorem dirOf_eq_some {b : Byte} {d : Dir} : dirOf b = some d ↔ b.toNat ≤ 1 ∧ d = if b = 1 then .high else .low := by
  unfold dirOf
  have h0 := byte_eq_iff b 0 (by decide)
  have h1 := byte_eq_iff b 1 (by decide)
  split
  · next e =>
    subst e
    simp [eq_comm]
  · split
    · next e =>
      subst e
      simp [eq_comm]
    · simp_all
      omega

theorem flagOf_eq_some {b : Byte} {f : Bool} : flagOf b = some f ↔ b.toNat ≤ 1 ∧ f = decide (b = 1) := by
  unfold flagOf
  have h0 := byte_eq_iff b 0 (by decide)
  have h1 := byte_eq_iff b 1 (by decide)
  split
  · next e =>
    subst e
    simp [eq_comm]
  · split
    · next e =>
      subst e
      simp [eq_comm]
    · simp_all
      omega

theorem stopOf_eq_some {travel : Nat} {h : Half} {p : Option Nat} : stopOf travel h = some p ↔
    (h = 0xFFFF ∨ h.toNat ≤ travel) ∧ p = if h = 0xFFFF then none else some h.toNat := by
  unfold stopOf
  split
  · next e => simp [e, eq_comm]
  · next e => 
    simp only [Option.map_eq_some_iff, inRange_eq_some, e, false_or]
    constructor
    · rintro ⟨k, ⟨⟨-, h⟩, rfl⟩, rfl⟩
      exact ⟨h, rfl⟩
    · rintro ⟨h, rfl⟩
      exact ⟨_, ⟨⟨Nat.zero_le _, h⟩, rfl⟩, rfl⟩

theorem reachOf_eq_some {b : Byte} {r : BitVec 4} :
    reachOf b = some r ↔ (1 ≤ b.toNat ∧ b.toNat ≤ 15) ∧ r = BitVec.ofNat 4 b.toNat := by
  have e : b.extractLsb' 0 4 = BitVec.ofNat 4 b.toNat := by
    apply BitVec.eq_of_toNat_eq
    simp
  have h0 := byte_eq_iff b 0 (by decide)
  unfold reachOf
  rw [e]
  split
  · next h =>
    simp only [reduceCtorEq, false_iff]
    rintro ⟨⟨lo, hi⟩, -⟩
    rcases h with h | h
    · have := h0.mp h
      omega
    · omega
  · next h =>
    simp only [not_or] at h
    have lo : b.toNat ≠ 0 := fun k => h.1 (h0.mpr k)
    have range : 1 ≤ b.toNat ∧ b.toNat ≤ 15 := by omega
    simp [range, eq_comm]

theorem partnerOf_eq_some {a : AxisNo} {b : Byte} {p : Option AxisNo} : partnerOf a b = some p ↔
    (b = 0xFF ∨ (b.toNat ≤ 11 ∧ b.toNat ≠ a.val)) ∧ p = if b = 0xFF then none else some (Fin.ofNat 12 b.toNat) := by
  unfold partnerOf
  split
  · next e => simp [e, eq_comm]
  · next e =>
    simp only [e, false_or]
    split
    · next q hq =>
      rw [finOf_eq_some] at hq
      have hv : Fin.ofNat 12 b.toNat = q := by
        ext
        simp [hq]
      have lt := q.isLt
      rw [hv]
      split
      · next eq => simp [eq, hq]
      · next ne =>
        have : b.toNat ≠ a.val := fun k => ne (Fin.ext (hq ▸ k))
        have : b.toNat ≤ 11 := by omega
        simp_all [eq_comm]
    · next hq =>
      rw [finOf_eq_none] at hq
      simp only [reduceCtorEq, false_iff]
      omega

theorem pinchOf_eq_some {travel : Nat} {r : AxisArgs} {z : Option Pinch} : pinchOf travel r = some z ↔
    (r.pinchPresent = 0 ∨ (r.pinchPresent = 1 ∧ r.pinchLo.toNat ≤ r.pinchHi.toNat ∧ r.pinchHi.toNat ≤ travel ∧
      r.pinchDir.toNat ≤ 1 ∧ r.backoff.toNat ≤ 400)) ∧
    z = if r.pinchPresent = 1 then some ⟨r.pinchLo.toNat, r.pinchHi.toNat,
      if r.pinchDir = 1 then .high else .low, r.backoff.toNat⟩ else none := by
  unfold pinchOf flagOf
  by_cases absent : r.pinchPresent = 0
  · simp [absent, eq_comm]
  · by_cases present : r.pinchPresent = 1
    · simp only [present, if_false, if_true, BitVec.reduceEq, false_or, true_and]
      constructor
      · intro h
        split at h
        · next lo hi d n hlo hhi hd hn =>
          rw [inRange_eq_some] at hlo hhi hn
          rw [dirOf_eq_some] at hd
          obtain ⟨-, rfl⟩ := hlo
          obtain ⟨⟨-, top⟩, rfl⟩ := hhi
          obtain ⟨dir, rfl⟩ := hd
          obtain ⟨⟨-, far⟩, rfl⟩ := hn
          split at h
          · next le =>
            cases h
            exact ⟨⟨le, top, dir, far⟩, rfl⟩
          · cases h
        · cases h
      · rintro ⟨⟨le, top, dir, far⟩, rfl⟩
        have hlo : inRange 0 travel r.pinchLo.toNat = some r.pinchLo.toNat := inRange_eq_some.mpr ⟨⟨by omega, by omega⟩, rfl⟩
        have hhi : inRange 0 travel r.pinchHi.toNat = some r.pinchHi.toNat := inRange_eq_some.mpr ⟨⟨by omega, by omega⟩, rfl⟩
        have hn : inRange 0 400 r.backoff.toNat = some r.backoff.toNat := inRange_eq_some.mpr ⟨⟨by omega, far⟩, rfl⟩
        have hd := dirOf_eq_some.mpr ⟨dir, rfl⟩
        rw [hlo, hhi, hn, hd]
        simp [le]
    · change ¬r.pinchPresent = 0#8 at absent
      change ¬r.pinchPresent = 1#8 at present
      simp [absent, present]

end Sys2Proof.Laws

namespace Sys2Proof.Proofs

open Sys2Proof.Machine Sys2Proof.Laws

/-- Settles O18: each field's range gives its conjunct, and the record is the list of the values. -/
theorem configRecordsLieInRange : Obligations.ConfigRecordsLieInRange := by
  unfold Obligations.ConfigRecordsLieInRange
  intro a r c
  dsimp only
  unfold configOf
  constructor
  · intro h
    obtain ⟨_, travel, h⟩ := Option.bind_eq_some_iff.mp h
    obtain ⟨_, refEnd, h⟩ := Option.bind_eq_some_iff.mp h
    obtain ⟨_, lash, h⟩ := Option.bind_eq_some_iff.mp h
    obtain ⟨_, endZone, h⟩ := Option.bind_eq_some_iff.mp h
    obtain ⟨_, s0, h⟩ := Option.bind_eq_some_iff.mp h
    obtain ⟨_, s1, h⟩ := Option.bind_eq_some_iff.mp h
    obtain ⟨_, s2, h⟩ := Option.bind_eq_some_iff.mp h
    obtain ⟨_, s3, h⟩ := Option.bind_eq_some_iff.mp h
    obtain ⟨_, draw, h⟩ := Option.bind_eq_some_iff.mp h
    obtain ⟨_, window, h⟩ := Option.bind_eq_some_iff.mp h
    obtain ⟨group, hg, h⟩ := Option.bind_eq_some_iff.mp h
    obtain ⟨_, reach, h⟩ := Option.bind_eq_some_iff.mp h
    obtain ⟨_, partner, h⟩ := Option.bind_eq_some_iff.mp h
    obtain ⟨_, skew, h⟩ := Option.bind_eq_some_iff.mp h
    obtain ⟨_, pinch, h⟩ := Option.bind_eq_some_iff.mp h
    obtain ⟨_, hand, h⟩ := Option.bind_eq_some_iff.mp h
    obtain ⟨_, heat, h⟩ := Option.bind_eq_some_iff.mp h
    rw [inRange_eq_some] at travel lash endZone draw window skew heat
    obtain ⟨travel, rfl⟩ := travel
    rw [stopOf_eq_some] at s0 s1 s2 s3
    rw [dirOf_eq_some] at refEnd
    rw [finOf_eq_some] at hg
    rw [reachOf_eq_some] at reach
    rw [partnerOf_eq_some] at partner
    rw [pinchOf_eq_some] at pinch
    rw [flagOf_eq_some] at hand
    obtain ⟨refEnd, rfl⟩ := refEnd
    obtain ⟨⟨-, lash⟩, rfl⟩ := lash
    obtain ⟨endZone, rfl⟩ := endZone
    obtain ⟨s0, rfl⟩ := s0
    obtain ⟨s1, rfl⟩ := s1
    obtain ⟨s2, rfl⟩ := s2
    obtain ⟨s3, rfl⟩ := s3
    obtain ⟨draw, rfl⟩ := draw
    obtain ⟨window, rfl⟩ := window
    obtain ⟨reach, rfl⟩ := reach
    obtain ⟨partner, rfl⟩ := partner
    obtain ⟨skew, rfl⟩ := skew
    obtain ⟨pinch, rfl⟩ := pinch
    obtain ⟨hand, rfl⟩ := hand
    obtain ⟨heat, rfl⟩ := heat
    have lt := group.isLt
    have number : group = Fin.ofNat 3 r.scaleGroup.toNat := by
      ext
      simp [hg]
    refine ⟨travel, refEnd, lash, endZone, ?_, draw, window, by omega, reach, partner, skew, pinch, hand, heat, ?_⟩
    · simp only [List.mem_cons, List.not_mem_nil, or_false, forall_eq_or_imp, forall_eq]
      exact ⟨s0, s1, s2, s3⟩
    · rw [← number]
      exact (Option.some.inj h).symm
  · rintro ⟨travel, refEnd, lash, endZone, stops, draw, window, group, reach, partner, skew, pinch, hand, heat, rfl⟩
    simp only [List.mem_cons, List.not_mem_nil, or_false, forall_eq_or_imp, forall_eq] at stops
    obtain ⟨s0, s1, s2, s3⟩ := stops
    have number : r.scaleGroup.toNat = (Fin.ofNat 3 r.scaleGroup.toNat).val := by
      simp [Nat.mod_eq_of_lt (show r.scaleGroup.toNat < 3 by omega)]
    rw [inRange_eq_some.mpr ⟨travel, rfl⟩, dirOf_eq_some.mpr ⟨refEnd, rfl⟩, inRange_eq_some.mpr ⟨⟨Nat.zero_le _, lash⟩, rfl⟩,
      inRange_eq_some.mpr ⟨endZone, rfl⟩, inRange_eq_some.mpr ⟨draw, rfl⟩, inRange_eq_some.mpr ⟨window, rfl⟩,
      finOf_eq_some.mpr number, reachOf_eq_some.mpr ⟨reach, rfl⟩, partnerOf_eq_some.mpr ⟨partner, rfl⟩,
      inRange_eq_some.mpr ⟨skew, rfl⟩, flagOf_eq_some.mpr ⟨hand, rfl⟩, inRange_eq_some.mpr ⟨heat, rfl⟩]
    simp only [Option.bind_eq_bind, Option.bind_some, stopOf_eq_some.mpr ⟨s0, rfl⟩, stopOf_eq_some.mpr ⟨s1, rfl⟩,
      stopOf_eq_some.mpr ⟨s2, rfl⟩, stopOf_eq_some.mpr ⟨s3, rfl⟩, pinchOf_eq_some.mpr ⟨pinch, rfl⟩]

end Sys2Proof.Proofs

namespace Sys2Proof.Safety

open Sys2Proof.Machine Sys2Proof.Laws

/-! ### What holds the position law -/

/-- Two axes agree on everything the position law reads; a VALID reference may have fallen to SUSPECT. -/
structure SamePlace (x y : Axis) : Prop where
  config : y.config = x.config
  pos : y.pos = x.pos
  overrun : y.overrun = x.overrun
  lashRem : y.lashRem = x.lashRem
  ref : y.ref = x.ref ∨ (x.ref = .valid ∧ y.ref = .suspect)

theorem SamePlace.refl (x : Axis) : SamePlace x x := ⟨rfl, rfl, rfl, rfl, .inl rfl⟩

theorem SamePlace.trans {x y z : Axis} (h : SamePlace x y) (k : SamePlace y z) : SamePlace x z where
  config := k.config.trans h.config
  pos := k.pos.trans h.pos
  overrun := k.overrun.trans h.overrun
  lashRem := k.lashRem.trans h.lashRem
  ref := by
    rcases h.ref with e | ⟨v, e⟩ <;> rcases k.ref with f | ⟨w, f⟩
    · exact .inl (f.trans e)
    · exact .inr ⟨e ▸ w, f⟩
    · exact .inr ⟨v, f.trans e⟩
    · exact .inr ⟨v, f⟩

theorem Measured.samePlace {x y : Axis} (h : Measured x y) : SamePlace x y :=
  ⟨h.config, h.pos, h.overrun, h.lashRem, h.ref⟩

/-- A reference falls to SUSPECT at most, so that an axis that keeps its place has a reference exactly where it had one. -/
theorem SamePlace.ref_unknown {x y : Axis} (h : SamePlace x y) : y.ref = .unknown ↔ x.ref = .unknown := by
  rcases h.ref with e | ⟨v, e⟩
  · rw [e]
  · simp [v, e]

theorem PositionLaw.samePlace {x y : Axis} (law : PositionLaw x) (h : SamePlace x y) : PositionLaw y := by
  unfold PositionLaw at *
  simp only [ne_eq, h.config, h.pos, h.overrun, h.lashRem, h.ref_unknown] at *
  exact law

/-- Every axis keeps its place between two states. -/
def PlacesKept (s t : State) : Prop := ∀ a, SamePlace (s.ax a) (t.ax a)

theorem PlacesKept.refl (s : State) : PlacesKept s s := fun _ => SamePlace.refl _

theorem PlacesKept.trans {s t u : State} (h : PlacesKept s t) (k : PlacesKept t u) : PlacesKept s u :=
  fun a => (h a).trans (k a)

theorem Controls.placesKept {F : Prop} {s t : State} (h : Controls F s t) : PlacesKept s t :=
  fun a => (h.axes a).toMeasured.samePlace

/-- Control may follow. -/
theorem PlacesKept.controls {F : Prop} {s t u : State} (h : PlacesKept s t) (k : Controls F t u) : PlacesKept s u :=
  h.trans k.placesKept

theorem PlacesKept.of_axes {s t : State} (h : t.axes = s.axes) : PlacesKept s t := fun a => by
  rw [ax_congr h]
  exact SamePlace.refl _

theorem PlacesKept.settle (s : State) : PlacesKept s s.settle := fun a => (settle_measured s a).samePlace

theorem PlacesKept.modAx (s : State) (a : AxisNo) (f : Axis → Axis) (hf : ∀ x, SamePlace x (f x)) :
    PlacesKept s (s.modAx a f) := fun b => by
  rw [ax_modAx]
  split
  · next e => exact e ▸ hf _
  · exact SamePlace.refl _

theorem PlacesKept.foldl {α : Type} (s : State) (l : List α) (f : State → α → State)
    (hf : ∀ t a, PlacesKept t (f t a)) : PlacesKept s (l.foldl f s) :=
  foldl_rel PlacesKept.refl PlacesKept.trans l f hf s

theorem PlacesKept.modAll (s : State) (as : List AxisNo) (f : Axis → Axis) (hf : ∀ x, SamePlace x (f x)) :
    PlacesKept s (s.modAll as f) := PlacesKept.foldl s as _ (fun t a => PlacesKept.modAx t a f hf)

theorem PositionsLawful.placesKept {s t : State} (law : PositionsLawful s) (h : PlacesKept s t) : PositionsLawful t :=
  fun a => (law a).samePlace (h a)

/-- The law survives the replacing of one axis by one that is lawful. -/
theorem PositionsLawful.modAx {s : State} (law : PositionsLawful s) (a : AxisNo) (f : Axis → Axis)
    (hf : PositionLaw (s.ax a) → PositionLaw (f (s.ax a))) : PositionsLawful (s.modAx a f) := fun b => by
  rw [ax_modAx]
  split
  · exact hf (law a)
  · exact law b

theorem PositionsLawful.of_axes {s t : State} (law : PositionsLawful s) (h : t.axes = s.axes) : PositionsLawful t :=
  law.placesKept (.of_axes h)

/-- An axis after a power-on reset is lawful: no position, no reference, no overrun, no lash. -/
theorem positionLaw_reset : PositionLaw Axis.reset := by
  simp [PositionLaw, Axis.reset]

theorem ax_of_reset {s : State} (h : s.axes = State.reset.axes) (a : AxisNo) : s.ax a = Axis.reset := by
  simp [State.ax, h, State.reset]

theorem positionsLawful_of_reset {s : State} (h : s.axes = State.reset.axes) : PositionsLawful s := fun a => by
  rw [ax_of_reset h]
  exact positionLaw_reset

end Sys2Proof.Safety

/-! ### Requests that write no axis -/

namespace Sys2Proof.Safety

open Sys2Proof.Machine Sys2Proof.Laws

section Unchanged

variable (tag : Byte) (s : State)

theorem statusTaken_axes : (statusTaken tag s).axes = s.axes := rfl

theorem axisGetTaken_axes (axis : Byte) (form : Option Byte) : (axisGetTaken tag axis form s).axes = s.axes := by
  unfold axisGetTaken
  repeat' split
  all_goals rfl

theorem profileWriteTaken_axes (bank index : Byte) (v : ProfileArgs) :
    (profileWriteTaken tag bank index v s).axes = s.axes := by
  unfold profileWriteTaken State.setProfile
  repeat' split
  all_goals rfl

theorem profileReadTaken_axes (bank index : Byte) : (profileReadTaken tag bank index s).axes = s.axes := by
  unfold profileReadTaken
  repeat' split
  all_goals rfl

theorem profileSwapTaken_axes : (profileSwapTaken tag s).axes = s.axes := by
  unfold profileSwapTaken
  split <;> rfl

theorem keepoutSetTaken_axes (entry present : Byte) (k : KeepoutArgs) :
    (keepoutSetTaken tag entry present k s).axes = s.axes := by
  unfold keepoutSetTaken
  repeat' split
  all_goals rfl

theorem keepoutGetTaken_axes (entry : Byte) : (keepoutGetTaken tag entry s).axes = s.axes := by
  unfold keepoutGetTaken
  repeat' split
  all_goals rfl

theorem planWriteTaken_axes (start count : Byte) (es : List EntryArgs) :
    (planWriteTaken tag start count es s).axes = s.axes := by
  unfold planWriteTaken
  repeat' split
  all_goals rfl

theorem planReadTaken_axes (first : Byte) (count : Option Byte) : (planReadTaken tag first count s).axes = s.axes := by
  unfold planReadTaken
  repeat' split
  all_goals rfl

theorem planDefineTaken_axes (slot start length marks timeout : Byte) :
    (planDefineTaken tag slot start length marks timeout s).axes = s.axes := by
  unfold planDefineTaken
  repeat' split
  all_goals rfl

theorem runGetTaken_axes (runner : Byte) (first : Option Byte) : (runGetTaken tag runner first s).axes = s.axes := by
  unfold runGetTaken
  repeat' split
  all_goals rfl

theorem powerTaken_axes (mode w h q : Byte) : (powerTaken tag mode w h q s).axes = s.axes := by
  unfold powerTaken
  repeat' split
  all_goals rfl

end Unchanged

/-! ### Requests that control the motion -/

section Requests

variable (tag : Byte) {F : Prop} {s t : State}

theorem Controls.ite {c : Prop} [Decidable c] {u : State} (h : Controls F s t) (k : Controls F s u) :
    Controls F s (if c then t else u) := by
  split
  · exact h
  · exact k

theorem PlacesKept.ite {c : Prop} [Decidable c] {u : State} (h : PlacesKept s t) (k : PlacesKept s u) :
    PlacesKept s (if c then t else u) := by
  split
  · exact h
  · exact k

theorem PlacesKept.reply (h : PlacesKept s t) (k : Byte) (r : Result) (d : List Byte) : PlacesKept s (t.reply k tag r d) :=
  h.trans (.of_axes rfl)

/-- Control, and then the reply. -/
theorem Controls.reply_placesKept (h : Controls F s t) (k : Byte) (r : Result) (d : List Byte) :
    PlacesKept s (t.reply k tag r d) := h.placesKept.reply tag k r d

theorem refuse_placesKept (s : State) (k : Byte) (r : Result) : PlacesKept s (s.refuse k tag r) := .of_axes rfl

theorem Controls.blockExpires (h : Controls F s t) (a : AxisNo) : Controls F s (t.blockExpires a) := by
  unfold State.blockExpires
  split
  · exact Controls.ite h ((h.raiseFault a _ _ _ _).passSince t)
  · exact h

theorem enterDoze_placesKept (s : State) : PlacesKept s s.enterDoze := by
  have h := PlacesKept.modAll s allAxes (fun x => { x with escalated := false }) (fun x => by exact { SamePlace.refl x with })
  unfold State.enterDoze
  exact h.trans (.of_axes rfl)

theorem newDwell_placesKept (s : State) (n : Nat) : PlacesKept s (s.newDwell n) := by
  unfold State.newDwell
  split
  · exact .refl s
  · exact .ite (enterDoze_placesKept s) (.refl s)

theorem newBlockTimeout_placesKept (s : State) (n : Nat) : PlacesKept s (s.newBlockTimeout n) :=
  .foldl s _ _ (fun t a => .ite ((Controls.refl (F := False) t).blockExpires a).placesKept (.refl t))

theorem applySetup_placesKept (s : State) (v : Setup) : PlacesKept s (s.applySetup v) := by
  unfold State.applySetup
  dsimp only
  generalize hu : ({ s with link := { s.link with setup := v, cadence := _ } } : State) = u
  have same : PlacesKept s u := .of_axes (by rw [← hu])
  have expired : PlacesKept s (if v.blockTimeout = s.link.setup.blockTimeout then u else u.newBlockTimeout v.blockTimeout) :=
    .ite same (same.trans (newBlockTimeout_placesKept u _))
  exact .ite expired (expired.trans (newDwell_placesKept _ _))

theorem setupTaken_placesKept (w c : Half) (b : Byte) (d : Half) (s : State) : PlacesKept s (setupTaken tag w c b d s) := by
  unfold setupTaken
  refine .ite (refuse_placesKept tag s _ _) ?_
  split
  · exact refuse_placesKept tag s _ _
  · exact (applySetup_placesKept s _).reply tag _ _ _

theorem resetMotion_placesKept (s : State) (a : AxisNo) : PlacesKept s (s.resetMotion a) := by
  have c := Controls.refl (F := False) s
  unfold State.resetMotion
  split
  · exact (c.startStop a _ _).placesKept
  · exact (c.startStop a _ _).placesKept
  · exact .modAx s a _ (fun x => by exact { SamePlace.refl x with })
  · exact .modAx s a _ (fun x => by exact { SamePlace.refl x with })
  · exact (c.modAx a _ (fun x => KeptAxis.cutShort _ _ x)).placesKept
  · exact (c.modAx a _ (KeptAxis.toIdle false)).placesKept
  · exact (c.modAx a _ (KeptAxis.toIdle false)).placesKept
  · exact .refl s
  · exact .refl s

theorem startReset_placesKept (s : State) : PlacesKept s s.startReset := by
  have stopped := PlacesKept.foldl s allAxes State.resetMotion resetMotion_placesKept
  have freed := stopped.trans (.modAll _ allAxes Axis.atReset (fun x => by exact { SamePlace.refl x with }))
  unfold State.startReset
  exact freed.trans (.of_axes rfl)

theorem resetTaken_placesKept (s : State) : PlacesKept s (resetTaken tag s) :=
  .ite (refuse_placesKept tag s _ _) ((startReset_placesKept s).reply tag _ _ _)

theorem ackTaken_placesKept (axis : Byte) (s : State) : PlacesKept s (ackTaken tag axis s) := by
  unfold ackTaken
  refine .ite (refuse_placesKept tag s _ _) ?_
  split
  · exact refuse_placesKept tag s _ _
  · split
    · exact (PlacesKept.refl s).reply tag _ _ _
    · refine .ite ((PlacesKept.modAx s _ _ (fun x => ?_)).reply tag _ _ _) (refuse_placesKept tag s _ _)
      exact { SamePlace.refl x with }

theorem Controls.linkOwns (h : Controls F s t) (a : AxisNo) (k : OpKind) (hold : Bool) (d : Dir)
    (w : Option Nat) : Controls F s (t.linkOwns a k hold d w) :=
  h.modAll _ _ (fun x => by exact { KeptAxis.refl x with })

theorem Controls.startHome (h : Controls F s t) (a : AxisNo) : Controls F s (t.startHome a) :=
  ((h.linkOwns a _ _ _ _).latch _ _ _ _ _ _).startOrBlock _

theorem Controls.startCheck (h : Controls F s t) (a : AxisNo) : Controls F s (t.startCheck a) :=
  ((h.linkOwns a _ _ _ _).modAll _ _ (fun x => by exact { KeptAxis.refl x with })).startOrBlock _

theorem homeTaken_placesKept (axis : Byte) (s : State) : PlacesKept s (homeTaken tag axis s) := by
  unfold homeTaken
  refine .ite (refuse_placesKept tag s _ _) ?_
  split
  · exact refuse_placesKept tag s _ _
  · split
    · exact refuse_placesKept tag s _ _
    · exact ((Controls.refl (F := False) s).startHome _).reply_placesKept tag _ _ _

theorem checkTaken_placesKept (axis : Byte) (s : State) : PlacesKept s (checkTaken tag axis s) := by
  unfold checkTaken
  refine .ite (refuse_placesKept tag s _ _) ?_
  split
  · exact refuse_placesKept tag s _ _
  · split
    · exact refuse_placesKept tag s _ _
    · exact ((Controls.refl (F := False) s).startCheck _).reply_placesKept tag _ _ _

theorem Controls.startJog (h : Controls F s t) (a : AxisNo) (d : Dir) (n : Option Nat) :
    Controls F s (t.startJog a d n) := by
  have owned := h.linkOwns a .jog n.isNone d (jogWindowOf n)
  have awake : Controls F s (if n.isNone then (t.linkOwns a .jog n.isNone d (jogWindowOf n)).notIdle
      else t.linkOwns a .jog n.isNone d (jogWindowOf n)) := .ite owned.notIdle owned
  exact .ite (awake.tellOutcome a _ _) ((awake.latch _ _ _ _ _ _).startOrBlock _)

theorem Controls.reverseAxis (h : Controls F s t) (n : Nat) (a : AxisNo) : Controls F s (t.reverseAxis n a) := by
  unfold State.reverseAxis
  split
  · exact h.startStopFrom n a _ _
  · exact h.modAx a _ (fun x => by exact { KeptAxis.refl x with })
  · exact h.modAx a _ (fun x => by exact { KeptAxis.refl x with })
  all_goals exact h

theorem Controls.retarget (h : Controls F s t) (as : List AxisNo) (a : AxisNo) (g : Nat × Bool) :
    Controls F s (t.retarget as a g) :=
  h.modAll as _ (fun x => by exact { KeptAxis.refl x with })

theorem Controls.reverseJog (h : Controls F s t) (a : AxisNo) (d : Dir) (n : Option Nat) :
    Controls F s (t.reverseJog a d n) := by
  have renamed := h.modOp a (fun op => { op with hold := n.isNone, dir := d, window := jogWindowOf n })
  have aimed := (Controls.ite (c := n.isNone = true) renamed.notIdle renamed).retarget (t.members a) a (t.jogTarget a d n)
  unfold State.reverseJog
  dsimp only at aimed ⊢
  generalize State.retarget _ _ _ _ = u at aimed ⊢
  split
  · refine .ite ((((aimed.foldl _ _ (fun _ b hu => hu.leaveQueue b)).modAll _ _ (fun x => ?_)).blockEntry _).passSince u) aimed
    exact { KeptAxis.refl x with }
  · exact aimed.reevaluate a
  all_goals exact aimed.foldl _ _ (fun _ b hu => hu.reverseAxis _ b)

theorem jogAgain_placesKept (s : State) (a : AxisNo) (op : LinkOp) (d : Dir) (n : Option Nat) :
    PlacesKept s (s.jogAgain tag a op d n) := by
  have c := Controls.refl (F := False) s
  exact .ite (refuse_placesKept tag s _ _) (.ite (.ite ((c.modOp a _).reply_placesKept tag _ _ _)
    (refuse_placesKept tag s _ _)) ((c.reverseJog a d n).reply_placesKept tag _ _ _))

theorem jogTaken_placesKept (axis d m : Byte) (n : Half) (s : State) : PlacesKept s (jogTaken tag axis d m n s) := by
  unfold jogTaken
  refine .ite (refuse_placesKept tag s _ _) ?_
  split
  · split
    · exact refuse_placesKept tag s _ _
    · split
      · exact jogAgain_placesKept tag s _ _ _ _
      · split
        · exact refuse_placesKept tag s _ _
        · exact ((Controls.refl (F := False) s).startJog _ _ _).reply_placesKept tag _ _ _
  · exact refuse_placesKept tag s _ _

theorem clearEscalation_placesKept (s : State) (g : Fin 3) : PlacesKept s (s.clearEscalation g) :=
  .foldl s _ _ (fun t a => .ite (.modAx t a _ (fun x => by exact { SamePlace.refl x with })) (.refl t))

theorem scaleSetTaken_placesKept (g f : Byte) (s : State) : PlacesKept s (scaleSetTaken tag g f s) := by
  unfold scaleSetTaken
  refine .ite (refuse_placesKept tag s _ _) ?_
  split
  · next i n _ _ =>
    have same : PlacesKept s { s with store := { s.store with scales := s.store.scales.set i n } } := .of_axes rfl
    exact (same.trans (clearEscalation_placesKept _ i)).reply tag _ _ _
  · exact refuse_placesKept tag s _ _

theorem startRun_placesKept (s : State) (r : RunnerNo) (n : SlotNo) : PlacesKept s (s.startRun r n) := by
  have claimed := ((Controls.refl (F := False) s).setRun r (some (s.newRun n))).modAll (s.newRun n).claim
    (fun x => { x with owner := .runner r }) (fun x => by exact { KeptAxis.refl x with })
  exact ((claimed.setMarks _).notIdle.judgeRun r _).placesKept

theorem runTaken_placesKept (slot : Byte) (s : State) : PlacesKept s (runTaken tag slot s) := by
  unfold runTaken
  refine .ite (refuse_placesKept tag s _ _) ?_
  split
  · exact refuse_placesKept tag s _ _
  · refine .ite (refuse_placesKept tag s _ _) ?_
    split
    · exact (PlacesKept.refl s).reply tag _ _ _
    · dsimp only
      split
      · exact refuse_placesKept tag s _ _
      · exact refuse_placesKept tag s _ _
      · exact (startRun_placesKept s _ _).reply tag _ _ _

theorem pauseTaken_placesKept (runner : Byte) (s : State) : PlacesKept s (pauseTaken tag runner s) := by
  have paused (r : RunnerNo) := (((Controls.refl (F := False) s).pauseFor r .host).passSince s).reply_placesKept tag 0x31 .ok []
  unfold pauseTaken
  refine .ite (refuse_placesKept tag s _ _) ?_
  split
  · exact refuse_placesKept tag s _ _
  · next r _ =>
    split
    · exact paused r
    · exact paused r
    · exact paused r
    · exact refuse_placesKept tag s _ _
    · exact refuse_placesKept tag s _ _

theorem resumeTaken_placesKept (runner : Byte) (s : State) : PlacesKept s (resumeTaken tag runner s) := by
  unfold resumeTaken
  refine .ite (refuse_placesKept tag s _ _) ?_
  split
  · exact refuse_placesKept tag s _ _
  · split
    · exact refuse_placesKept tag s _ _
    · split
      · exact (PlacesKept.refl s).reply tag _ _ _
      · exact refuse_placesKept tag s _ _
      · exact ((Controls.refl (F := False) s).setRun _ _).notIdle.reply_placesKept tag _ _ _

theorem Controls.haltRunner (h : Controls F s t) (r : RunnerNo) (k : EndKind) : Controls F s (t.haltRunner r k) := by
  unfold State.haltRunner
  split
  · exact h
  · exact ((h.setRun r _).stopAll _ _).passSince t

theorem haltTaken_placesKept (runner : Byte) (s : State) : PlacesKept s (haltTaken tag runner s) := by
  have halted (r : RunnerNo) := ((Controls.refl (F := False) s).haltRunner r .aborted).notIdle.reply_placesKept tag 0x33 .ok []
  unfold haltTaken
  refine .ite (refuse_placesKept tag s _ _) ?_
  split
  · exact refuse_placesKept tag s _ _
  · next r _ =>
    split
    · exact halted r
    · exact halted r
    · exact halted r
    · exact (PlacesKept.refl s).reply tag _ _ _
    · exact refuse_placesKept tag s _ _

theorem Controls.clearMark (h : Controls F s t) (m : MarkNo) : Controls F s (t.clearMark m) := h.setMarks _

theorem markTaken_placesKept (m action : Byte) (s : State) : PlacesKept s (markTaken tag m action s) := by
  have c := Controls.refl (F := False) s
  unfold markTaken
  refine .ite (refuse_placesKept tag s _ _) ?_
  split
  · exact (Controls.ite (c.clearMark _) (c.setMark _).engine).reply_placesKept tag _ _ _
  · exact refuse_placesKept tag s _ _

theorem Controls.revokeLoop (n : Nat) {t : State} (h : Controls F s t) : Controls F s (Machine.revokeLoop n t) := by
  induction n generalizing t with
  | zero => exact h
  | succ n ih =>
    unfold Machine.revokeLoop
    split
    · exact h
    · split
      · exact h
      · exact ih (h.stopAll _ _)

theorem Controls.revoke (h : Controls F s t) : Controls F s t.revoke :=
  .ite h ((Controls.revokeLoop 12 h).passSince t)

theorem recompute_placesKept (s : State) : PlacesKept s s.recompute := by
  unfold State.recompute
  dsimp only
  generalize hu : ({ s with supply := { s.supply with avail := _ } } : State) = u
  have same : PlacesKept s u := .of_axes (by rw [← hu])
  have c := Controls.refl (F := False) u
  exact .ite (same.controls c.grantPass) (.ite (same.controls c.revoke) same)

theorem budgetSetTaken_placesKept (b : Half) (s : State) : PlacesKept s (budgetSetTaken tag b s) := by
  unfold budgetSetTaken
  refine .ite (refuse_placesKept tag s _ _) ?_
  split
  · exact refuse_placesKept tag s _ _
  · next n _ =>
    have same : PlacesKept s { s with supply := { s.supply with base := n } } := .of_axes rfl
    exact (same.trans (recompute_placesKept _)).reply tag _ _ _

end Requests

end Sys2Proof.Safety

/-! ### AXIS_SET and the taking of a request -/

namespace Sys2Proof.Safety

open Sys2Proof.Machine Sys2Proof.Laws

theorem modAx_modAx (s : State) (a : AxisNo) (f g : Axis → Axis) : (s.modAx a f).modAx a g = s.modAx a (g ∘ f) := by
  simp [modAx_eq]

/-- A record that AXIS_SET takes has a lash of at most 63 (section 1.1). -/
theorem configOf_lash {a : AxisNo} {r : AxisArgs} {c : AxisConfig} (h : configOf a r = some c) : c.lash ≤ 63 := by
  obtain ⟨-, -, lash, -, -, -, -, -, -, -, -, -, -, -, e⟩ := (Proofs.configRecordsLieInRange a r c).mp h
  rw [e]
  exact lash

theorem newHeatLimit_samePlace (n : Nat) (x : Axis) : SamePlace x (x.newHeatLimit n) := by
  unfold Axis.newHeatLimit
  split <;> exact { SamePlace.refl x with }

/-- An axis whose record is replaced by one of equal travel, its lash remaining cut to the new lash and its overrun to the new
end zone. -/
theorem PositionLaw.keptRecord {x : Axis} {o c : AxisConfig} (law : PositionLaw x) (ho : x.config = some o)
    (ht : o.travel = c.travel) (hl : c.lash ≤ 63) {y : Axis} (hc : y.config = some c) (hp : y.pos = x.pos)
    (hr : y.ref = x.ref) (hm : y.lashRem = min x.lashRem c.lash) (hv : y.overrun = min x.overrun c.endZone) : PositionLaw y := by
  obtain ⟨ref, noPos, lash, -, within⟩ := law
  refine ⟨by rw [hp, hr]; exact ref, fun e => ?_, by omega, fun d hd => ?_, fun d p hd hq => ?_⟩
  · have := noPos (hp ▸ e)
    omega
  · cases hc.symm.trans hd
    exact ⟨hl, .inl (by omega)⟩
  · cases hc.symm.trans hd
    obtain ⟨low, -, bound⟩ := within o p ho (hp ▸ hq)
    exact ⟨ht ▸ low, by omega, fun pos => ht ▸ bound (by omega)⟩

/-- An axis whose record is replaced and whose position is lost. -/
theorem PositionLaw.lostPlace {x : Axis} {c : AxisConfig} (law : PositionLaw x) (hl : c.lash ≤ 63) {y : Axis}
    (hc : y.config = some c) (hp : y.pos = none) (hr : y.ref = .unknown) (hm : y.lashRem = x.lashRem)
    (hv : y.overrun = 0) : PositionLaw y := by
  obtain ⟨-, -, lash, -⟩ := law
  refine ⟨by simp [hp, hr], fun _ => hv, by omega, fun d hd => ?_, fun d p _ hq => by simp [hp] at hq⟩
  cases hc.symm.trans hd
  exact ⟨hl, .inr hr⟩

theorem newHeatLimit_ref (n : Nat) (x : Axis) : (x.newHeatLimit n).ref = x.ref := by
  unfold Axis.newHeatLimit
  split <;> rfl

theorem setConfig_lawful {s : State} (law : PositionsLawful s) (a : AxisNo) {c : AxisConfig} (hl : c.lash ≤ 63) :
    PositionsLawful (s.setConfig a c) := by
  have heat := newHeatLimit_samePlace c.heatLimit (s.ax a)
  unfold State.setConfig State.reposition
  simp only [ax_modAx_self]
  split
  · next same =>
    simp only [Option.map_eq_some_iff] at same
    obtain ⟨⟨o, ho, ht⟩, -⟩ := same
    split
    · next above =>
      refine PositionsLawful.placesKept ?_ ((Controls.refl (F := True) _).suspect trivial a _).placesKept
      rw [modAx_modAx, modAx_modAx]
      refine law.modAx a _ (fun lx => ?_)
      refine lx.keptRecord ho ht hl rfl heat.pos (newHeatLimit_ref _ _) ?_ ?_
      · simp [heat.lashRem]
      · rw [heat.overrun] at above
        simp
        omega
    · next above =>
      rw [modAx_modAx]
      refine law.modAx a _ (fun lx => ?_)
      refine lx.keptRecord ho ht hl rfl heat.pos (newHeatLimit_ref _ _) ?_ ?_
      · simp [heat.lashRem]
      · rw [heat.overrun] at above
        simp [heat.overrun]
        omega
  · rw [modAx_modAx]
    have lost : PositionsLawful (s.modAx a ((fun x => { x with ref := .unknown, pos := none, overrun := 0 }) ∘
        (fun x => { x.newHeatLimit c.heatLimit with config := some c }))) :=
      law.modAx a _ (fun lx => lx.lostPlace hl rfl rfl rfl heat.lashRem rfl)
    refine PositionsLawful.placesKept ?_ ((Controls.refl (F := True) _).handOn trivial a _).placesKept
    split
    · exact lost
    · exact lost.of_axes (report_axes _ _)

end Sys2Proof.Safety

namespace Sys2Proof.Safety

open Sys2Proof.Machine Sys2Proof.Laws

theorem axisSetTaken_lawful {s : State} (law : PositionsLawful s) (tag axis : Byte) (args : AxisArgs) :
    PositionsLawful (axisSetTaken tag axis args s) := by
  have refused (r : Result) := law.placesKept (refuse_placesKept tag s 0x10 r)
  unfold axisSetTaken
  split
  · exact refused _
  · split
    · exact refused _
    · split
      · exact refused _
      · next c taken =>
        dsimp only
        split
        · exact refused _
        · exact (setConfig_lawful law _ (configOf_lash taken)).of_axes rfl

/-- A request other than AXIS_SET leaves every axis in its place. -/
theorem takeRequest_placesKept (i : Instr) (s : State) (other : ∀ tag a args, i ≠ .axisSet tag a args) :
    PlacesKept s (takeRequest i s) := by
  cases i with
  | ident tag => exact .of_axes rfl
  | status tag => exact .of_axes (statusTaken_axes tag s)
  | setup tag w c b d => exact setupTaken_placesKept tag w c b d s
  | reset tag => exact resetTaken_placesKept tag s
  | axisSet tag a args => exact absurd rfl (other tag a args)
  | axisGet tag a f => exact .of_axes (axisGetTaken_axes tag s a f)
  | ack tag a => exact ackTaken_placesKept tag a s
  | jog tag a d m n => exact jogTaken_placesKept tag a d m n s
  | home tag a => exact homeTaken_placesKept tag a s
  | check tag a => exact checkTaken_placesKept tag a s
  | profileWrite tag b i v => exact .of_axes (profileWriteTaken_axes tag s b i v)
  | profileRead tag b i => exact .of_axes (profileReadTaken_axes tag s b i)
  | profileSwap tag => exact .of_axes (profileSwapTaken_axes tag s)
  | scaleSet tag g f => exact scaleSetTaken_placesKept tag g f s
  | keepoutSet tag e p k => exact .of_axes (keepoutSetTaken_axes tag s e p k)
  | keepoutGet tag e => exact .of_axes (keepoutGetTaken_axes tag s e)
  | planWrite tag st n es => exact .of_axes (planWriteTaken_axes tag s st n es)
  | planRead tag f n => exact .of_axes (planReadTaken_axes tag s f n)
  | planDefine tag sl st l m t => exact .of_axes (planDefineTaken_axes tag s sl st l m t)
  | run tag sl => exact runTaken_placesKept tag sl s
  | pause tag r => exact pauseTaken_placesKept tag r s
  | resume tag r => exact resumeTaken_placesKept tag r s
  | halt tag r => exact haltTaken_placesKept tag r s
  | mark tag m a => exact markTaken_placesKept tag m a s
  | runGet tag r f => exact .of_axes (runGetTaken_axes tag s r f)
  | budgetSet tag b => exact budgetSetTaken_placesKept tag b s
  | power tag m w h q => exact .of_axes (powerTaken_axes tag s m w h q)
  | unknownKind tag kind p => exact refuse_placesKept tag s kind _
  | _ => exact .refl s

theorem takeRequest_lawful {s : State} (law : PositionsLawful s) (i : Instr) : PositionsLawful (takeRequest i s) := by
  by_cases set : ∃ tag a args, i = .axisSet tag a args
  · obtain ⟨tag, a, args, rfl⟩ := set
    exact axisSetTaken_lawful law tag a args
  · exact law.placesKept (takeRequest_placesKept i s (fun tag a args e => set ⟨tag, a, args, e⟩))

theorem takeFrame_lawful {s : State} (law : PositionsLawful s) (f : Frame) : PositionsLawful (takeFrame f s) := by
  unfold takeFrame
  split
  · exact takeRequest_lawful law _
  · exact law.of_axes rfl
  · exact law.of_axes rfl

/-! ### The two forms of a meaning keep the law -/

theorem PositionsLawful.settle {s : State} (law : PositionsLawful s) : PositionsLawful s.settle :=
  law.placesKept (.settle s)

theorem frameHeard_lawful {s : State} (law : PositionsLawful s) : PositionsLawful s.frameHeard :=
  law.of_axes (frameHeard_axes s)

theorem admitFrame_axes (s : State) (f : Frame) : (s.admitFrame f).axes = s.axes := by
  unfold State.admitFrame
  split <;> rfl

theorem wakeBy_axes (s : State) (c : WakeCause) : (s.wakeBy c).axes = s.axes := by
  unfold State.wakeBy
  split <;> rfl

section Forms

variable {s : State} (law : PositionsLawful s)

include law

theorem offerFrame_lawful (f : Frame) (taken : State → State) (ht : ∀ u, PositionsLawful u → PositionsLawful (taken u)) :
    PositionsLawful (s.offerFrame f taken) := by
  unfold State.offerFrame
  dsimp only
  split
  · exact ht _ (frameHeard_lawful law)
  · exact (frameHeard_lawful law).of_axes (admitFrame_axes _ f)

/-- A request keeps the law where its taking does. -/
theorem offer_lawful (f : Option Frame) (taken : State → State) (ht : ∀ u, PositionsLawful u → PositionsLawful (taken u)) :
    PositionsLawful (s.offer f taken) := by
  unfold State.offer
  split
  · exact law
  · split
    · exact law
    · exact (law.of_axes (wakeBy_axes s .link)).settle
    all_goals
      split
      · exact law
      · exact (offerFrame_lawful law _ _ ht).settle

/-- An event keeps the law where its effect does. -/
theorem event_lawful {t : State} {effect : State → State} (e : s.event effect = .next t) (he : PositionsLawful (effect s)) :
    PositionsLawful t := by
  unfold State.event at e
  cases e
  split
  · exact law
  · exact he.settle

end Forms

end Sys2Proof.Safety

/-! ### Standstills -/

namespace Sys2Proof.Safety

open Sys2Proof.Machine Sys2Proof.Laws

section Standstill

variable {F : Prop} {s t : State}

theorem Controls.cameToRest (f : F) (h : Controls F s t) (a : AxisNo) (b : Bool) : Controls F s (t.cameToRest a b) := by
  have checked : Controls F s (if (t.members a).all (fun b => (t.ax b).motion.still) then t.checkSkew a else t) :=
    .ite (h.checkSkew f a) h
  exact .ite (checked.foldl _ _ (fun _ x hu => hu.reevaluateRelated x)) checked

theorem KeptAxis.stopped (x : Axis) : KeptAxis F x x.stopped := { KeptAxis.refl x with }

theorem Controls.blockedRest (h : Controls F s t) (as : List AxisNo) : Controls F s (t.blockedRest as) := by
  have left := (h.modAll as _ KeptAxis.stopped).passSince t
  exact .ite (left.enterBlocked as) (left.proceed as)

theorem Controls.heldRest (h : Controls F s t) (as : List AxisNo) : Controls F s (t.heldRest as) := by
  have left := (h.modAll as _ KeptAxis.stopped).passSince t
  have crept := left.reevaluateCreep as
  exact .ite (left.finish as _).engine (.ite (crept.enterBlocked as) (crept.joinQueue as _))

theorem Controls.reversalRest (h : Controls F s t) (as : List AxisNo) : Controls F s (t.reversalRest as) := by
  have left := (h.modAll as _ KeptAxis.stopped).reevaluateCreep as
  exact .ite ((h.releaseAll as).finish as _).engine
    (.ite (((left.releaseAll as).blockEntry as).passSince t) (left.foldl _ _ (fun _ a hu => hu.enterDriving a)))

theorem checkRest_placesKept (s : State) (as : List AxisNo) : PlacesKept s (s.checkRest as) := by
  unfold State.checkRest
  dsimp only
  generalize as.map (fun a => (a, (s.ax a).check.map CheckRec.result, (s.chanOf a).getD 0)) = ended
  have idle := (((Controls.refl (F := False) s).releaseAll as).modAll as _ (KeptAxis.toIdle false)).placesKept
  generalize (s.releaseAll as).modAll as (Axis.toIdle false) = t at idle ⊢
  have noted : PlacesKept s (ended.foldl (fun t p => t.modAx p.1 (fun x => { x with lastCheck := p.2.1 })) t) :=
    idle.trans (.foldl t _ _ (fun u p => .modAx u p.1 _ (fun x => by exact { SamePlace.refl x with })))
  generalize ended.foldl (fun t p => t.modAx p.1 (fun x => { x with lastCheck := p.2.1 })) t = u at noted ⊢
  have opened := noted.controls ((((Controls.refl (F := False) u).passSince s).foldl ended
    (fun t p => if p.2.1 = some .opened then t.raiseFault p.1 .opened (.channel p.2.2) none none else t)
    (fun _ p hu => .ite (hu.raiseFault p.1 _ _ _ _) hu)))
  split
  · exact opened
  · exact opened.controls ((Controls.refl (F := False) _).tellOutcome _ _ _)

theorem concludeStop_placesKept (s : State) (as : List AxisNo) : PlacesKept s (s.concludeStop as) := by
  have c := Controls.refl (F := False) s
  have released := c.releaseAll as
  have rested := ((released.modAll as _ KeptAxis.rested).passSince s).placesKept
  exact .ite rested (.ite (released.blockedRest as).placesKept (.ite (released.heldRest as).placesKept (.ite rested
    (.ite (c.reversalRest as).placesKept (.ite (checkRest_placesKept s as) (released.finish as _).engine.placesKept)))))

theorem arrive_placesKept (s : State) (a : AxisNo) : PlacesKept s (s.arrive a) := by
  have arrived := (Controls.refl (F := False) s).modAx a (fun x =>
    { x with stop := x.stop.map (fun st => { st with arrived := true, ramping := false }) })
    (fun x => by exact { KeptAxis.refl x with })
  exact .ite ((arrived.placesKept.trans (concludeStop_placesKept _ _)).controls
    ((Controls.refl (F := True) _).cameToRest trivial a _)) arrived.placesKept

theorem turn_placesKept (s : State) (a : AxisNo) (r : StopReq) : PlacesKept s (s.turn a r) := by
  have turned := (Controls.refl (F := False) s).modAx a (fun x =>
    { x with stop := x.stop.map (fun st => { st with dest := r.dest }) }) (fun x => by exact { KeptAxis.refl x with })
  refine PlacesKept.trans (Controls.passSince (F := False) ?_ s).placesKept (arrive_placesKept _ a)
  split
  · exact turned
  · exact .ite turned (turned.stopAxis _ r)

theorem evaluate_placesKept (s : State) (a : AxisNo) (m : MoveRec) (c : Corr) : PlacesKept s (s.evaluate a m c) := by
  have note (o : MoveOutcome) : PlacesKept s ((s.modAx a (fun x => { x with noted := some o })).arrive a) :=
    (PlacesKept.modAx s a _ (fun x => by exact { SamePlace.refl x with })).trans (arrive_placesKept _ a)
  unfold State.evaluate
  dsimp only
  split
  · exact note _
  · refine .ite (note _) (.ite (note _) ?_)
    split
    · exact turn_placesKept s a _
    · exact turn_placesKept s a _
    · split
      · exact note _
      · split
        · exact turn_placesKept s a _
        · exact ((Controls.refl (F := False) s).enterCorrect a _).placesKept

theorem standstillStopping_placesKept (s : State) (a : AxisNo) (st : Stop) : PlacesKept s (s.standstillStopping a st) := by
  unfold State.standstillStopping
  split
  · exact evaluate_placesKept s a _ _
  · exact arrive_placesKept s a

theorem Controls.beginReverse (f : F) (h : Controls F s t) (a : AxisNo) (d : Dir) : Controls F s (t.beginReverse a d) :=
  .ite (((((h.cutBackoff a _).releaseAll _).modAll _ _ KeptAxis.rested).passSince t).cameToRest f a _)
    (h.foldl _ _ (fun _ b hu => hu.enterReverse b))

theorem Controls.endBackoff (f : F) (h : Controls F s t) (a : AxisNo) : Controls F s (t.endBackoff a) := by
  unfold State.endBackoff
  exact (((h.releaseAll _).modAll _ _ KeptAxis.backoffDone).passSince t).cameToRest f a _

theorem Controls.standstillBackoff (f : F) (h : Controls F s t) (a : AxisNo) (k : Backoff) :
    Controls F s (t.standstillBackoff a k) := by
  have rests := h.modAx a (fun x => { x with backoff := some { k with rest := true } })
    (fun x => by exact { KeptAxis.refl x with })
  refine .ite ?_ rests
  split
  · exact rests.beginReverse f a _
  · exact rests.endBackoff f a
  · exact rests

/-! ### Drives, stalls, tests -/

theorem Controls.obstruct (h : Controls F s t) (a : AxisNo) (c : Cause) : Controls F s (t.obstruct a c) :=
  (h.raiseFault a _ _ _ _).passSince t

theorem Controls.stallStop (h : Controls F s t) (a : AxisNo) (o : MoveOutcome) : Controls F s (t.stallStop a o) :=
  (h.startStop a _ _).modAx a _ (fun x => by exact { KeptAxis.refl x with })

/-- An axis set at a bound is lawful, whatever it was: at rest on the bound, with no overrun and no lash left. -/
theorem setAtBound_lawful (law : PositionsLawful s) (a : AxisNo) (d : Dir) : PositionsLawful (s.setAtBound a d) :=
  law.modAx a _ (fun lx => by
    obtain ⟨-, -, -, lash, -⟩ := lx
    refine ⟨by simp, by simp, by simp, fun c hc => ⟨(lash c hc).1, .inl (Nat.zero_le _)⟩, fun c p hc hp => ?_⟩
    have travel : s.travel a = c.travel := by
      simp only at hc
      simp [State.travel, hc]
    rw [travel] at hp
    cases hp
    exact ⟨by cases d <;> simp [boundAt], Nat.zero_le _, fun h => absurd h (Nat.lt_irrefl 0)⟩)

theorem resync_lawful (law : PositionsLawful s) (a : AxisNo) (d : Dir) : PositionsLawful (s.resync a d) := by
  have h := setAtBound_lawful law a d
  unfold State.resync
  dsimp only
  split
  · exact h
  · exact h.of_axes (report_axes _ _)

theorem homeAt_lawful (law : PositionsLawful s) (a : AxisNo) (d : Dir) : PositionsLawful (s.homeAt a d) := by
  have h := (setAtBound_lawful law a d).placesKept
    (.modAx _ a (fun x => { x with stalled := true }) (fun x => by exact { SamePlace.refl x with }))
  unfold State.homeAt
  exact h.of_axes (report_axes _ _)

theorem handOn_lawful (law : PositionsLawful s) (a : AxisNo) (old : Option Nat) : PositionsLawful (s.handOn a old) :=
  law.placesKept ((Controls.refl (F := True) s).handOn trivial a old).placesKept

theorem stallDriving_lawful (law : PositionsLawful s) (a : AxisNo) : PositionsLawful (s.stallDriving a) := by
  have c := Controls.refl (F := False) s
  have stopped (o : MoveOutcome) := law.placesKept (c.stallStop a o).placesKept
  unfold State.stallDriving
  dsimp only
  split
  · exact handOn_lawful (homeAt_lawful (stopped _) a _) a _
  · split
    · split
      · exact handOn_lawful (resync_lawful (stopped _) a _) a _
      · exact law.placesKept (c.obstruct a _).placesKept
    · exact stopped _

theorem stallReversing_lawful (law : PositionsLawful s) (a : AxisNo) : PositionsLawful (s.stallReversing a) := by
  have c := Controls.refl (F := False) s
  have ended := law.placesKept ((c.cutBackoff a .coast).passSince s).placesKept
  unfold State.stallReversing
  dsimp only
  split
  · split
    · exact handOn_lawful (resync_lawful ended a _) a _
    · exact law.placesKept (c.obstruct a _).placesKept
  · exact ended

theorem pulseEnd_placesKept (a : AxisNo) (n : Nat) (s : State) : PlacesKept s (pulseEnd a n s) := by
  have c := Controls.refl (F := False) s
  unfold pulseEnd
  split
  · next k _ _ =>
    split
    · have second := c.modAx a (fun x =>
        { x with driveDir := .low, check := some { k with pulse := some .low, peakHigh := n } })
        (fun x => by exact { KeptAxis.refl x with })
      dsimp only
      split
      · exact ((second.blockGang a _ _).passSince _).placesKept
      · exact second.placesKept
    · exact ((c.modAx a (fun x => { x with check := some { k with pulse := none, peakLow := n } })
        (fun x => by exact { KeptAxis.refl x with })).startStop a _ _).placesKept
    · exact .refl s
  · exact .refl s

end Standstill

/-! ### Counts -/

theorem SamePlace.ite {c : Prop} [Decidable c] {x y z : Axis} (h : SamePlace x y) (k : SamePlace x z) :
    SamePlace x (if c then y else z) := by
  split
  · exact h
  · exact k

theorem handCount_placesKept (s : State) (a : AxisNo) (d : Dir) : PlacesKept s (s.handCount a d) :=
  .ite (.modAx s a _ (fun x => by exact { SamePlace.refl x with })) (.refl s)

theorem searchCount_placesKept (s : State) (a : AxisNo) (d : Dir) : PlacesKept s (s.searchCount a d) :=
  .ite (.modAx s a _ (fun x => by exact { SamePlace.refl x with })) (.refl s)

theorem rampCount_placesKept (s : State) (a : AxisNo) (d : Dir) : PlacesKept s (s.rampCount a d) :=
  .modAx s a _ (fun x => by
    split
    · exact { SamePlace.refl x with }
    · exact .refl x)

theorem backoffCount_placesKept (s : State) (a : AxisNo) (d : Dir) (old : Option Nat) :
    PlacesKept s (s.backoffCount a d old) := by
  unfold State.backoffCount
  dsimp only
  split
  · refine .ite (.modAx s a _ (fun x => .ite ?_ ?_)) (.refl s)
    all_goals exact { SamePlace.refl x with }
  · exact .refl s

theorem noStop_placesKept (s : State) (a : AxisNo) : PlacesKept s (s.modAx a (fun x => { x with noStop := true })) :=
  .modAx s a _ (fun x => by exact { SamePlace.refl x with })

theorem checkSearch_placesKept (s : State) (a : AxisNo) : PlacesKept s (s.checkSearch a) :=
  .ite ((noStop_placesKept s a).controls
    ((((Controls.refl (F := True) _).raiseFault a _ _ _ _).suspect trivial a _).passSince s)) (.refl s)

theorem overrunLimit_placesKept (s : State) (a : AxisNo) (d : Dir) : PlacesKept s (s.overrunLimit a d) :=
  .ite (.refl s) (.ite (.ite (.refl s) ((noStop_placesKept s a).controls
    ((((Controls.refl (F := True) _).raiseFault a _ _ _ _).suspect trivial a _).passSince s)))
    ((Controls.refl (F := True) s).suspect trivial a _).placesKept)

/-- The lash state after a count holds no more than the lash (R8). -/
theorem countLash_le {lash rem : Nat} (dir d : Dir) (h : rem ≤ lash) : (countLash lash dir rem d).1 ≤ lash := by
  unfold countLash
  dsimp only
  repeat' split
  all_goals
    dsimp only
    omega

/-- A counted position stays within the travel, and overrun grows at a bound only, up to the end zone (R9). -/
theorem countPos_moved {travel zone p o q r : Nat} {d : Dir} (h : countPos travel zone p o d = .moved q r) (hp : p ≤ travel)
    (ho : o ≤ zone) (hb : 0 < o → p = 0 ∨ p = travel) : q ≤ travel ∧ r ≤ zone ∧ (0 < r → q = 0 ∨ q = travel) := by
  cases d <;>
  · simp only [countPos, countBeyond] at h
    repeat' split at h
    all_goals
      cases h
      try omega

theorem PositionLaw.lashed {x : Axis} (law : PositionLaw x) {c : AxisConfig} {p : Nat} (hc : x.config = some c)
    (hp : x.pos = some p) (d : Dir) :
    PositionLaw { x with lashDir := d, lashRem := (countLash c.lash x.lashDir x.lashRem d).1 } := by
  obtain ⟨ref, noPos, lash, within, bounds⟩ := law
  have known : x.ref ≠ .unknown := ref.mp (by simp [hp])
  obtain ⟨top, loaded⟩ := within c hc
  have fits := countLash_le x.lashDir d (loaded.resolve_right known)
  refine ⟨ref, noPos, ?_, fun e he => ?_, bounds⟩
  · show (countLash c.lash x.lashDir x.lashRem d).1 ≤ 63
    omega
  · cases hc.symm.trans he
    exact ⟨top, .inl fits⟩

theorem PositionLaw.counted {x : Axis} (law : PositionLaw x) {c : AxisConfig} {p q o : Nat} {d : Dir} (hc : x.config = some c)
    (hp : x.pos = some p) (h : countPos c.travel c.endZone p x.overrun d = .moved q o) :
    PositionLaw { x with pos := some q, overrun := o } := by
  obtain ⟨ref, -, lash, within, bounds⟩ := law
  obtain ⟨top, zone, bound⟩ := bounds c p hc hp
  have moved := countPos_moved h top zone bound
  have known : x.ref ≠ .unknown := ref.mp (by simp [hp])
  refine ⟨by simp [known], by simp, lash, within, fun e r he hr => ?_⟩
  cases hc.symm.trans he
  cases hr
  exact moved

theorem applyCount_lawful {s : State} (law : PositionsLawful s) (a : AxisNo) (d : Dir) :
    PositionsLawful (s.applyCount a d) := by
  unfold State.applyCount
  dsimp only
  split
  · next c p hc hp =>
    have lashed := law.modAx a (fun x =>
      { x with lashDir := d, lashRem := (countLash c.lash (s.ax a).lashDir (s.ax a).lashRem d).1 })
      (fun lx => lx.lashed hc hp d)
    split
    · split
      · next q o moved =>
        have counted := lashed.modAx a (fun x => { x with pos := some q, overrun := o })
          (fun lx => lx.counted (by simpa using hc) (by simpa using hp) (by simpa using moved))
        split
        · exact counted
        · exact counted.placesKept ((Controls.refl (F := True) _).positionChange trivial a _ _).placesKept
      · exact lashed.placesKept (overrunLimit_placesKept _ a d)
    · exact lashed
  · exact law

theorem count_lawful {s : State} (law : PositionsLawful s) (a : AxisNo) (d : Dir) : PositionsLawful (s.count a d) := by
  have taken := law.placesKept (((handCount_placesKept s a d).trans (searchCount_placesKept _ a d)).trans
    (rampCount_placesKept _ a d))
  have counted := (applyCount_lawful taken a d).placesKept
    ((checkSearch_placesKept _ a).trans (backoffCount_placesKept _ a d (s.ax a).pos))
  unfold State.count
  dsimp only
  split
  · exact counted.placesKept ((Controls.refl (F := False) _).advance a).placesKept
  · exact counted

theorem illegalEdge_placesKept (s : State) (a : AxisNo) : PlacesKept s (s.illegalEdge a) :=
  (PlacesKept.modAx s a _ (fun x => by exact { SamePlace.refl x with })).controls
    ((Controls.refl (F := True) _).suspect trivial a _)

theorem wakeByHand_axes (s : State) : s.wakeByHand.axes = s.axes := by
  unfold State.wakeByHand
  split
  · split
    · exact wakeBy_axes s _
    · rfl
  · rfl

theorem hallEffect_lawful {s : State} (law : PositionsLawful s) (a : AxisNo) (step : HallStep) :
    PositionsLawful (hallEffect a step s) := by
  unfold hallEffect
  split
  · split
    · exact count_lawful (law.of_axes (wakeByHand_axes s)) a _
    · exact law.placesKept (illegalEdge_placesKept s a)
  · exact law

end Sys2Proof.Safety

/-! ### The other events -/

namespace Sys2Proof.Safety

open Sys2Proof.Machine Sys2Proof.Laws

section Events

variable {F : Prop} {s t : State}

theorem Controls.pauseActive (h : Controls F s t) (r : RunnerNo) (w : Reason) : Controls F s (t.pauseActive r w) := by
  unfold State.pauseActive
  split
  · exact h.pauseFor r w
  · exact h.pauseFor r w
  all_goals exact h

theorem Controls.endLinkOp (h : Controls F s t) (a : AxisNo) (o : MoveOutcome) : Controls F s (t.endLinkOp a o) := by
  unfold State.endLinkOp
  split
  · exact h
  · exact h
  · exact .ite h ((h.modOp a _).stopAll _ _)

theorem Controls.endLinkOps (h : Controls F s t) (which : LinkOp → Bool) (o : MoveOutcome) :
    Controls F s (t.endLinkOps which o) :=
  h.foldl _ _ (fun u a hu => by
    split
    · exact hu
    · exact .ite (hu.endLinkOp a o) hu)

theorem Channel.closed_retired {c : Channel} (h : c.state ≠ .retired) : c.state = .retired → c.closed.state = .retired :=
  fun r => absurd r h

theorem Controls.channelsClose (h : Controls F s t) (as : List AxisNo) : Controls F s (t.channelsClose as) :=
  h.foldl as _ (fun u a hu => by
    split
    · exact hu
    · next c e => exact hu.setCh c _ (Channel.closed_retired (chanOf_not_retired e)))

theorem KeptAxis.clearReversed (x : Axis) : KeptAxis F x x.clearReversed := { KeptAxis.refl x with }

theorem Controls.engaged (f : F) (h : Controls F s t) (a : AxisNo) (as : List AxisNo) : Controls F s (t.engaged a as) := by
  have cleared := h.modAll as _ KeptAxis.clearReversed
  exact .ite ((h.channelsClose as).foldl _ _ (fun _ b hu => hu.enterChecking b))
    (.ite ((((cleared.releaseAll as).blockEntry as).passSince t).cameToRest f a _)
      ((cleared.channelsClose as).foldl _ _ (fun _ b hu => hu.enterDriving b)))

theorem disengaged_placesKept (s : State) (a : AxisNo) (as : List AxisNo) : PlacesKept s (s.disengaged a as) :=
  (concludeStop_placesKept s as).controls ((Controls.refl (F := True) _).cameToRest trivial a _)

theorem settleCloseEffect_placesKept (c : ChanNo) (s : State) : PlacesKept s (settleCloseEffect c s) := by
  unfold settleCloseEffect
  split
  · exact .ite (disengaged_placesKept s _ _) ((Controls.refl (F := True) s).engaged trivial _ _).placesKept
  · exact .refl s

theorem setCh_placesKept (s : State) (c : ChanNo) (x : Channel) : PlacesKept s (s.setCh c x) := .of_axes rfl

theorem settleOpenEffect_placesKept (c : ChanNo) (s : State) : PlacesKept s (settleOpenEffect c s) := by
  unfold settleOpenEffect
  dsimp only
  split
  · exact (setCh_placesKept s c _).controls (Controls.refl (F := False) _).grantPass
  · exact .ite (setCh_placesKept s c _) (.refl s)
  · exact .refl s

theorem shortResult_samePlace (x : Axis) : SamePlace x x.shortResult :=
  .ite { SamePlace.refl x with } (.refl x)

theorem shortTripEffect_placesKept (c : ChanNo) (s : State) : PlacesKept s (shortTripEffect c s) := by
  unfold shortTripEffect
  split
  · next a _ _ =>
    exact ((setCh_placesKept s c _).trans (.modAx _ a _ shortResult_samePlace)).controls
      (((Controls.refl (F := False) _).raiseFault a _ _ _ _).passSince s)
  · exact .refl s

theorem Controls.strand (h : Controls F s t) (c : ChanNo) : Controls F s (t.strand c) :=
  h.foldl _ _ (fun _ q hu => hu.raiseNoChannel q.axes c)

theorem cooldownEffect_placesKept (c : ChanNo) (s : State) : PlacesKept s (cooldownEffect c s) := by
  have k := Controls.refl (F := False) (s.setCh c (s.ch c).cooled)
  exact .ite (.ite ((setCh_placesKept s c _).controls ((k.strand c).passSince _))
    ((setCh_placesKept s c _).controls k.grantPass)) (.refl s)

theorem afterExpiryEffect_placesKept (r : RunnerNo) (i g : Nat) (s : State) : PlacesKept s (afterExpiryEffect r i g s) := by
  unfold afterExpiryEffect
  split
  · exact .refl s
  · exact .ite ((Controls.refl (F := False) s).setRun r _).placesKept (.refl s)

theorem timeoutEffect_placesKept (r : RunnerNo) (s : State) : PlacesKept s (timeoutEffect r s) := by
  unfold timeoutEffect
  split
  · exact .refl s
  · exact .ite ((Controls.refl (F := False) s).haltRunner r _).placesKept (.refl s)

theorem inhibitEffect_placesKept (level : Bool) (s : State) : PlacesKept s (inhibitEffect level s) := by
  have raised : PlacesKept s { s with inhibit := true } := .of_axes rfl
  exact .ite (.refl s) (.ite (raised.controls ((((Controls.refl (F := False) _).foldl allRunners _
    (fun _ r hu => hu.pauseActive r .inhibit)).endLinkOps _ _).passSince s)) (.of_axes rfl))

theorem lapseEffect_placesKept (s : State) : PlacesKept s (lapseEffect s) := by
  unfold lapseEffect
  split
  · have lapsed : PlacesKept s { s with link := { s.link with supervision := .lapsed } } := .of_axes rfl
    exact lapsed.controls ((((Controls.refl (F := False) _).foldl allRunners _
      (fun _ r hu => hu.pauseActive r .link)).endLinkOps _ _).passSince _)
  · exact .refl s
  · exact .refl s

theorem supplyChange_axes (s : State) (c : SupplyCause) : (s.supplyChange c).axes = s.axes := by
  unfold State.supplyChange
  split
  · rfl
  · exact supplyReport_axes s c

theorem sampleVoltage_placesKept (s : State) (mv : Nat) : PlacesKept s (s.sampleVoltage mv) := by
  have same : PlacesKept s { s with supply := bandSample s.supply mv } := .of_axes rfl
  exact .ite same ((same.trans (recompute_placesKept _)).trans (.of_axes (supplyChange_axes _ _)))

theorem sampleTemperature_placesKept (s : State) (n : Int) : PlacesKept s (s.sampleTemperature n) := by
  have same : PlacesKept s { s with supply := thermalSample s.supply n } := .of_axes rfl
  exact .ite same ((same.trans (recompute_placesKept _)).trans (.of_axes (supplyChange_axes _ _)))

theorem shareAsserted_placesKept (s : State) : PlacesKept s s.shareAsserted := by
  unfold State.shareAsserted
  dsimp only
  generalize hu : ({ s with supply := _ } : State) = u
  have same : PlacesKept s u := .of_axes (by rw [← hu])
  have revoked := same.controls (Controls.refl (F := False) u).revoke
  refine PlacesKept.trans ?_ (.of_axes (supplyReport_axes _ _))
  exact .ite (revoked.trans (.of_axes rfl)) revoked

theorem shareReleased_placesKept (s : State) : PlacesKept s s.shareReleased := by
  unfold State.shareReleased
  generalize hu : ({ s with supply := _ } : State) = u
  have same : PlacesKept s u := .of_axes (by rw [← hu])
  exact (same.trans (recompute_placesKept u)).trans (.of_axes (supplyReport_axes _ _))

theorem Controls.windowExpiry (a : AxisNo) (h : Controls F s t) : Controls F s (windowExpiry a t) := by
  unfold Machine.windowExpiry
  split
  · exact .ite ((h.endLinkOp a _).passSince t) h
  · exact h

theorem restEffect_placesKept (a : AxisNo) (s : State) : PlacesKept s (restEffect a s) :=
  .ite ((Controls.refl (F := False) s).closeEpisode a).placesKept
    (.modAx s a _ (fun x => by exact { SamePlace.refl x with }))

theorem enterSleep_axes (s : State) : s.enterSleep.axes = s.axes := by
  show (s.modChans Channel.ended).axes = s.axes
  exact modChans_axes s _

theorem takeNext_lawful (law : PositionsLawful s) : PositionsLawful s.takeNext := by
  unfold State.takeNext
  split
  · split
    · exact law
    · next f fs _ =>
      have same : PositionsLawful { s with link := { s.link with intake := fs } } := law.of_axes rfl
      exact takeFrame_lawful same f
  · exact law

theorem transmitEndEffect_lawful (law : PositionsLawful s) : PositionsLawful (transmitEndEffect s) := by
  unfold transmitEndEffect
  split
  · exact law
  · have idle : PositionsLawful { s with link := { s.link with tx := none } } := law.of_axes rfl
    dsimp only
    split
    · exact idle.of_axes (enterSleep_axes _)
    · exact takeNext_lawful (idle.of_axes (startTx_axes _))

theorem byteEffect_lawful (law : PositionsLawful s) (b : Byte) (e : Bool) : PositionsLawful (byteEffect b e s) := by
  have stored (rx : Rx) : PositionsLawful (s.setRx rx) := law.of_axes rfl
  have received : PositionsLawful (s.receive b e) := by
    unfold State.receive
    dsimp only
    split
    · exact stored _
    · split
      · exact stored _
      · next f _ => exact offerFrame_lawful (stored _) f _ (fun u hu => takeFrame_lawful hu f)
  unfold byteEffect
  split
  · exact law
  · exact law.of_axes (wakeBy_axes s _)
  all_goals exact received

/-! ### Time -/

theorem heatAxis_placesKept (s : State) (a : AxisNo) : PlacesKept s (s.heatAxis a) := by
  have closed : PlacesKept s (s.closeInterval a) :=
    (PlacesKept.modAx s a Axis.rampTick (fun x => by exact { SamePlace.refl x with })).trans
      (.modAx _ a _ (fun x => by exact { SamePlace.refl x with }))
  unfold State.heatAxis
  split
  · exact .refl s
  · dsimp only
    generalize s.closeInterval a = u at closed ⊢
    have counted : PlacesKept u { u with freeIndex := u.freeIndex + 1 } := .of_axes rfl
    refine PlacesKept.trans (PlacesKept.ite closed (closed.trans counted)) (.modAx _ a _ (fun x => ?_))
    exact { SamePlace.refl x with }

theorem Controls.raiseOverheats (h : Controls F s t) (b : State) : Controls F s (t.raiseOverheats b) :=
  (h.foldl _ _ (fun _ a hu => .ite (hu.raiseFault a _ _ _ _) hu)).passSince t

theorem openIntervals_placesKept (s : State) : PlacesKept s s.openIntervals :=
  .foldl s _ _ (fun t a => .modAx t a _ (fun x => by exact { SamePlace.refl x with }))

@[simp] theorem modRuns_axes (s : State) (f : Run → Run) : (s.modRuns f).axes = s.axes := rfl

theorem tickTimers_placesKept (s : State) : PlacesKept s s.tickTimers := by
  unfold State.tickTimers
  dsimp only
  generalize hr : s.modRuns Run.tick = r
  have runs : PlacesKept s r := .of_axes (by rw [← hr, modRuns_axes])
  have owners := runs.trans (.modAll r allAxes (fun x => { x with owner := x.owner.tick })
    (fun x => by exact { SamePlace.refl x with }))
  generalize r.modAll allAxes (fun x => { x with owner := x.owner.tick }) = u at owners ⊢
  have links : PlacesKept s (if u.power.state = .active then
      u.modAll allAxes (fun x => { x with link := x.link.map (BlockLink.tick (u.link.setup.blockTimeout * 1000)) })
      else u) :=
    .ite (owners.trans (.modAll _ _ _ (fun x => by exact { SamePlace.refl x with }))) owners
  generalize (if u.power.state = .active then _ else u) = v at links ⊢
  have cooled : PlacesKept v (v.modChans (fun c => { c with cooldown := c.cooldown.map (fun t => t - 10) })) :=
    .of_axes (modChans_axes v _)
  exact (links.trans cooled).trans (.of_axes rfl)

theorem tickSleep_axes (s : State) : s.tickSleep.axes = s.axes := by
  unfold State.tickSleep
  split
  · rfl
  · split <;> rfl

theorem heatTickEffect_placesKept (s : State) : PlacesKept s (heatTickEffect s) := by
  have ticked := (((PlacesKept.foldl s allAxes State.heatAxis heatAxis_placesKept).controls
    ((Controls.refl (F := False) _).raiseOverheats s)).trans (openIntervals_placesKept _)).trans (tickTimers_placesKept _)
  unfold heatTickEffect
  split
  · exact .refl s
  · exact .of_axes (tickSleep_axes s)
  all_goals exact ticked

/-! ### Wake -/

theorem wakeEffect_axes (w : WakeSource) (s : State) : (wakeEffect w s).axes = s.axes := by
  unfold wakeEffect
  split
  · exact wakeBy_axes s _
  · dsimp only
    split
    · exact wakeBy_axes _ _
    · rfl
  · split
    · exact wakeBy_axes s _
    · rfl

theorem credit_samePlace (n : Nat) (x : Axis) : SamePlace x (x.credit n) := { SamePlace.refl x with }

theorem wake_placesKept (s : State) (c : WakeCause) (o : SleepOpts) : PlacesKept s (s.wake c o) := by
  have credited := PlacesKept.modAll s allAxes _ (credit_samePlace s.power.sleepTime)
  unfold State.wake
  dsimp only
  generalize hu : (State.report _ (.wake c _ (some o))).supplyReport .wake = u
  have woken : PlacesKept s u := by
    rw [← hu]
    refine credited.trans (.of_axes ?_)
    rw [supplyReport_axes, report_axes]
  have suspected : Controls True u (if o.watch then u else u.suspectUnwatched) :=
    .ite (Controls.refl u) ((Controls.refl u).foldl _ _ (fun _ a hv => .ite (hv.suspect trivial a _) hv))
  exact woken.controls (suspected.foldl _ _ (fun _ a hv => .ite (hv.closeEpisode a) hv))

theorem wakeEndEffect_placesKept (s : State) : PlacesKept s (wakeEndEffect s) := by
  unfold wakeEndEffect
  split
  · exact wake_placesKept s _ _
  · exact .refl s

theorem initEndEffect_axes (s : State) : (initEndEffect s).axes = s.axes := by
  unfold initEndEffect
  split
  · rw [supplyReport_axes, report_axes]
  · rfl

end Events

end Sys2Proof.Safety

/-! ### Every step -/

namespace Sys2Proof.Proofs

open Sys2Proof.Machine Sys2Proof.Laws Sys2Proof.Safety

section Step

variable {s t : State}

/-- A request keeps the law: what its owner does with it is `takeRequest`. -/
theorem request_lawful (law : PositionsLawful s) (i : Instr) {f : Option Frame} {taken : State → State}
    (same : ∀ u, takeRequest i u = taken u) : PositionsLawful (s.offer f taken) :=
  offer_lawful law f taken (fun u hu => same u ▸ takeRequest_lawful hu i)

/-- An event that leaves every axis in its place keeps the law. -/
theorem event_placesKept_lawful (law : PositionsLawful s) {effect : State → State} (e : s.event effect = .next t)
    (h : PlacesKept s (effect s)) : PositionsLawful t := event_lawful law e (law.placesKept h)

/-- Every command keeps the position law. -/
theorem exec_lawful (law : PositionsLawful s) (i : Instr) (e : exec i s = .next t) : PositionsLawful t := by
  have c := Controls.refl (F := True) s
  cases i with
  | hallEdge a step => exact event_lawful law e (hallEffect_lawful law a step)
  | stall a =>
    unfold exec execStall at e
    refine event_lawful law e ?_
    split
    · split
      · exact stallDriving_lawful law a
      · exact stallReversing_lawful law a
    · exact law
  | byteReceived b fe => exact event_lawful law e (byteEffect_lawful law b fe)
  | transmitEnd => exact event_lawful law e (transmitEndEffect_lawful law)
  | interByteGap => exact event_placesKept_lawful law e (.ite (.of_axes rfl) (.refl s))
  | cadenceExpiry =>
    refine event_placesKept_lawful law e (.of_axes ?_)
    unfold cadenceEffect
    split
    · rfl
    · rw [report_axes]
  | supervisionLapse => exact event_placesKept_lawful law e (lapseEffect_placesKept s)
  | handMoveRest a => exact event_placesKept_lawful law e (restEffect_placesKept a s)
  | blankingEnd a =>
    unfold exec execBlankingEnd at e
    exact event_placesKept_lawful law e (c.modAx a _ (fun x => by exact { KeptAxis.refl x with })).placesKept
  | obstructionCurrent a => exact event_placesKept_lawful law e (Controls.ite (c.obstruct a _) c).placesKept
  | controlledStopRampEnd a =>
    unfold exec execControlledStopRampEnd at e
    exact event_placesKept_lawful law e (c.modAx a _ (fun x => by exact { KeptAxis.refl x with })).placesKept
  | standstill a =>
    unfold exec execStandstill at e
    refine event_placesKept_lawful law e ?_
    split
    · exact .ite (.refl s) (standstillStopping_placesKept s a _)
    · exact .ite (.refl s) (c.standstillBackoff trivial a _).placesKept
    · exact .refl s
  | checkPulseEnd a n => exact event_placesKept_lawful law e (pulseEnd_placesKept a n s)
  | escalation a =>
    exact event_placesKept_lawful law e (.ite (c.modAll _ _ (fun x => by exact { KeptAxis.refl x with })).placesKept
      (.refl s))
  | heatTick => exact event_placesKept_lawful law e (heatTickEffect_placesKept s)
  | jogWindowExpiry a => exact event_placesKept_lawful law e (c.windowExpiry a).placesKept
  | blockTimeout a =>
    unfold exec execBlockTimeout at e
    exact event_placesKept_lawful law e (c.blockExpires a).placesKept
  | settleCloseEnd n => exact event_placesKept_lawful law e (settleCloseEffect_placesKept n s)
  | settleOpenEnd n => exact event_placesKept_lawful law e (settleOpenEffect_placesKept n s)
  | shortTrip n => exact event_placesKept_lawful law e (shortTripEffect_placesKept n s)
  | cooldownEnd n => exact event_placesKept_lawful law e (cooldownEffect_placesKept n s)
  | afterDelayExpiry r m g => exact event_placesKept_lawful law e (afterExpiryEffect_placesKept r m g s)
  | runTimeout r => exact event_placesKept_lawful law e (timeoutEffect_placesKept r s)
  | runnerPaused r =>
    unfold exec execRunnerPaused at e
    exact event_placesKept_lawful law e (c.restRunner r).placesKept
  | haltingEnd r =>
    unfold exec execHaltingEnd at e
    exact event_placesKept_lawful law e (c.restRunner r).placesKept
  | supplySample mv n =>
    cases e
    exact law.placesKept (.ite (.refl s) (((sampleVoltage_placesKept s mv).trans (sampleTemperature_placesKept _ n)).trans
      (.settle _)))
  | shareReqChange level =>
    cases e
    refine law.placesKept (.ite (.refl s) ?_)
    have followed : PlacesKept s { s with supply := s.supply.follow level } := .of_axes rfl
    have changed : PlacesKept s (if level then s.shareAsserted else s.shareReleased) :=
      .ite (shareAsserted_placesKept s) (shareReleased_placesKept s)
    split
    · exact followed.trans (.settle _)
    · exact followed.trans (.settle _)
    all_goals exact changed.trans (.settle _)
  | shareYield => exact event_placesKept_lawful law e (.of_axes (yieldShare_axes s))
  | inhibitChange level => exact event_placesKept_lawful law e (inhibitEffect_placesKept level s)
  | idleDwellExpiry => exact event_placesKept_lawful law e (.ite (enterDoze_placesKept s) (.refl s))
  | driveStageReady =>
    have ready : PlacesKept s { s with power := { s.power with stage := .ready } } := .of_axes rfl
    exact event_placesKept_lawful law e (.ite (ready.controls (Controls.refl (F := False) _).grantPass) (.refl s))
  | sleepEntry => exact event_placesKept_lawful law e (.ite (.of_axes (enterSleep_axes s)) (.refl s))
  | wakeEvent w =>
    cases e
    exact (law.of_axes (wakeEffect_axes w s)).settle
  | wakeTimeEnd => exact event_placesKept_lawful law e (wakeEndEffect_placesKept s)
  | powerOnReset =>
    cases e
    exact positionsLawful_of_reset rfl
  | initEnd => exact event_placesKept_lawful law e (.of_axes (initEndEffect_axes s))
  | resettingComplete =>
    exact event_placesKept_lawful law e (fun a => (completeReset_measured s a).samePlace)
  | initStart =>
    cases e
    split
    · exact positionsLawful_of_reset rfl
    · exact law
  | unknownKind tag kind p =>
    cases e
    exact offer_lawful law _ _ (fun u hu => takeFrame_lawful hu _)
  | ident tag => cases e; exact request_lawful law (.ident tag) (fun _ => rfl)
  | status tag => cases e; exact request_lawful law (.status tag) (fun _ => rfl)
  | setup tag w c b d => cases e; exact request_lawful law (.setup tag w c b d) (fun _ => rfl)
  | reset tag => cases e; exact request_lawful law (.reset tag) (fun _ => rfl)
  | axisSet tag a args => cases e; exact request_lawful law (.axisSet tag a args) (fun _ => rfl)
  | axisGet tag a f => cases e; exact request_lawful law (.axisGet tag a f) (fun _ => rfl)
  | ack tag a => cases e; exact request_lawful law (.ack tag a) (fun _ => rfl)
  | jog tag a d m n => cases e; exact request_lawful law (.jog tag a d m n) (fun _ => rfl)
  | home tag a => cases e; exact request_lawful law (.home tag a) (fun _ => rfl)
  | check tag a => cases e; exact request_lawful law (.check tag a) (fun _ => rfl)
  | profileWrite tag b i v => cases e; exact request_lawful law (.profileWrite tag b i v) (fun _ => rfl)
  | profileRead tag b i => cases e; exact request_lawful law (.profileRead tag b i) (fun _ => rfl)
  | profileSwap tag => cases e; exact request_lawful law (.profileSwap tag) (fun _ => rfl)
  | scaleSet tag g f => cases e; exact request_lawful law (.scaleSet tag g f) (fun _ => rfl)
  | keepoutSet tag n p k => cases e; exact request_lawful law (.keepoutSet tag n p k) (fun _ => rfl)
  | keepoutGet tag n => cases e; exact request_lawful law (.keepoutGet tag n) (fun _ => rfl)
  | planWrite tag st n es => cases e; exact request_lawful law (.planWrite tag st n es) (fun _ => rfl)
  | planRead tag f n => cases e; exact request_lawful law (.planRead tag f n) (fun _ => rfl)
  | planDefine tag sl st l m t => cases e; exact request_lawful law (.planDefine tag sl st l m t) (fun _ => rfl)
  | run tag sl => cases e; exact request_lawful law (.run tag sl) (fun _ => rfl)
  | pause tag r => cases e; exact request_lawful law (.pause tag r) (fun _ => rfl)
  | resume tag r => cases e; exact request_lawful law (.resume tag r) (fun _ => rfl)
  | halt tag r => cases e; exact request_lawful law (.halt tag r) (fun _ => rfl)
  | mark tag m a => cases e; exact request_lawful law (.mark tag m a) (fun _ => rfl)
  | runGet tag r f => cases e; exact request_lawful law (.runGet tag r f) (fun _ => rfl)
  | budgetSet tag b => cases e; exact request_lawful law (.budgetSet tag b) (fun _ => rfl)
  | power tag m w h q => cases e; exact request_lawful law (.power tag m w h q) (fun _ => rfl)

end Step

/-- Settles O5: the queue's rest has the same axes, and every command keeps the law. -/
theorem positionsStayLawful : Obligations.PositionsStayLawful := by
  unfold Obligations.PositionsStayLawful
  intro s t law e
  unfold step at e
  split at e
  · cases e
    exact law
  · next i rest _ =>
    have same : PositionsLawful { s with pending := rest } := law.of_axes rfl
    exact exec_lawful same i e

end Sys2Proof.Proofs

/-! ### What settling keeps, and the reset values -/

namespace Sys2Proof.Proofs

open Sys2Proof.Machine Sys2Proof.Laws Sys2Proof.Safety

/-- Settles O3: control and the clocks keep all of it, the share handshake but for its own registers. -/
theorem settleKeepsWhatIsMeasured : Obligations.SettleKeepsWhatIsMeasured := by
  unfold Obligations.SettleKeepsWhatIsMeasured
  intro s awake
  by_cases held : s.power.inReset = true
  · rw [settle_held held]
    exact ⟨fun a => ⟨Measured.refl _, rfl⟩, rfl, rfl, rfl, rfl, rfl, rfl, rfl, rfl, rfl, rfl, rfl, rfl, rfl, rfl, rfl, rfl,
      fun _ h => h⟩
  · have axes (a : AxisNo) : Measured (s.ax a) (s.settle.ax a) ∧ (s.settle.ax a).ref = (s.ax a).ref :=
      ⟨settle_measured s a, settle_ref s a⟩
    have k := Controls.conclude (Controls.refl (F := False) s)
    rw [settle_other (by simpa using held) awake] at axes ⊢
    generalize s.engine.restRunners.concludeOps = u at k axes ⊢
    obtain ⟨m, l, shared, band, thermal, base, req, rx, intake, setup⟩ := yieldShare_kept u
    refine ⟨axes, ?_⟩
    simp only [clocks_store, clocks_entries, clocks_places, clocks_slots, clocks_inhibit, clocks_wakeLine, clocks_pending,
      clocks_rx, clocks_intake, clocks_setup, clocks_supply, clocks_sleepOpts, clocks_sleepTime, ch_congr (clocks_chans _)]
    rw [shared]
    have retired (c : ChanNo) : ({ u with supply := m, link := l } : State).ch c = u.ch c := rfl
    simp only [retired, band, thermal, base, req, rx, intake, setup]
    refine ⟨k.store, k.entries, k.places, k.slots, k.inhibit, k.wakeLine, k.pending, k.rx, k.intake, k.setup, ?_, ?_, ?_, ?_,
      k.sleepOpts, k.sleepTime, k.retired⟩ <;> rw [k.supply]

@[simp] theorem reset_ax (a : AxisNo) : State.reset.ax a = Axis.reset := ax_of_reset rfl a

@[simp] theorem reset_ch (c : ChanNo) : State.reset.ch c = Channel.reset := by
  simp [State.ch, State.reset]

@[simp] theorem reset_run (r : RunnerNo) : State.reset.run r = none := by
  simp [State.run, State.reset]

theorem reset_profile (k : Bank) (i : Fin 8) : State.reset.profile k i = Profile.default := by
  cases k <;> simp [State.profile, State.reset, Store.reset]

/-- The budget in use is read off the axes alone. -/
theorem inUse_congr {s t : State} (h : t.axes = s.axes) : t.inUse = s.inUse := by
  have same : t.ax = s.ax := funext (ax_congr h)
  simp only [State.inUse, State.draw, same]

/-- Nothing is charged after a reset: every axis is IDLE. -/
theorem reset_inUse : State.reset.inUse = 0 := by
  simp [State.inUse, Axis.charged, Axis.reset]

/-- Settles O2: the reset tables, read off the definition of the reset state. -/
theorem resetIsStartOfInit : Obligations.ResetIsStartOfInit := by
  unfold Obligations.ResetIsStartOfInit
  refine ⟨⟨⟨rfl, rfl, rfl, rfl, rfl, rfl⟩, fun a => ?_, reset_ch, rfl, reset_profile, rfl, fun g => ?_,
    ⟨rfl, rfl, rfl, rfl, rfl, rfl, rfl, rfl, rfl, rfl, reset_inUse⟩, fun n => ?_, fun i => ?_, fun k => ?_, rfl, reset_run, rfl,
    ⟨rfl, rfl, rfl, rfl, rfl, rfl, rfl, rfl, rfl⟩⟩, positionsLawful_of_reset rfl, rfl, Nat.zero_le _, Nat.zero_le _⟩
  · rw [reset_ax]
    exact ⟨rfl, rfl, rfl, rfl, rfl, rfl, rfl, rfl, rfl, rfl, rfl, rfl, rfl, rfl, rfl, rfl⟩
  · simp [State.reset, Store.reset]
  · simp [State.reset]
  · simp [State.reset]
  · simp [State.reset, Slot.undefined]

theorem offer_held {s : State} (h : s.power.inReset = true) (f : Option Frame) (taken : State → State) :
    s.offer f taken = s := by
  unfold State.offer
  simp [h]

theorem event_held {s : State} (h : s.power.inReset = true) (effect : State → State) : s.event effect = .next s := by
  unfold State.event
  simp [h]

theorem wakeBy_held {s : State} (h : s.power.inReset = true) (c : WakeCause) : s.wakeBy c = s := by
  unfold State.wakeBy
  simp [h]

/-- A part held in reset does nothing of a request or an event (R194). -/
theorem exec_held {s : State} (h : s.power.inReset = true) (c : Instr) (on : c ≠ .powerOnReset) (init : c ≠ .initStart)
    (line : ∀ l, c ≠ .wakeEvent (.line l)) : exec c s = .next s := by
  cases c with
  | powerOnReset => exact absurd rfl on
  | initStart => exact absurd rfl init
  | wakeEvent w =>
    cases w with
    | line l => exact absurd rfl (line l)
    | rxEdge => simp [exec, execWakeEvent, wakeEffect, wakeBy_held h, settle_held h]
    | hand => simp [exec, execWakeEvent, wakeEffect, wakeBy_held h, settle_held h]
  | supplySample mv n => simp [exec, execSupplySample, h]
  | shareReqChange l => simp [exec, execShareReqChange, h]
  | blankingEnd a => simp only [exec, execBlankingEnd, event_held h]
  | controlledStopRampEnd a => simp only [exec, execControlledStopRampEnd, event_held h]
  | standstill a => simp only [exec, execStandstill, event_held h]
  | blockTimeout a => simp only [exec, execBlockTimeout, event_held h]
  | runnerPaused r => simp only [exec, execRunnerPaused, event_held h]
  | haltingEnd r => simp only [exec, execHaltingEnd, event_held h]
  | byteReceived | interByteGap | transmitEnd | cadenceExpiry | supervisionLapse | hallEdge | handMoveRest | obstructionCurrent
  | stall | checkPulseEnd | escalation | heatTick | jogWindowExpiry | settleCloseEnd | settleOpenEnd | shortTrip | cooldownEnd
  | afterDelayExpiry | runTimeout | shareYield | inhibitChange | idleDwellExpiry | driveStageReady | sleepEntry | wakeTimeEnd
  | initEnd | resettingComplete => exact event_held h _
  | _ => exact congrArg Host.Outcome.next (offer_held h _ _)

/-- Settles O44: the three commands of the reset line read off their definitions, and what a part held in reset ignores. -/
theorem powerOnResetRestartsThePart : Obligations.PowerOnResetRestartsThePart := by
  unfold Obligations.PowerOnResetRestartsThePart
  refine ⟨⟨fun s => ⟨rfl, fun h => ?_, fun h => ?_⟩, fun s h init => ?_, fun s h init => ?_⟩, fun c s h => exec_held h c,
    fun l s h => ?_⟩
  · simp [exec, execInitStart, h, State.powerOn, State.reset]
  · simp [exec, execInitStart, h]
  · simp only [exec, execInitEnd, event_runs h, initEndEffect, if_pos init, State.supplyReport, report_supply]
    have use : (State.report { s with power := { s.power with state := .active } } (.wake .powerOn 0 none)).inUse = s.inUse :=
      inUse_congr (report_axes _ _)
    rw [use]
  · simp only [exec, execInitEnd, event_runs h, initEndEffect, if_neg init]
  · have still : State.settle { s with wakeLine := l } = { s with wakeLine := l } := settle_held h
    cases l
    · simp [exec, execWakeEvent, wakeEffect, still]
    · simp [exec, execWakeEvent, wakeEffect, wakeBy_held (s := { s with wakeLine := true }) h, still]

end Sys2Proof.Proofs

/-! ### What a listening part answers -/

namespace Sys2Proof.Laws

open Sys2Proof.Machine Sys2Proof.Safety

/-- A request that a listening part hears is taken at once. -/
theorem exec_listens {s : State} (h : Listens s) {c : Instr} {f : Frame} {taken : State → State}
    (e : exec c s = .next (s.offer (some f) taken)) : exec c s = .next (taken s.frameHeard).settle := by
  rw [e, offer_listens h]

/-- The answer of a listening part is what the taken request makes of the state that has heard the frame. -/
theorem exec_answers {s t : State} (h : Listens s) {c : Instr} {f : Frame} {taken : State → State}
    (e : exec c s = .next (s.offer (some f) taken)) (r : taken s.frameHeard = t) : exec c s = .next t.settle := by
  rw [exec_listens h e, r]

theorem dirOf_eq_none {b : Byte} : dirOf b = none ↔ 2 ≤ b.toNat := by
  rw [Option.eq_none_iff_forall_not_mem]
  simp only [Option.mem_def, dirOf_eq_some, not_and]
  constructor
  · intro h
    by_contra k
    exact h _ (by omega) rfl
  · omega

theorem flagOf_eq_none {b : Byte} : flagOf b = none ↔ 2 ≤ b.toNat := by
  rw [Option.eq_none_iff_forall_not_mem]
  simp only [Option.mem_def, flagOf_eq_some, not_and]
  constructor
  · intro h
    by_contra k
    exact h _ (by omega) rfl
  · omega

theorem bankOf_eq_none {b : Byte} : bankOf b = none ↔ 2 ≤ b.toNat := by
  have h0 := byte_eq_iff b 0 (by decide)
  have h1 := byte_eq_iff b 1 (by decide)
  have h : bankOf b = none ↔ b ≠ 0 ∧ b ≠ 1 := by
    unfold bankOf
    split <;> [skip; split] <;> simp_all
  exact h.trans (by simp only [ne_eq]; exact (and_congr (not_congr h0) (not_congr h1)).trans (by omega))

theorem inRange_eq_none {lo hi n : Nat} : inRange lo hi n = none ↔ n < lo ∨ hi < n := by
  unfold inRange
  split <;> simp <;> omega

end Sys2Proof.Laws

namespace Sys2Proof.Proofs

open Sys2Proof.Machine Sys2Proof.Laws Sys2Proof.Safety

/-- Settles O15: every refusal is one branch of its request, on a part that is not resetting. -/
theorem numbersOutOfRangeAreRefused : Obligations.NumbersOutOfRangeAreRefused := by
  unfold Obligations.NumbersOutOfRangeAreRefused
  refine ⟨fun tag n m s h => ?_, fun k b i => finOf_eq_some, fun b => ?_⟩
  · have awake := resetting_listens h
    refine ⟨fun out => ?axis, fun out => ?profile, fun out => ?scale, fun out => ?entry, fun out => ?slot, fun out => ?runner,
      fun out => ?mark⟩
    case axis =>
      have none := finOf_eq_none.mpr out
      exact ⟨fun args => exec_answers h rfl (by simp [axisSetTaken, State.refuse, awake, none]),
        fun f => exec_answers h rfl (by simp [axisGetTaken, State.refuse, awake, none]),
        exec_answers h rfl (by simp [ackTaken, State.refuse, awake, none]),
        fun d k w => exec_answers h rfl (by simp [jogTaken, State.refuse, awake, none]),
        exec_answers h rfl (by simp [homeTaken, State.refuse, awake, none]),
        exec_answers h rfl (by simp [checkTaken, State.refuse, awake, none])⟩
    case profile =>
      rw [← bankOf_eq_none, ← finOf_eq_none (k := 8)] at out
      refine ⟨exec_answers h rfl ?_, fun v => exec_answers h rfl ?_⟩
      · rcases out with none | none <;> simp [profileReadTaken, State.refuse, awake, none]
      · rcases out with none | none <;> simp [profileWriteTaken, State.refuse, awake, none]
    case scale =>
      rw [← finOf_eq_none (k := 3), ← inRange_eq_none] at out
      refine exec_answers h rfl ?_
      rcases out with none | none <;> simp [scaleSetTaken, State.refuse, awake, none]
    case entry =>
      have none := finOf_eq_none.mpr out
      exact ⟨exec_answers h rfl (by simp [keepoutGetTaken, State.refuse, awake, none]),
        fun p k => exec_answers h rfl (by simp [keepoutSetTaken, State.refuse, awake, none])⟩
    case slot =>
      have none := finOf_eq_none.mpr out
      exact ⟨exec_answers h rfl (by simp [planReadTaken, State.refuse, awake, none]),
        exec_answers h rfl (by simp [runTaken, State.refuse, awake, none]),
        fun st l k t => exec_answers h rfl (by simp [planDefineTaken, State.refuse, awake, none])⟩
    case runner =>
      have none := finOf_eq_none.mpr out
      exact ⟨exec_answers h rfl (by simp [pauseTaken, State.refuse, awake, none]),
        exec_answers h rfl (by simp [resumeTaken, State.refuse, awake, none]),
        exec_answers h rfl (by simp [haltTaken, State.refuse, awake, none]),
        fun f => exec_answers h rfl (by simp [runGetTaken, State.refuse, awake, none])⟩
    case mark =>
      rw [← finOf_eq_none (k := 8), ← flagOf_eq_none] at out
      refine exec_answers h rfl ?_
      rcases out with none | none <;> simp [markTaken, State.refuse, awake, none]
  · unfold dirOf bankOf
    by_cases zero : b = 0
    · simp [zero]
    · by_cases one : b = 1
      · simp [one]
      · simp only [zero, one, if_false, reduceCtorEq, and_self]

end Sys2Proof.Proofs

/-! ### The checks of the requests for one axis -/

namespace Sys2Proof.Laws

open Sys2Proof.Machine Sys2Proof.Safety

@[simp] theorem firstFailure_nil : firstFailure [] = none := rfl

@[simp] theorem firstFailure_cons (fails : Bool) (r : Result) (rest : List (Bool × Result)) :
    firstFailure ((fails, r) :: rest) = if fails then some r else firstFailure rest := rfl

theorem usable_iff (s : State) (a : AxisNo) :
    s.usable a = true ↔ (s.ax a).config ≠ none ∧ s.gangPending a = false := by
  simp [State.usable, Option.isSome_iff_ne_none]

/-- A check that fails where some member of a list fails passes where every member passes. -/
theorem firstFailure_any {α : Type} (l : List α) (fails : α → Bool) (good : α → Prop)
    [Decidable (∀ a ∈ l, good a)] (h : ∀ a, fails a = false ↔ good a) (r : Result) (rest : List (Bool × Result)) :
    firstFailure ((l.any fails, r) :: rest) = if ∀ a ∈ l, good a then firstFailure rest else some r := by
  have e : l.any fails = false ↔ ∀ a ∈ l, good a := by
    simp [List.any_eq_false, ← h]
  rw [firstFailure_cons]
  by_cases k : ∀ a ∈ l, good a
  · rw [if_pos k, e.mpr k]
    rfl
  · rw [if_neg k, if_pos (by simpa using mt e.mp k)]

theorem owned_eq_false (x : Axis) : x.owned = false ↔ x.owner = .none := by
  simp [Axis.owned]

/-- The last checks of R15, as the conditions that they test. -/
theorem lateChecks_eq (s : State) (a : AxisNo) : firstFailure (s.lateChecks a) =
    if ∀ b ∈ s.members a, (s.ax b).motion ≠ .fault then
      if ∀ b ∈ s.members a, (s.ax b).lockout = false then
        if s.reachable (s.members a) = false then some .noChannel else none
      else some .lockedOut
    else some .faultPending := by
  unfold State.lateChecks
  rw [firstFailure_any _ _ (fun b => (s.ax b).motion ≠ .fault) (by simp),
    firstFailure_any _ _ (fun b => (s.ax b).lockout = false) (by simp)]
  simp

/-- The check on the owner, before the last checks. -/
theorem ownChecks_eq (s : State) (a : AxisNo) :
    firstFailure (((s.members a).any (fun b => (s.ax b).owned), .claimed) :: s.lateChecks a) =
      if ∀ b ∈ s.members a, (s.ax b).owner = .none then firstFailure (s.lateChecks a) else some .claimed :=
  firstFailure_any _ _ _ (fun b => owned_eq_false (s.ax b)) _ _

/-- The checks of HOME and CHECK in their order (R15). -/
theorem directChecks_eq (s : State) (a : AxisNo) : s.directChecks a =
    if (s.ax a).config ≠ none ∧ s.gangPending a = false then
      if s.inhibit = true then some .inhibited
      else if ∀ b ∈ s.members a, (s.ax b).owner = .none then firstFailure (s.lateChecks a) else some .claimed
    else some .notConfigured := by
  unfold State.directChecks
  rw [firstFailure_cons, firstFailure_cons, ownChecks_eq]
  by_cases usable : (s.ax a).config ≠ none ∧ s.gangPending a = false
  · simp [if_pos usable, (usable_iff s a).mpr usable]
  · rw [if_neg usable, if_pos (by simpa using mt (usable_iff s a).mp usable)]

theorem homing_iff (x : Axis) : x.homing = true ↔ ∃ op, x.owner = .link op ∧ op.kind = .home := by
  unfold Axis.homing
  cases x.owner <;> simp

theorem reevaluateCreep_eq (s : State) (as : List AxisNo) : s.reevaluateCreep as =
    if ∀ b ∈ as, (s.ax b).ref = .valid then s else
      s.modAll as (fun x => { x with move := x.move.map (fun m => { m with forcedCreep := true }) }) := by
  unfold State.reevaluateCreep
  by_cases h : ∀ b ∈ as, (s.ax b).ref = .valid
  · rw [if_pos h, if_neg (by simpa using h)]
  · rw [if_neg h, if_pos (by simpa using h)]

end Sys2Proof.Laws

namespace Sys2Proof.Proofs

open Sys2Proof.Machine Sys2Proof.Laws Sys2Proof.Safety

section

variable {tag axis : Byte} {u : State} {a : AxisNo} {r : Result}

theorem homeTaken_fails (awake : u.resetting = false) (named : finOf 12 axis = some a) (fails : u.directChecks a = some r) :
    homeTaken tag axis u = u.reply 0x14 tag r [] := by
  simp [homeTaken, State.refuse, awake, named, fails]

theorem homeTaken_passes (awake : u.resetting = false) (named : finOf 12 axis = some a) (passes : u.directChecks a = none) :
    homeTaken tag axis u = (u.startHome a).reply 0x14 tag .ok [] := by
  simp [homeTaken, awake, named, passes]

theorem checkTaken_fails (awake : u.resetting = false) (named : finOf 12 axis = some a) (fails : u.directChecks a = some r) :
    checkTaken tag axis u = u.reply 0x15 tag r [] := by
  simp [checkTaken, State.refuse, awake, named, fails]

theorem checkTaken_passes (awake : u.resetting = false) (named : finOf 12 axis = some a)
    (passes : u.directChecks a = none) : checkTaken tag axis u = (u.startCheck a).reply 0x15 tag .ok [] := by
  simp [checkTaken, awake, named, passes]

end

/-- A HOME or CHECK that fails a check is answered by the refusal of that check. -/
theorem home_check_refused {tag axis : Byte} {s : State} {a : AxisNo} {r : Result} (h : Listens s)
    (named : finOf 12 axis = some a) (fails : s.frameHeard.directChecks a = some r) {c : Instr} {k : Byte}
    (request : (c = .home tag axis ∧ k = 0x14) ∨ (c = .check tag axis ∧ k = 0x15)) :
    exec c s = .next (State.settle (s.frameHeard.reply k tag r [])) := by
  have awake := resetting_listens h
  rcases request with ⟨rfl, rfl⟩ | ⟨rfl, rfl⟩
  · exact exec_answers h rfl (homeTaken_fails awake named fails)
  · exact exec_answers h rfl (checkTaken_fails awake named fails)

/-- Settles O22: the checks in their order, then the start of the operation. -/
theorem homeAndCheckBegin : Obligations.HomeAndCheckBegin := by
  unfold Obligations.HomeAndCheckBegin
  refine ⟨fun tag axis s a h named => ?_, homing_iff, fun s as a target endFlag priority k => reevaluateCreep_eq _ as⟩
  have awake := resetting_listens h
  have passes (usable : (s.frameHeard.ax a).config ≠ none ∧ s.frameHeard.gangPending a = false)
      (on : s.frameHeard.inhibit = false) (free : ∀ b ∈ s.frameHeard.members a, (s.frameHeard.ax b).owner = .none)
      (sound : ∀ b ∈ s.frameHeard.members a, (s.frameHeard.ax b).motion ≠ .fault)
      (cool : ∀ b ∈ s.frameHeard.members a, (s.frameHeard.ax b).lockout = false)
      (near : s.frameHeard.reachable (s.frameHeard.members a) = true) : s.frameHeard.directChecks a = none := by
    rw [directChecks_eq, if_pos usable, if_neg (by simp [on]), if_pos free, lateChecks_eq, if_pos sound, if_pos cool,
      if_neg (by simp [near])]
  refine ⟨fun c k request => ?_, fun usable on free sound cool near c config => ?_, fun usable on free sound cool near => ?_⟩
  · have refused {r : Result} (fails : s.frameHeard.directChecks a = some r) := home_check_refused h named fails request
    refine ⟨fun bare => refused ?_, fun usable off => refused ?_, fun usable on taken => refused ?_,
      fun usable on free broken => refused ?_, fun usable on free sound hot => refused ?_,
      fun usable on free sound cool far => refused ?_⟩
    · rw [directChecks_eq, if_neg bare]
    · rw [directChecks_eq, if_pos usable, if_pos off]
    · rw [directChecks_eq, if_pos usable, if_neg (by simp [on]), if_neg taken]
    · rw [directChecks_eq, if_pos usable, if_neg (by simp [on]), if_pos free, lateChecks_eq, if_neg broken]
    · rw [directChecks_eq, if_pos usable, if_neg (by simp [on]), if_pos free, lateChecks_eq, if_pos sound, if_neg hot]
    · rw [directChecks_eq, if_pos usable, if_neg (by simp [on]), if_pos free, lateChecks_eq, if_pos sound, if_pos cool,
        if_pos far]
  · refine exec_answers h rfl ?_
    rw [homeTaken_passes awake named (passes usable on free sound cool near)]
    simp only [State.startHome, State.travel, config, Option.map_some, Option.getD_some]
    rfl
  · refine exec_answers h rfl ?_
    exact checkTaken_passes awake named (passes usable on free sound cool near)

end Sys2Proof.Proofs

/-! ### JOG on an unowned axis -/

namespace Sys2Proof.Laws

open Sys2Proof.Machine Sys2Proof.Safety

/-- What a change of axes leaves alone on each axis, it leaves alone on all. -/
theorem modAll_keeps {α : Type} (g : Axis → α) (s : State) (as : List AxisNo) (f : Axis → Axis) (hf : ∀ x, g (f x) = g x)
    (b : AxisNo) : g ((s.modAll as f).ax b) = g (s.ax b) := by
  induction as generalizing s with
  | nil => rfl
  | cons a as ih =>
    rw [modAll_cons, ih, ax_modAx]
    split
    · next e => rw [e, hf]
    · rfl

theorem self_mem_members (s : State) (a : AxisNo) : a ∈ s.members a := by
  unfold State.members
  split
  · simp
  · split <;> simp

theorem within_iff (s : State) (as : List AxisNo) (target tolerance : Nat) : s.within as target tolerance = true ↔
    (∀ b ∈ as, (s.ax b).pos ≠ none) ∧ ∀ b ∈ as, ∀ q, (s.ax b).pos = some q → apart target q ≤ tolerance := by
  have one (b : AxisNo) : (match (s.ax b).pos with
      | some p => decide (apart target p ≤ tolerance)
      | none => false) = true ↔ (s.ax b).pos ≠ none ∧ ∀ q, (s.ax b).pos = some q → apart target q ≤ tolerance := by
    cases (s.ax b).pos <;> simp
  unfold State.within
  rw [List.all_eq_true]
  exact ⟨fun h => ⟨fun b m => ((one b).mp (h b m)).1, fun b m => ((one b).mp (h b m)).2⟩,
    fun h b m => (one b).mpr ⟨h.1 b m, h.2 b m⟩⟩

/-- Whether axes are within tolerance their positions alone say. -/
theorem within_congr {s t : State} {as : List AxisNo} (h : ∀ b, (t.ax b).pos = (s.ax b).pos) (target tolerance : Nat) :
    t.within as target tolerance = s.within as target tolerance := by
  simp only [State.within, h]

theorem jogMode_eq_some {mode : Byte} {n : Half} {counts : Option Nat} : jogMode mode n = some counts ↔
    (mode = 0 ∧ 1 ≤ n.toNat ∧ n.toNat ≤ 2000 ∧ counts = some n.toNat) ∨ (mode = 1 ∧ counts = none) := by
  unfold jogMode
  split
  · next zero =>
    subst zero
    simp only [Option.map_eq_some_iff, inRange_eq_some]
    constructor
    · rintro ⟨k, ⟨⟨lo, hi⟩, rfl⟩, rfl⟩
      exact .inl ⟨trivial, lo, hi, rfl⟩
    · rintro (⟨-, lo, hi, rfl⟩ | ⟨one, -⟩)
      · exact ⟨_, ⟨⟨lo, hi⟩, rfl⟩, rfl⟩
      · exact absurd one (by decide)
  · next zero =>
    split
    · next one => simp [one, eq_comm]
    · next one => simp only [zero, one, reduceCtorEq, false_and, or_self]

theorem jogMode_eq_none {mode : Byte} {n : Half} : jogMode mode n = none ↔
    2 ≤ mode.toNat ∨ (mode = 0 ∧ (n = 0 ∨ 2000 < n.toNat)) := by
  have m0 := byte_eq_iff mode 0 (by decide)
  have m1 := byte_eq_iff mode 1 (by decide)
  have n0 : n = 0 ↔ n.toNat = 0 := by
    rw [← BitVec.toNat_inj]
    rfl
  unfold jogMode
  split
  · next zero =>
    rw [Option.map_eq_none_iff, inRange_eq_none, n0]
    have := m0.mp zero
    constructor
    · exact fun h => .inr ⟨zero, by omega⟩
    · rintro (h | ⟨-, h⟩) <;> omega
  · next zero =>
    split
    · next one =>
      have := m1.mp one
      simp only [zero, reduceCtorEq, false_and, or_false, false_iff]
      omega
    · next one =>
      have := mt m0.mpr zero
      have := mt m1.mpr one
      simp only [zero, false_and, or_false, true_iff]
      omega

theorem jogOp_eq_some {x : Axis} {op : LinkOp} : x.jogOp = some op ↔ x.owner = .link op ∧ op.kind = .jog := by
  unfold Axis.jogOp
  cases x.owner with
  | none => simp
  | runner r => simp
  | link o =>
    by_cases k : o.kind = .jog
    · simp only [k, if_true, Option.some.injEq, Owner.link.injEq]
      exact ⟨fun e => ⟨e, e ▸ k⟩, fun e => e.1⟩
    · simp only [k, if_false, reduceCtorEq, Owner.link.injEq, false_iff]
      rintro ⟨rfl, j⟩
      exact k j

theorem jogOp_eq_none {x : Axis} : x.jogOp = none ↔ ∀ op, x.owner = .link op → op.kind ≠ .jog := by
  rw [Option.eq_none_iff_forall_not_mem]
  simp only [Option.mem_def, jogOp_eq_some, not_and]

/-- The checks of a JOG before its owner is examined (R49). -/
def jogChecks (s : State) (a : AxisNo) (counts : Option Nat) : Option Result :=
  firstFailure [
    (!s.usable a, .notConfigured),
    (counts.isSome && (s.members a).any (fun b => decide ((s.ax b).ref = .unknown)), .unreferenced),
    (s.inhibit, .inhibited)]

theorem jogChecks_eq (s : State) (a : AxisNo) (counts : Option Nat) : jogChecks s a counts =
    if (s.ax a).config ≠ none ∧ s.gangPending a = false then
      if counts ≠ none ∧ ∃ b ∈ s.members a, (s.ax b).ref = .unknown then some .unreferenced
      else if s.inhibit = true then some .inhibited else none
    else some .notConfigured := by
  have lost : (counts.isSome && (s.members a).any (fun b => decide ((s.ax b).ref = .unknown))) = true ↔
      counts ≠ none ∧ ∃ b ∈ s.members a, (s.ax b).ref = .unknown := by
    simp [Option.isSome_iff_ne_none]
  unfold jogChecks
  simp only [firstFailure_cons, firstFailure_nil, lost]
  by_cases usable : (s.ax a).config ≠ none ∧ s.gangPending a = false
  · simp [if_pos usable, (usable_iff s a).mpr usable]
  · rw [if_neg usable, if_pos (by simpa using mt (usable_iff s a).mp usable)]

section

variable {tag axis dir mode : Byte} {n : Half} {u : State} {a : AxisNo} {d : Dir} {counts : Option Nat} {r : Result}

theorem jogTaken_early (awake : u.resetting = false) (named : finOf 12 axis = some a) (toward : dirOf dir = some d)
    (by_mode : jogMode mode n = some counts) (fails : jogChecks u a counts = some r) :
    jogTaken tag axis dir mode n u = u.reply 0x13 tag r [] := by
  unfold jogChecks at fails
  simp only [jogTaken, State.refuse, awake, named, toward, by_mode, fails]
  simp

theorem jogTaken_late (awake : u.resetting = false) (named : finOf 12 axis = some a) (toward : dirOf dir = some d)
    (by_mode : jogMode mode n = some counts) (early : jogChecks u a counts = none) (other : (u.ax a).jogOp = none)
    (fails : firstFailure (((u.members a).any (fun b => (u.ax b).owned), .claimed) :: u.lateChecks a) = some r) :
    jogTaken tag axis dir mode n u = u.reply 0x13 tag r [] := by
  unfold jogChecks at early
  simp only [jogTaken, State.refuse, awake, named, toward, by_mode, early, other, fails]
  simp

theorem jogTaken_starts (awake : u.resetting = false) (named : finOf 12 axis = some a) (toward : dirOf dir = some d)
    (by_mode : jogMode mode n = some counts) (early : jogChecks u a counts = none) (other : (u.ax a).jogOp = none)
    (late : firstFailure (((u.members a).any (fun b => (u.ax b).owned), .claimed) :: u.lateChecks a) = none) :
    jogTaken tag axis dir mode n u = (u.startJog a d counts).reply 0x13 tag .ok [] := by
  unfold jogChecks at early
  simp only [jogTaken, awake, named, toward, by_mode, early, other, late]
  simp

end

/-- The start of a COUNTS jog: within tolerance already, or a latched move (R49). -/
theorem startJog_counts (s : State) (a : AxisNo) (d : Dir) (k : Nat) : s.startJog a d (some k) =
    if s.within (s.members a) (s.jogTarget a d (some k)).1 (s.profile s.store.active 0).tolerance then
      (s.linkOwns a .jog false d none).tellOutcome a .already []
    else ((s.linkOwns a .jog false d none).latch (s.members a) a (s.jogTarget a d (some k)).1 false 3 0).startOrBlock
      (s.members a) := by
  have same (b : AxisNo) : ((s.linkOwns a .jog false d none).ax b).pos = (s.ax b).pos :=
    modAll_keeps Axis.pos s _ (fun x => { x with owner := .link ⟨.jog, a, false, d, none, none⟩, search := 0 }) (fun _ => rfl) b
  have profile (v : State) (h : v.store = s.store) : v.profile v.store.active 0 = s.profile s.store.active 0 := by
    simp only [State.profile, h]
  have flag : (s.jogTarget a d (some k)).2 = false := rfl
  unfold State.startJog
  simp only [jogWindowOf, Option.isNone_some, Bool.false_eq_true, if_false, within_congr same,
    profile (s.linkOwns a .jog false d none) (modAll_store s _ _), flag, Bool.not_false, Bool.true_and]

end Sys2Proof.Laws

namespace Sys2Proof.Proofs

open Sys2Proof.Machine Sys2Proof.Laws Sys2Proof.Safety

/-- Settles O23: the checks in their order, then the two modes. -/
theorem jogBegins : Obligations.JogBegins := by
  unfold Obligations.JogBegins
  refine ⟨fun tag axis dir mode n s h bad => ?_, fun tag axis dir mode n s a d counts h named toward by_mode => ?_⟩
  · have awake := resetting_listens h
    rw [← jogMode_eq_none, ← dirOf_eq_none] at bad
    refine exec_answers h rfl ?_
    rcases bad with bad | bad <;> simp [jogTaken, State.refuse, awake, bad]
  · have awake := resetting_listens h
    replace toward : dirOf dir = some d := by
      rcases toward with ⟨rfl, rfl⟩ | ⟨rfl, rfl⟩ <;> rfl
    have by_mode' := jogMode_eq_some.mpr by_mode
    dsimp only
    have early {r : Result} (fails : jogChecks s.frameHeard a counts = some r) :
        exec (.jog tag axis dir mode n) s = .next (State.settle (s.frameHeard.reply 0x13 tag r [])) :=
      exec_answers h rfl (jogTaken_early awake named toward by_mode' fails)
    have unowned (free : ∀ b ∈ s.frameHeard.members a, (s.frameHeard.ax b).owner = .none) :
        (s.frameHeard.ax a).jogOp = none := jogOp_eq_none.mpr (by simp [free a (self_mem_members _ a)])
    have started (usable : (s.frameHeard.ax a).config ≠ none ∧ s.frameHeard.gangPending a = false)
        (known : ¬ (counts ≠ none ∧ ∃ b ∈ s.frameHeard.members a, (s.frameHeard.ax b).ref = .unknown))
        (on : s.frameHeard.inhibit = false) (free : ∀ b ∈ s.frameHeard.members a, (s.frameHeard.ax b).owner = .none)
        (sound : ∀ b ∈ s.frameHeard.members a, (s.frameHeard.ax b).motion ≠ .fault)
        (cool : ∀ b ∈ s.frameHeard.members a, (s.frameHeard.ax b).lockout = false)
        (near : s.frameHeard.reachable (s.frameHeard.members a) = true) :
        jogTaken tag axis dir mode n s.frameHeard = (s.frameHeard.startJog a d counts).reply 0x13 tag .ok [] := by
      refine jogTaken_starts awake named toward by_mode' ?_ (unowned free) ?_
      · rw [jogChecks_eq, if_pos usable, if_neg known, if_neg (by simp [on])]
      · rw [ownChecks_eq, if_pos free, lateChecks_eq, if_pos sound, if_pos cool, if_neg (by simp [near])]
    refine ⟨fun bare => early ?_, fun usable lost => early ?_, fun usable known off => early ?_,
      fun usable known on other taken => ?_, fun usable known on free => ?_, ?_, ?_⟩
    · rw [jogChecks_eq, if_neg bare]
    · rw [jogChecks_eq, if_pos usable, if_pos lost]
    · rw [jogChecks_eq, if_pos usable, if_neg known, if_pos off]
    · refine exec_answers h rfl (jogTaken_late awake named toward by_mode' ?_ (jogOp_eq_none.mpr other) ?_)
      · rw [jogChecks_eq, if_pos usable, if_neg known, if_neg (by simp [on])]
      · rw [ownChecks_eq, if_neg (by simpa using taken)]
    · have passed : jogChecks s.frameHeard a counts = none := by
        rw [jogChecks_eq, if_pos usable, if_neg known, if_neg (by simp [on])]
      have late {r : Result} (fails : firstFailure (s.frameHeard.lateChecks a) = some r) :
          exec (.jog tag axis dir mode n) s = .next (State.settle (s.frameHeard.reply 0x13 tag r [])) :=
        exec_answers h rfl (jogTaken_late awake named toward by_mode' passed (unowned free)
          (by rw [ownChecks_eq, if_pos free, fails]))
      refine ⟨fun broken => late ?_, fun sound hot => late ?_, fun sound cool far => late ?_⟩
      · rw [lateChecks_eq, if_neg (by simpa using broken)]
      · rw [lateChecks_eq, if_pos sound, if_neg (by simpa using hot)]
      · rw [lateChecks_eq, if_pos sound, if_pos cool, if_pos far]
    · rintro ⟨usable, known, on, free, sound, cool, near⟩ k rfl
      have starts := started usable known on free sound cool near
      rw [startJog_counts] at starts
      have inside := within_iff s.frameHeard (s.frameHeard.members a) (s.frameHeard.jogTarget a d (some k)).1
        (s.frameHeard.profile s.frameHeard.store.active 0).tolerance
      refine ⟨fun reached => ?_, fun beyond => ?_⟩
      · rw [if_pos (inside.mpr reached)] at starts
        exact exec_answers h rfl starts
      · rw [if_neg (mt inside.mp beyond)] at starts
        exact exec_answers h rfl starts
    · rintro ⟨usable, known, on, free, sound, cool, near⟩ rfl
      exact exec_answers h rfl (started usable known on free sound cool near)

end Sys2Proof.Proofs

/-! ### The choice of channels -/

namespace Sys2Proof.Laws

open Sys2Proof.Machine Sys2Proof.Safety

/-- The first channel with a property is the lowest-numbered one. -/
theorem find_allChans {p : ChanNo → Bool} {c : ChanNo} :
    allChans.find? p = some c ↔ p c = true ∧ ∀ d, d < c → p d = false := by
  have e : allChans = List.finRange 4 := by decide
  rw [e, ← Fin.find?_eq_find?_finRange, Fin.find?_eq_some_iff]

theorem find_allChans_isSome {p : ChanNo → Bool} : (allChans.find? p).isSome = true ↔ ∃ c, p c = true := by
  simp [List.find?_isSome, mem_allChans]

/-- The lowest channel of the reach that is admitted (R92). -/
theorem pickChan_eq_some {reach : BitVec 4} {ok : ChanNo → Bool} {c : ChanNo} : pickChan reach ok = some c ↔
    reach.getLsbD c.val = true ∧ ok c = true ∧ ∀ d : ChanNo, d < c → ¬ (reach.getLsbD d.val = true ∧ ok d = true) := by
  simp [pickChan, find_allChans, reaches, and_assoc]

theorem pickChan_isSome {reach : BitVec 4} {ok : ChanNo → Bool} :
    (pickChan reach ok).isSome = true ↔ ∃ c : ChanNo, reach.getLsbD c.val = true ∧ ok c = true := by
  simp only [pickChan, find_allChans_isSome, reaches, Bool.and_eq_true]

/-- The lowest channel that leaves another one to the partner, and the partner's lowest other one (R92). -/
theorem pickPair_eq_some {ra rb : BitVec 4} {ok : ChanNo → Bool} {c d : ChanNo} : pickPair ra rb ok = some (c, d) ↔
    ra.getLsbD c.val = true ∧ ok c = true ∧ pickChan rb (fun e => ok e && e != c) = some d ∧
    ∀ e : ChanNo, e < c →
      ¬ (ra.getLsbD e.val = true ∧ ok e = true ∧ (pickChan rb (fun g => ok g && g != e)).isSome = true) := by
  have first (x : ChanNo) :
      allChans.find? (fun c => reaches ra c && ok c && (pickChan rb (fun d => ok d && d != c)).isSome) = some x ↔
      (ra.getLsbD x.val = true ∧ ok x = true ∧ (pickChan rb (fun d => ok d && d != x)).isSome = true) ∧
      ∀ e : ChanNo, e < x →
        ¬ (ra.getLsbD e.val = true ∧ ok e = true ∧ (pickChan rb (fun g => ok g && g != e)).isSome = true) := by
    simp only [find_allChans, reaches, Bool.and_eq_true, and_assoc, Bool.eq_false_iff, ne_eq]
  unfold pickPair
  split
  · next none =>
    simp only [reduceCtorEq, false_iff]
    rintro ⟨reach, admitted, second, lowest⟩
    have := (first c).mpr ⟨⟨reach, admitted, by simp [second]⟩, lowest⟩
    simp [none] at this
  · next x found =>
    obtain ⟨⟨reach, admitted, -⟩, lowest⟩ := (first x).mp found
    simp only [Option.map_eq_some_iff, Prod.mk.injEq]
    constructor
    · rintro ⟨y, second, rfl, rfl⟩
      exact ⟨reach, admitted, second, lowest⟩
    · rintro ⟨reach', admitted', second, lowest'⟩
      have same : x = c := by
        have := (first c).mpr ⟨⟨reach', admitted', by simp [second]⟩, lowest'⟩
        rw [found] at this
        exact Option.some.inj this
      subst same
      exact ⟨d, second, rfl, rfl⟩

/-- A pair exists where two different channels are admitted, one in each reach. -/
theorem pickPair_isSome {ra rb : BitVec 4} {ok : ChanNo → Bool} : (pickPair ra rb ok).isSome = true ↔
    ∃ i j : ChanNo, i ≠ j ∧ (ra.getLsbD i.val = true ∧ ok i = true) ∧ rb.getLsbD j.val = true ∧ ok j = true := by
  have second (c : ChanNo) : (pickChan rb (fun d => ok d && d != c)).isSome = true ↔
      ∃ j : ChanNo, c ≠ j ∧ rb.getLsbD j.val = true ∧ ok j = true := by
    simp only [pickChan_isSome, Bool.and_eq_true, bne_iff_ne]
    exact ⟨fun ⟨j, b, k, n⟩ => ⟨j, Ne.symm n, b, k⟩, fun ⟨j, n, b, k⟩ => ⟨j, b, k, Ne.symm n⟩⟩
  have first := @find_allChans_isSome (fun c => reaches ra c && ok c && (pickChan rb (fun d => ok d && d != c)).isSome)
  simp only [Bool.and_eq_true, second, reaches] at first
  have whole : (pickPair ra rb ok).isSome = true ↔
      (allChans.find? (fun c => reaches ra c && ok c && (pickChan rb (fun d => ok d && d != c)).isSome)).isSome = true := by
    unfold pickPair
    split
    · next none => simp [none]
    · next c found =>
      obtain ⟨⟨-, some⟩, -⟩ := by simpa only [find_allChans, Bool.and_eq_true] using found
      simp [found, some]
  rw [whole]
  simp only [reaches] at first ⊢
  rw [first]
  exact ⟨fun ⟨i, own, j, ne, other⟩ => ⟨i, j, ne, own, other⟩, fun ⟨i, j, ne, own, other⟩ => ⟨i, own, j, ne, other⟩⟩

end Sys2Proof.Laws

/-! ### AXIS_SET -/

namespace Sys2Proof.Laws

open Sys2Proof.Machine Sys2Proof.Safety

/-! #### Gangs -/

theorem names_eq_some {s : State} {a b : AxisNo} :
    s.names a = some b ↔ ∃ c, (s.ax a).config = some c ∧ c.partner = some b := Option.bind_eq_some_iff

theorem partner_eq_some {s : State} {a b : AxisNo} : s.partner a = some b ↔ s.names a = some b ∧ s.names b = some a := by
  unfold State.partner
  cases h : s.names a with
  | none => simp
  | some c =>
    by_cases k : s.names c = some a
    · simp only [k, if_true, Option.some.injEq]
      exact ⟨fun e => ⟨e, e ▸ k⟩, fun e => e.1⟩
    · simp only [k, if_false, reduceCtorEq, Option.some.injEq, false_iff]
      rintro ⟨rfl, e⟩
      exact k e

theorem gangPending_iff {s : State} {a : AxisNo} :
    s.gangPending a = true ↔ (∃ d, s.names a = some d) ∧ ∀ d, s.names a = some d → s.names d ≠ some a := by
  have alone : s.partner a = none ↔ ∀ d, s.names a = some d → s.names d ≠ some a := by
    rw [Option.eq_none_iff_forall_not_mem]
    simp only [Option.mem_def, partner_eq_some, not_and, ne_eq]
  simp only [State.gangPending, Bool.and_eq_true, Option.isNone_iff_eq_none, alone, Option.isSome_iff_exists]

theorem members_alone {s : State} {a : AxisNo} (h : s.partner a = none) : s.members a = [a] := by
  simp [State.members, h]

theorem members_gang {s : State} {a b : AxisNo} (h : s.partner a = some b) :
    s.members a = if a < b then [a, b] else [b, a] := by
  simp [State.members, h]

/-! #### The checks -/

theorem pairs_iff {s : State} {a : AxisNo} {c : AxisConfig} : s.pairs a c = true ↔
    ∀ b d, c.partner = some b → (s.ax b).config = some d → d.partner ≠ none →
      d.partner = some a ∧ c.travel = d.travel ∧ c.refEnd = d.refEnd ∧
        ∃ i j : ChanNo, i ≠ j ∧ c.reach.getLsbD i.val = true ∧ d.reach.getLsbD j.val = true := by
  unfold State.pairs
  cases hb : c.partner with
  | none => simp
  | some b =>
    cases hd : (s.ax b).config with
    | none =>
      simp only [hd, true_iff, Option.some.injEq]
      rintro b' d rfl stored
      simp [hd] at stored
    | some d =>
      cases hp : d.partner with
      | none =>
        simp only [hd, hp, true_iff, Option.some.injEq]
        rintro b' d' rfl stored paired
        rw [hd, Option.some.injEq] at stored
        exact absurd (stored ▸ hp) paired
      | some p =>
        simp only [hd, hp, Bool.and_eq_true, decide_eq_true_eq, pickPair_isSome, and_true, and_assoc, Option.some.injEq]
        constructor
        · rintro ⟨rfl, travel, refEnd, pair⟩ b' d' rfl stored -
          rw [hd, Option.some.injEq] at stored
          subst stored
          exact ⟨hp, travel, refEnd, pair⟩
        · intro h
          obtain ⟨back, rest⟩ := h b d rfl hd (by simp [hp])
          rw [hp, Option.some.injEq] at back
          exact ⟨back, rest⟩

theorem not_forall_mem {α : Type} {l : List α} {p : α → Prop} (h : ∃ b ∈ l, ¬ p b) : ¬ ∀ b ∈ l, p b := by
  obtain ⟨b, m, n⟩ := h
  exact fun k => n (k b m)

theorem mem_allEntries (n : EntryNo) : n ∈ allEntries := by
  revert n
  decide

theorem keepoutFits_iff {s : State} {a : AxisNo} {travel : Nat} : s.keepoutFits a travel = true ↔
    ∀ (n : EntryNo) (e : KeepoutEntry), s.entries[n] = some e →
      (e.axisA = a → e.hiA ≤ travel) ∧ (e.axisA ≠ a → e.axisB = a → e.hiB ≤ travel) := by
  have one (e : KeepoutEntry) : (!(e.names a && decide (travel < (e.region a).2))) = true ↔
      (e.axisA = a → e.hiA ≤ travel) ∧ (e.axisA ≠ a → e.axisB = a → e.hiB ≤ travel) := by
    by_cases first : e.axisA = a <;> by_cases second : e.axisB = a <;>
      simp [KeepoutEntry.names, KeepoutEntry.region, first, second]
  unfold State.keepoutFits
  rw [List.all_eq_true]
  constructor
  · intro h n e stored
    have := h n (mem_allEntries n)
    rw [stored] at this
    exact (one e).mp this
  · intro h n _
    cases stored : s.entries[n] with
    | none => rfl
    | some e => exact (one e).mpr (h n e stored)

theorem gateBeyond_iff {a : AxisNo} {travel : Nat} {g : Gate} :
    gateBeyond a travel g = true ↔ ∃ p, travel < p ∧ (g = .whenGe a p ∨ g = .whenLe a p) := by
  cases g with
  | whenGe b p =>
    simp only [gateBeyond, Bool.and_eq_true, decide_eq_true_eq, Gate.whenGe.injEq, reduceCtorEq, or_false]
    exact ⟨fun ⟨e, l⟩ => ⟨p, l, e, rfl⟩, fun ⟨q, l, e, f⟩ => ⟨e, f ▸ l⟩⟩
  | whenLe b p =>
    simp only [gateBeyond, Bool.and_eq_true, decide_eq_true_eq, Gate.whenLe.injEq, reduceCtorEq, false_or]
    exact ⟨fun ⟨e, l⟩ => ⟨p, l, e, rfl⟩, fun ⟨q, l, e, f⟩ => ⟨e, f ▸ l⟩⟩
  | after i n => simp [gateBeyond]
  | mark m => simp [gateBeyond]

theorem moveEntry_eq_some {s : State} {run : Run} {i : Nat} {e : PlanEntry} :
    s.moveEntry run i = some e ↔ s.places[s.slots[run.slot].start + i]? = some (some e) := by
  unfold State.moveEntry
  cases s.places[s.slots[run.slot].start + i]? <;> simp

theorem gatesFit_iff {s : State} {a : AxisNo} {travel : Nat} : s.gatesFit a travel = true ↔
    ∀ (r : RunnerNo) (run : Run) (i : Nat) (e : PlanEntry) (p : Nat), s.run r = some run →
      i < run.moves.length → s.places[s.slots[run.slot].start + i]? = some (some e) →
      (.whenGe a p ∈ e.gates ∨ .whenLe a p ∈ e.gates) → p ≤ travel := by
  have entry (e : PlanEntry) : e.gates.all (fun g => !gateBeyond a travel g) = true ↔
      ∀ p, (.whenGe a p ∈ e.gates ∨ .whenLe a p ∈ e.gates) → p ≤ travel := by
    simp only [List.all_eq_true, Bool.not_eq_true', ← Bool.not_eq_true, gateBeyond_iff]
    constructor
    · rintro h p (m | m) <;> by_contra beyond
      · exact h _ m ⟨p, by omega, .inl rfl⟩
      · exact h _ m ⟨p, by omega, .inr rfl⟩
    · rintro h g m ⟨p, beyond, rfl | rfl⟩
      · have := h p (.inl m)
        omega
      · have := h p (.inr m)
        omega
  unfold State.gatesFit
  rw [List.all_eq_true]
  constructor
  · intro h r run i e p runs lt placed
    have := h r (mem_allRunners r)
    rw [runs] at this
    have := List.all_eq_true.mp this i (List.mem_range.mpr lt)
    rw [moveEntry_eq_some.mpr placed] at this
    exact (entry e).mp this p
  · intro h r _
    cases runs : s.run r with
    | none => rfl
    | some run =>
      refine List.all_eq_true.mpr (fun i m => ?_)
      cases placed : s.moveEntry run i with
      | none => rfl
      | some e =>
        exact (entry e).mpr (fun p => h r run i e p runs (List.mem_range.mp m) (moveEntry_eq_some.mp placed))

/-- What a record to be taken must fit beside the axes that it concerns: its partner, the keep-out entries, the plans that
run (R2, R4). -/
def RecordFits (s : State) (a : AxisNo) (c : AxisConfig) : Prop :=
  s.pairs a c = true ∧ s.keepoutFits a c.travel = true ∧ s.gatesFit a c.travel = true

theorem recordFits_iff {s : State} {a : AxisNo} {c : AxisConfig} : RecordFits s a c ↔
    (∀ b d, c.partner = some b → (s.ax b).config = some d → d.partner ≠ none →
      d.partner = some a ∧ c.travel = d.travel ∧ c.refEnd = d.refEnd ∧
        ∃ i j : ChanNo, i ≠ j ∧ c.reach.getLsbD i.val = true ∧ d.reach.getLsbD j.val = true) ∧
    (∀ (n : EntryNo) (e : KeepoutEntry), s.entries[n] = some e →
      (e.axisA = a → e.hiA ≤ c.travel) ∧ (e.axisA ≠ a → e.axisB = a → e.hiB ≤ c.travel)) ∧
    ∀ (r : RunnerNo) (run : Run) (i : Nat) (e : PlanEntry) (p : Nat), s.run r = some run →
      i < run.moves.length → s.places[s.slots[run.slot].start + i]? = some (some e) →
      (.whenGe a p ∈ e.gates ∨ .whenLe a p ∈ e.gates) → p ≤ c.travel :=
  and_congr pairs_iff (and_congr keepoutFits_iff gatesFit_iff)

/-- The checks of an AXIS_SET after its record (R1). -/
def axisSetChecks (s : State) (a : AxisNo) (c : AxisConfig) : Option Result :=
  firstFailure [
    ((s.ax a).owned, .claimed),
    (decide ((s.ax a).motion ≠ .idle), .busy),
    ((s.otherAxes a c).any (fun b => (s.ax b).owned), .claimed),
    ((s.otherAxes a c).any (fun b => decide ((s.ax b).motion ≠ .idle)), .busy),
    (!s.pairs a c, .badArg),
    (!(s.keepoutFits a c.travel && s.gatesFit a c.travel), .badArg)]

open Classical in
theorem axisSetChecks_eq (s : State) (a : AxisNo) (c : AxisConfig) : axisSetChecks s a c =
    if (s.ax a).owner = .none then
      if (s.ax a).motion = .idle then
        if ∀ b ∈ s.otherAxes a c, (s.ax b).owner = .none then
          if ∀ b ∈ s.otherAxes a c, (s.ax b).motion = .idle then
            if RecordFits s a c then none else some .badArg
          else some .busy
        else some .claimed
      else some .busy
    else some .claimed := by
  have last : firstFailure [(!s.pairs a c, .badArg), (!(s.keepoutFits a c.travel && s.gatesFit a c.travel), .badArg)] =
      if RecordFits s a c then none else some .badArg := by
    unfold RecordFits
    cases s.pairs a c <;> cases s.keepoutFits a c.travel <;> cases s.gatesFit a c.travel <;> simp
  unfold axisSetChecks
  rw [firstFailure_cons, firstFailure_cons, firstFailure_any _ _ _ (fun b => owned_eq_false (s.ax b)),
    firstFailure_any _ _ (fun b => (s.ax b).motion = .idle) (by simp), last]
  by_cases free : (s.ax a).owner = .none
  · rw [(owned_eq_false _).mpr free, if_pos free]
    simp
  · rw [if_neg free, if_pos (by simpa using mt (owned_eq_false _).mp free)]

section

variable {tag axis : Byte} {args : AxisArgs} {u : State} {a : AxisNo} {c : AxisConfig} {r : Result}

theorem axisSetTaken_fails (awake : u.resetting = false) (named : finOf 12 axis = some a) (record : configOf a args = some c)
    (fails : axisSetChecks u a c = some r) : axisSetTaken tag axis args u = u.reply 0x10 tag r [] := by
  unfold axisSetChecks at fails
  simp only [axisSetTaken, State.refuse, awake, named, record, fails]
  simp

theorem axisSetTaken_passes (awake : u.resetting = false) (named : finOf 12 axis = some a)
    (record : configOf a args = some c) (passes : axisSetChecks u a c = none) :
    axisSetTaken tag axis args u = (u.setConfig a c).reply 0x10 tag .ok [] := by
  unfold axisSetChecks at passes
  simp only [axisSetTaken, awake, named, record, passes]
  simp

end

/-! #### The new record -/

/-- An axis with a new record, its heat and lockout under the record's heat limit (R3, R48). -/
def withRecord (x : Axis) (c : AxisConfig) : Axis :=
  { x with
    config := some c, heat := min x.heat (c.heatLimit * 10000),
    lockout := if c.heatLimit * 10000 ≤ x.heat then true
      else x.lockout && !decide (x.heat * 100 ≤ c.heatLimit * 10000 * 60) }

theorem newHeatLimit_eq (x : Axis) (c : AxisConfig) :
    { x.newHeatLimit c.heatLimit with config := some c } = withRecord x c := by
  unfold Axis.newHeatLimit withRecord lockoutAfter heatUnits
  split
  · next hot => simp [Nat.min_eq_right hot]
  · next cool => simp [Nat.min_eq_left (Nat.le_of_not_le cool)]

/-- The new record and the old one have the same travel and the same reference end. -/
def SamePath (x : Axis) (c : AxisConfig) : Prop := ∃ o, x.config = some o ∧ o.travel = c.travel ∧ o.refEnd = c.refEnd

theorem samePath_iff {x : Axis} {c : AxisConfig} : SamePath x c ↔
    x.config.map AxisConfig.travel = some c.travel ∧ x.config.map AxisConfig.refEnd = some c.refEnd := by
  unfold SamePath
  cases x.config <;> simp

section

variable {s : State} {a : AxisNo} {c : AxisConfig}

theorem setConfig_eq : s.setConfig a c = (s.setAx a (withRecord (s.ax a) c)).reposition a (s.ax a).config c := by
  unfold State.setConfig
  rw [modAx_eq, newHeatLimit_eq]

theorem setConfig_keeps (same : SamePath (s.ax a) c) (fits : (s.ax a).overrun ≤ c.endZone) :
    s.setConfig a c = s.setAx a { withRecord (s.ax a) c with lashRem := min (s.ax a).lashRem c.lash } := by
  have within : ¬ c.endZone < (withRecord (s.ax a) c).overrun := Nat.not_lt.mpr fits
  rw [setConfig_eq]
  unfold State.reposition
  simp only [if_pos (samePath_iff.mp same), ax_setAx_self, if_neg within, modAx_eq, setAx_setAx]
  rfl

theorem setConfig_cuts (same : SamePath (s.ax a) c) (cut : c.endZone < (s.ax a).overrun) :
    s.setConfig a c = (s.setAx a { withRecord (s.ax a) c with
      lashRem := min (s.ax a).lashRem c.lash, overrun := c.endZone }).suspect a .overrun := by
  have beyond : c.endZone < (withRecord (s.ax a) c).overrun := cut
  rw [setConfig_eq]
  unfold State.reposition
  simp only [if_pos (samePath_iff.mp same), ax_setAx_self, if_pos beyond, modAx_eq, setAx_setAx]
  rfl

theorem setConfig_loses (other : ¬ SamePath (s.ax a) c) : s.setConfig a c =
    let x := s.ax a
    let v := s.setAx a { withRecord x c with ref := .unknown, pos := none, overrun := 0 }
    let v := if x.ref = .unknown then v else v.report (.reference a x.ref .unknown .config none)
    if x.pos = none then v else v.positionChange a x.pos false := by
  have handed (t : State) (lost : (t.ax a).pos = none) :
      t.handOn a (s.ax a).pos = if (s.ax a).pos = none then t else t.positionChange a (s.ax a).pos false := by
    simp only [State.handOn, lost, eq_comm]
  rw [setConfig_eq]
  unfold State.reposition
  simp only [if_neg (mt samePath_iff.mpr other), ax_setAx_self, modAx_eq, setAx_setAx]
  refine handed _ ?_
  split
  · rw [ax_setAx_self]
  · rw [report_ax, ax_setAx_self]

end

end Sys2Proof.Laws

namespace Sys2Proof.Proofs

open Sys2Proof.Machine Sys2Proof.Laws Sys2Proof.Safety

/-- Settles O19: the checks in their order, then the new record in its three cases; the pairing by its definition. -/
theorem axisSetReplacesTheRecord : Obligations.AxisSetReplacesTheRecord := by
  unfold Obligations.AxisSetReplacesTheRecord
  refine ⟨fun tag axis args s a h named => ?_, fun s a b => ?_, fun s a b => names_eq_some⟩
  · have awake := resetting_listens h
    refine ⟨fun bad => exec_answers h rfl ?_, fun c record => ?_⟩
    · simp [axisSetTaken, State.refuse, awake, named, bad]
    have refused {r : Result} (fails : axisSetChecks s.frameHeard a c = some r) :
        exec (.axisSet tag axis args) s = .next (State.settle (s.frameHeard.reply 0x10 tag r [])) :=
      exec_answers h rfl (axisSetTaken_fails awake named record fails)
    have taken (free : (s.frameHeard.ax a).owner = .none) (idle : (s.frameHeard.ax a).motion = .idle)
        (others : ∀ b ∈ s.frameHeard.otherAxes a c, (s.frameHeard.ax b).owner = .none ∧ (s.frameHeard.ax b).motion = .idle)
        (fits : RecordFits s.frameHeard a c) :
        axisSetTaken tag axis args s.frameHeard = (s.frameHeard.setConfig a c).reply 0x10 tag .ok [] := by
      refine axisSetTaken_passes awake named record ?_
      rw [axisSetChecks_eq, if_pos free, if_pos idle, if_pos (fun b m => (others b m).1), if_pos (fun b m => (others b m).2),
        if_pos fits]
    have others_eq : (s.frameHeard.partner a).toList ++ c.partner.toList = s.frameHeard.otherAxes a c := rfl
    simp only [others_eq]
    refine ⟨fun owned => refused ?_, fun free moving => refused ?_, fun free idle owned => refused ?_,
      fun free idle freed moving => refused ?_, fun free idle others misfit => refused ?_,
      fun free idle others fits same within => exec_answers h rfl ?_,
      fun free idle others fits same beyond => exec_answers h rfl ?_,
      fun free idle others fits other => exec_answers h rfl ?_⟩
    · rw [axisSetChecks_eq, if_neg owned]
    · rw [axisSetChecks_eq, if_pos free, if_neg moving]
    · rw [axisSetChecks_eq, if_pos free, if_pos idle, if_neg (not_forall_mem owned)]
    · rw [axisSetChecks_eq, if_pos free, if_pos idle, if_pos freed, if_neg (not_forall_mem moving)]
    · rw [axisSetChecks_eq, if_pos free, if_pos idle, if_pos (fun b m => (others b m).1), if_pos (fun b m => (others b m).2),
        if_neg (mt recordFits_iff.mp misfit)]
    · rw [taken free idle others (recordFits_iff.mpr fits), setConfig_keeps same within]
      rfl
    · rw [taken free idle others (recordFits_iff.mpr fits), setConfig_cuts same beyond]
      rfl
    · rw [taken free idle others (recordFits_iff.mpr fits), setConfig_loses other]
      rfl
  · simp only [← names_eq_some]
    refine ⟨partner_eq_some, gangPending_iff, fun c d ha hb => ?_, members_alone, members_gang⟩
    simp [State.skewLimit, ha, hb]

end Sys2Proof.Proofs

/-! ### Snapshots: AXIS_GET and RUN_GET -/

namespace Sys2Proof.Laws

open Sys2Proof.Machine Sys2Proof.Safety

/-! #### The lengths of byte forms -/

@[simp] theorem length_b1 (n : Nat) : (b1 n).length = 1 := rfl
@[simp] theorem length_b2 (n : Nat) : (b2 n).length = 2 := rfl
@[simp] theorem length_b4 (n : Nat) : (b4 n).length = 4 := rfl
@[simp] theorem length_bInt (i : Int) : (bInt i).length = 2 := rfl
@[simp] theorem length_bFlag (b : Bool) : (bFlag b).length = 1 := by cases b <;> rfl
@[simp] theorem length_bOpt1 (o : Option Nat) : (bOpt1 o).length = 1 := by cases o <;> rfl
@[simp] theorem length_bOpt2 (o : Option Nat) : (bOpt2 o).length = 2 := by cases o <;> rfl

@[simp] theorem length_configBytes (c : AxisConfig) : c.bytes.length = 30 := by
  unfold AxisConfig.bytes
  split <;> simp

@[simp] theorem length_gangBytes (s : State) (a : AxisNo) : (s.gangBytes a).length = 3 := by
  unfold State.gangBytes
  split <;> rfl

@[simp] theorem length_ownerBytes (t : OwnerTag) : t.bytes.length = 3 := by
  cases t <;> simp [OwnerTag.bytes]

@[simp] theorem length_moveBytes (m : Option MoveRec) : (moveBytes m).length = 6 := by
  cases m <;> rfl

@[simp] theorem length_causeBytes (c : Cause) : c.bytes.length = 2 := by
  cases c <;> simp [Cause.bytes]

@[simp] theorem length_faultBytes (f : Option FaultRec) : (faultBytes f).length = 9 := by
  cases f <;> simp [faultBytes]

@[simp] theorem length_linkBytes (l : Option BlockLink) : (linkBytes l).length = 3 := by
  cases l <;> rfl

@[simp] theorem length_episodeBytes (e : Option Episode) : (episodeBytes e).length = 3 := by
  cases e <;> rfl

theorem length_configReply (s : State) (a : AxisNo) : (s.configReply a).length = 34 := by
  unfold State.configReply
  split <;> simp [noConfigBytes]

theorem length_runtimeReply (s : State) (a : AxisNo) : (s.runtimeReply a).length = 40 := by
  simp [State.runtimeReply]

theorem length_summary (run : Run) : run.summary.length = 18 := by
  have fault : (firstFaultBytes run.firstFault).length = 3 := by cases run.firstFault <;> rfl
  have plan : (planErrorBytes run.planError).length = 3 := by cases run.planError <;> rfl
  simp [Run.summary, fault, plan]

/-! #### The runner record -/

/-- The records that fit are a run of whole records from the first one, as long as the room allows. -/
theorem fitMoves_eq (room : Nat) (ms : List RunMove) :
    let k := (fitMoves room ms).1
    k ≤ ms.length ∧ (fitMoves room ms).2 = (ms.take k).flatMap RunMove.bytes ∧
      ((ms.take k).flatMap RunMove.bytes).length ≤ room ∧
      (k < ms.length → room < ((ms.take (k + 1)).flatMap RunMove.bytes).length) := by
  induction ms generalizing room with
  | nil => simp [fitMoves]
  | cons m ms ih =>
    by_cases fits : m.bytes.length ≤ room
    · obtain ⟨few, bytes, short, long⟩ := ih (room - m.bytes.length)
      simp only [fitMoves, if_pos fits, List.take_succ_cons, List.flatMap_cons, List.length_append, List.length_cons]
      refine ⟨by omega, by rw [bytes], by omega, fun more => ?_⟩
      have := long (by omega)
      omega
    · simp only [fitMoves, if_neg fits]
      simp
      omega

/-- The reply data of a runner record: the summary, the first index, the number of records, and that many records. -/
theorem getReply_eq (run : Run) (f : Nat) :
    let answer (k : Nat) := run.summary ++ [byteOf f, byteOf k] ++ ((run.moves.drop f).take k).flatMap RunMove.bytes
    ∃ k, k ≤ run.moves.length - f ∧ run.getReply f = answer k ∧ (answer k).length ≤ 59 ∧
      (k < run.moves.length - f → 59 < (answer (k + 1)).length) := by
  obtain ⟨few, bytes, short, long⟩ := fitMoves_eq 39 (run.moves.drop f)
  have room : 58 - (run.summary ++ b1 f).length = 39 := by simp [length_summary]
  rw [List.length_drop] at few long
  refine ⟨_, few, ?_, ?_, fun more => ?_⟩
  · simp only [Run.getReply, room, bytes]
    simp [b1]
  · simp only [List.length_append, length_summary, List.length_cons, List.length_nil]
    omega
  · have := long more
    simp only [List.length_append, length_summary, List.length_cons, List.length_nil]
    omega

/-! #### Sets of axes -/

/-- The bits of a set of axes are its members. -/
theorem testBit_axisBits (as : List AxisNo) (i : Nat) : (axisBits as).testBit i = true ↔ ∃ a ∈ as, a.val = i := by
  have general (n : Nat) : (as.foldl (fun n a => n ||| (1 <<< a.val)) n).testBit i = true ↔
      n.testBit i = true ∨ ∃ a ∈ as, a.val = i := by
    induction as generalizing n with
    | nil => simp
    | cons a as ih =>
      rw [List.foldl_cons, ih, Nat.testBit_or, Nat.one_shiftLeft, Nat.testBit_two_pow]
      simp [or_assoc]
  simp [axisBits, general]

end Sys2Proof.Laws

namespace Sys2Proof.Proofs

open Sys2Proof.Machine Sys2Proof.Laws Sys2Proof.Safety

/-- Settles O20: the replies are one branch of their request each; the bytes agree part by part. -/
theorem axisGetAndRunGetAnswerSnapshots : Obligations.AxisGetAndRunGetAnswerSnapshots := by
  unfold Obligations.AxisGetAndRunGetAnswerSnapshots
  refine ⟨⟨fun tag axis form s a h named => ?axisGet, fun s a => ?forms, ?codes, fun s a => ?lengths⟩,
    fun tag n s r h named => ?runGet, ⟨fun run f => ?record, rfl⟩, fun s a => ?owner, testBit_axisBits⟩
  case axisGet =>
    have awake := resetting_listens h
    refine ⟨exec_answers h rfl ?_, exec_answers h rfl ?_, fun other => exec_answers h rfl ?_⟩
    · simp [axisGetTaken, awake, named]
    · simp [axisGetTaken, awake, named]
    · simp only [axisGetTaken, State.refuse, awake, named, other]
      simp
  case forms =>
    intro x bit dir pinch config gang owner move cause fault link episode
    have flag : bit = bFlag := rfl
    have toward (d : Dir) : dir d = b1 (dirCode d) := by cases d <;> rfl
    have causes (c : Cause) : cause c = c.bytes := by cases c <;> rfl
    have zone (z : Option Pinch) : pinch z = match z with
        | none => [0] ++ b2 0 ++ b2 0 ++ b1 0 ++ b2 0
        | some p => [1] ++ b2 p.lo ++ b2 p.hi ++ b1 (dirCode p.dir) ++ b2 p.distance := by
      cases z with
      | none => rfl
      | some z =>
        simp only [pinch, toward]
        rfl
    have configs : config = match x.config with
        | none => [0] ++ noConfigBytes
        | some c => [1] ++ c.bytes := by
      simp only [config]
      cases x.config with
      | none => rfl
      | some c => simp only [AxisConfig.bytes, toward, zone, flag, List.append_assoc] ; rfl
    have gangs : gang = s.gangBytes a := by
      simp only [gang, State.gangBytes]
      cases s.names a <;> cases s.partner a <;> rfl
    have owners : owner = (s.ownerTag a).bytes := by
      simp only [owner]
      cases s.ownerTag a <;> rfl
    have moves : move = moveBytes x.move := by
      simp only [move]
      cases x.move <;> rfl
    have faults : fault = faultBytes x.fault := by
      simp only [fault, causes]
      cases x.fault <;> rfl
    have links : link = linkBytes x.link := by
      simp only [link]
      cases x.link <;> rfl
    have episodes : episode = episodeBytes x.episode := by
      simp only [episode]
      cases x.episode <;> rfl
    constructor
    · rw [configs, gangs]
      rfl
    · rw [owners, moves, faults, links, episodes, toward, flag]
      rfl
  case codes => exact ⟨rfl, rfl, rfl, rfl, rfl, rfl, rfl, rfl⟩
  case lengths =>
    rw [length_configReply, length_runtimeReply]
    exact ⟨by decide, by decide⟩
  case runGet =>
    have awake := resetting_listens h
    have named := finOf_eq_some.mpr named
    refine ⟨fun free f => exec_answers h rfl ?_, fun run runs => ⟨exec_answers h rfl ?_, fun f within => exec_answers h rfl ?_,
      fun f beyond => exec_answers h rfl ?_⟩⟩
    · simp [runGetTaken, awake, named, free]
    · simp [runGetTaken, awake, named, runs]
    · simp [runGetTaken, awake, named, runs, Nat.not_le.mpr within]
    · simp [runGetTaken, State.refuse, awake, named, runs, beyond]
  case record =>
    intro summary record answer
    have whole : summary = run.summary := by
      simp only [summary, Run.summary]
      congr 9
      · rcases run.planError with _ | ⟨i, _ | _⟩ <;> rfl
      · rcases run.endKind with _ | _ | _ | _ | _ <;> rfl
    have records : record = RunMove.bytes := by
      have gates : GateState.bytes = fun g => match g with
          | .closed => [0, 0xFF, 0xFF]
          | .timing n => b1 1 ++ b2 (10 * n)
          | .opened => [2, 0xFF, 0xFF] := by
        funext g
        cases g <;> rfl
      funext m
      simp only [record, RunMove.bytes, gates]
      congr 1
      cases m.state <;> rfl
    obtain ⟨k, few, reply, short, long⟩ := getReply_eq run f
    rw [← whole, ← records] at reply short long
    exact ⟨k, few, reply, short, long⟩
  case owner =>
    unfold State.ownerTag
    cases (s.ax a).owner with
    | none => rfl
    | link op => rfl
    | runner r =>
      dsimp only
      cases s.run r <;> rfl

end Sys2Proof.Proofs

/-! ### Counts and Hall edges -/

namespace Sys2Proof.Laws

open Sys2Proof.Machine Sys2Proof.Safety

/-! #### Which edges are taken -/

theorem hallPowered_iff (s : State) : s.hallPowered = true ↔ HallPowered s := by
  unfold State.hallPowered HallPowered
  cases s.power.state with
  | sleep => cases s.power.sleepOpts <;> simp [PowerState.runs]
  | init | active | doze | resetting => simp [PowerState.runs]

/-- A hand count wakes: the part sleeps, watches for it, and has no wake cause yet (R199). -/
def WokenByHand (s : State) : Prop :=
  s.power.state = .sleep ∧ s.power.wakeCause = none ∧ ∃ o, s.power.sleepOpts = some o ∧ o.watch = true ∧ o.wakeOnHand = true

theorem handWoken_wakes {s : State} (h : WokenByHand s) :
    handWoken s = { s with power := { s.power with wakeCause := some .hand } } := by
  obtain ⟨asleep, unwoken, ⟨watch, hand, quick⟩, options, rfl, rfl⟩ := h
  unfold handWoken
  rw [asleep, unwoken, options]

theorem handWoken_other {s : State} (h : ¬ WokenByHand s) : handWoken s = s := by
  unfold handWoken
  split
  · next quick asleep options unwoken => exact absurd ⟨asleep, unwoken, _, options, rfl, rfl⟩ h
  · rfl

theorem handWoken_awake {s : State} (h : s.power.state ≠ .sleep) : handWoken s = s := handWoken_other (fun k => h k.1)

theorem wakeByHand_eq {s : State} (h : s.power.inReset = false) : s.wakeByHand = handWoken s := by
  have wake : s.wakeBy .hand = if s.power.state = .sleep ∧ s.power.wakeCause = none then
      { s with power := { s.power with wakeCause := some .hand } } else s := by
    simp only [State.wakeBy, h, true_and]
  unfold State.wakeByHand
  split
  · next o options =>
    by_cases both : o.watch = true ∧ o.wakeOnHand = true
    · rw [if_pos (by simpa using both), wake]
      by_cases first : s.power.state = .sleep ∧ s.power.wakeCause = none
      · rw [if_pos first, handWoken_wakes ⟨first.1, first.2, o, options, both⟩]
      · rw [if_neg first, handWoken_other (fun k => first ⟨k.1, k.2.1⟩)]
    · rw [if_neg (by simpa using both), handWoken_other]
      rintro ⟨-, -, o', options', both'⟩
      rw [options, Option.some.injEq] at options'
      exact both (options' ▸ both')
  · next options =>
    rw [handWoken_other]
    rintro ⟨-, -, o', options', -⟩
    simp [options] at options'

@[simp] theorem handWoken_axes (s : State) : (handWoken s).axes = s.axes := by
  unfold handWoken
  split <;> rfl

@[simp] theorem handWoken_ax (s : State) (a : AxisNo) : (handWoken s).ax a = s.ax a := ax_congr (handWoken_axes s) a

section

variable {s : State} (h : s.power.inReset = false)
include h

theorem exec_count (p : HallPowered s) (a : AxisNo) (d : Dir) :
    exec (.hallEdge a (.count d)) s = .next ((handWoken s).count a d).settle := by
  rw [← wakeByHand_eq h]
  simp only [exec, execHallEdge, event_runs h, hallEffect, (hallPowered_iff s).mpr p, if_true]

theorem exec_illegal (p : HallPowered s) (a : AxisNo) :
    exec (.hallEdge a .illegal) s = .next (s.illegalEdge a).settle := by
  simp only [exec, execHallEdge, event_runs h, hallEffect, (hallPowered_iff s).mpr p, if_true]

theorem exec_unpowered (p : ¬ HallPowered s) (a : AxisNo) (step : HallStep) :
    exec (.hallEdge a step) s = .next s.settle := by
  simp only [exec, execHallEdge, event_runs h, hallEffect, if_neg (mt (hallPowered_iff s).mp p)]

end

/-! #### The counters that a count moves before the position -/

/-- The axis after a count has been counted for an episode, for the search of a HOME, and for the ramp of a drive. -/
def countedAxis (x : Axis) (d : Dir) : Axis :=
  { x with
    episode := if x.motion.still then some (match x.episode with
        | none => ⟨signed d, false⟩
        | some e => ⟨e.net + signed d, false⟩)
      else x.episode
    search := if x.homing = true ∧ (x.motion = .driving ∨ x.motion = .stopping) then
        x.search + (if d = (x.config.map AxisConfig.refEnd).getD .low then 1 else -1)
      else x.search
    rampCounts := if x.motion = .driving ∧ x.phase = some .ramp ∧ x.driveDir = d then x.rampCounts + 1 else x.rampCounts }

theorem still_iff (m : Motion) : m.still = true ↔ m = .idle ∨ m = .queued ∨ m = .blocked ∨ m = .fault := by
  cases m <;> simp [Motion.still]

/-- A count of an axis at rest is a hand move. -/
theorem countedAxis_still {x : Axis} (still : x.motion.still = true) (d : Dir) :
    countedAxis x d = { x with episode := some (match x.episode with
      | none => ⟨signed d, false⟩
      | some e => ⟨e.net + signed d, false⟩) } := by
  have idle : x.motion ≠ .driving ∧ x.motion ≠ .stopping := by
    rcases (still_iff _).mp still with e | e | e | e <;> simp [e]
  have seeks : ¬ (x.homing = true ∧ (x.motion = .driving ∨ x.motion = .stopping)) := by simp [idle]
  have ramps : ¬ (x.motion = .driving ∧ x.phase = some .ramp ∧ x.driveDir = d) := fun k => idle.1 k.1
  simp only [countedAxis, if_pos still, if_neg seeks, if_neg ramps]

/-- A count of an axis in motion that no HOME moves counts for its ramp at most. -/
theorem countedAxis_moving {x : Axis} (moving : x.motion.still = false) (other : x.homing = false) (d : Dir) :
    countedAxis x d = { x with rampCounts :=
      if x.motion = .driving ∧ x.phase = some .ramp ∧ x.driveDir = d then x.rampCounts + 1 else x.rampCounts } := by
  have seeks : ¬ (x.homing = true ∧ (x.motion = .driving ∨ x.motion = .stopping)) := by simp [other]
  simp only [countedAxis, moving, Bool.false_eq_true, if_false, if_neg seeks]

theorem handCount_eq (s : State) (a : AxisNo) (d : Dir) : s.handCount a d = s.setAx a { s.ax a with
    episode := if (s.ax a).motion.still then some (match (s.ax a).episode with
        | none => ⟨signed d, false⟩
        | some e => ⟨e.net + signed d, false⟩)
      else (s.ax a).episode } := by
  unfold State.handCount
  split
  · exact modAx_eq s a _
  · exact (setAx_self s a).symm

theorem searchCount_eq (s : State) (a : AxisNo) (d : Dir) : s.searchCount a d = s.setAx a { s.ax a with
    search := if (s.ax a).homing = true ∧ ((s.ax a).motion = .driving ∨ (s.ax a).motion = .stopping) then
        (s.ax a).search + (if d = ((s.ax a).config.map AxisConfig.refEnd).getD .low then 1 else -1)
      else (s.ax a).search } := by
  unfold State.searchCount
  simp only [Bool.and_eq_true, Bool.or_eq_true, decide_eq_true_eq]
  by_cases seeking : (s.ax a).homing = true ∧ ((s.ax a).motion = .driving ∨ (s.ax a).motion = .stopping)
  · rw [if_pos seeking, if_pos seeking]
    exact modAx_eq s a _
  · rw [if_neg seeking, if_neg seeking]
    exact (setAx_self s a).symm

theorem rampCount_eq (s : State) (a : AxisNo) (d : Dir) : s.rampCount a d = s.setAx a { s.ax a with
    rampCounts := if (s.ax a).motion = .driving ∧ (s.ax a).phase = some .ramp ∧ (s.ax a).driveDir = d then
      (s.ax a).rampCounts + 1 else (s.ax a).rampCounts } := by
  unfold State.rampCount
  rw [modAx_eq]
  by_cases ramping : (s.ax a).motion = .driving ∧ (s.ax a).phase = some .ramp ∧ (s.ax a).driveDir = d
  · rw [if_pos ramping, if_pos ramping]
  · rw [if_neg ramping, if_neg ramping]

theorem counted_eq (s : State) (a : AxisNo) (d : Dir) :
    ((s.handCount a d).searchCount a d).rampCount a d = s.setAx a (countedAxis (s.ax a) d) := by
  rw [rampCount_eq, searchCount_eq, handCount_eq]
  simp only [ax_setAx_self, setAx_setAx]
  rfl

/-- What follows a count once the position has taken it (R16, R57, R44). -/
def afterCount (s : State) (a : AxisNo) (d : Dir) (old : Option Nat) : State :=
  let u := (s.checkSearch a).backoffCount a d old
  if (u.ax a).motion = .driving then u.advance a else u

theorem count_eq (s : State) (a : AxisNo) (d : Dir) :
    s.count a d = afterCount ((s.setAx a (countedAxis (s.ax a) d)).applyCount a d) a d (s.ax a).pos := by
  unfold State.count afterCount
  rw [counted_eq]

/-! #### The parts of a count that may do nothing -/

theorem applyCount_unplaced {s : State} {a : AxisNo} (h : (s.ax a).pos = none) (d : Dir) : s.applyCount a d = s := by
  unfold State.applyCount
  dsimp only
  split
  · next placed => simp [h] at placed
  · rfl

theorem checkSearch_unsought {s : State} {a : AxisNo} (h : (s.ax a).homing = false) : s.checkSearch a = s := by
  unfold State.checkSearch
  simp [h]

theorem backoffCount_still {s : State} {a : AxisNo} {d : Dir} {old : Option Nat}
    (h : (s.ax a).motion ≠ .backoff ∨ (s.ax a).pos = old ∨ ∀ k, (s.ax a).backoff = some k → k.step ≠ .reverse) :
    s.backoffCount a d old = s := by
  unfold State.backoffCount
  dsimp only
  split
  · next k reversing stored =>
    rw [if_neg]
    rintro ⟨step, moved⟩
    rcases h with h | h | h
    · exact h reversing
    · exact moved h
    · exact h k stored step
  · rfl

/-! #### Gangs and references -/

section

variable {s t : State} (h : ∀ b, (t.ax b).config = (s.ax b).config)
include h

theorem names_congr (a : AxisNo) : t.names a = s.names a := by
  simp only [State.names, h]

theorem partner_congr (a : AxisNo) : t.partner a = s.partner a := by
  simp only [State.partner, names_congr h]

/-- Which axes move as one the records alone say. -/
theorem members_congr (a : AxisNo) : t.members a = s.members a := by
  simp only [State.members, partner_congr h]

end

theorem config_setAx {s : State} {a : AxisNo} {y : Axis} (h : y.config = (s.ax a).config) (b : AxisNo) :
    ((s.setAx a y).ax b).config = (s.ax b).config := by
  rw [ax_setAx]
  split
  · next e => rw [h, e]
  · rfl

theorem suspect_fallen {s : State} {a : AxisNo} (h : (s.ax a).ref ≠ .valid) (c : RefCause) : s.suspect a c = s := if_neg h

theorem suspect_valid {s : State} {a : AxisNo} (h : (s.ax a).ref = .valid) (c : RefCause) : s.suspect a c =
    ((s.setAx a { s.ax a with ref := .suspect }).report (.reference a .valid .suspect c (s.ax a).pos)).modAll (s.members a)
      (fun x => { x with move := x.move.map (fun m => { m with forcedCreep := true }) }) := by
  have same (r : Report) (b : AxisNo) :
      ((((s.setAx a { s.ax a with ref := .suspect }).report r).ax b).config) = (s.ax b).config := by
    rw [report_ax]
    refine config_setAx ?_ b
    rfl
  unfold State.suspect State.forceCreep
  rw [if_pos h, modAx_eq, members_congr (same _)]

end Sys2Proof.Laws

/-! ### Hand moves and illegal edges -/

namespace Sys2Proof.Proofs

open Sys2Proof.Machine Sys2Proof.Laws Sys2Proof.Safety

/-- A count of an UNKNOWN axis that no HOME moves touches its counters alone, and then its drive. -/
theorem count_unplaced {s : State} {a : AxisNo} (unplaced : (s.ax a).pos = none) (other : (s.ax a).homing = false) (d : Dir) :
    s.count a d =
      let u := s.setAx a (countedAxis (s.ax a) d)
      if (s.ax a).motion = .driving then u.advance a else u := by
  have same : (s.setAx a (countedAxis (s.ax a) d)).ax a = countedAxis (s.ax a) d := ax_setAx_self _ _ _
  rw [count_eq, applyCount_unplaced (by rw [same]; exact unplaced)]
  unfold afterCount
  rw [checkSearch_unsought (by rw [same]; exact other), backoffCount_still (.inr (.inl (by rw [same]; rfl)))]
  dsimp only
  rw [same]
  rfl

/-- Without a position nothing of a drive is reached: its ramp may have run out (R35). -/
theorem advance_unplaced {s : State} {a : AxisNo} {m : MoveRec} {ph : Phase} (unplaced : (s.ax a).pos = none)
    (other : (s.ax a).homing = false) (moves : (s.ax a).move = some m) (phase : (s.ax a).phase = some ph) :
    s.advance a = s.setAx a { s.ax a with
      phase := some (if ph = .ramp ∧ m.profile.rampUp ≤ (s.ax a).rampCounts then .cruise else ph) } := by
  have far : (s.ax a).remaining = none := by simp [Axis.remaining, moves, unplaced]
  unfold State.advance
  simp [moves, phase, other, far, modAx_eq]

theorem awake_of_runs {s : State} (h : s.power.state.runs = true) : s.power.state ≠ .sleep := by
  intro e
  simp [e, PowerState.runs] at h

theorem exec_rest {s : State} (h : s.power.inReset = false) (a : AxisNo) :
    exec (.handMoveRest a) s = .next (restEffect a s).settle := event_runs h _

/-- Settles O49: each edge by its state of motion; no position is moved. -/
theorem handMovesAndIllegalEdges : Obligations.HandMovesAndIllegalEdges := by
  unfold Obligations.HandMovesAndIllegalEdges
  intro s a h x quiet
  refine ⟨fun d p unplaced other still => ?_, fun d m ph awake unplaced other driving moves phase => ?_,
    fun d awake unplaced other moving => ?_, fun p => ⟨fun fallen => ?_, fun valid => ?_⟩,
    fun step p => exec_unpowered h p a step, fun o asleep options watch => ⟨fun hand unwoken => ?_, fun not_first => ?_⟩,
    handWoken_awake, fun e awake stored => ?_, fun awake stored => ?_, fun asleep => ?_⟩
  · have moving : x.motion ≠ .driving := by rcases still with e | e | e | e <;> simp [e]
    rw [exec_count h p, count_unplaced (by rw [handWoken_ax]; exact unplaced) (by rw [handWoken_ax]; exact other),
      handWoken_ax, if_neg moving, countedAxis_still ((still_iff _).mpr still)]
    cases d <;> rfl
  · have moving : x.motion.still = false := by simp [driving, Motion.still]
    rw [exec_count h (.inl awake), handWoken_awake (awake_of_runs awake), count_unplaced unplaced other, if_pos driving,
      countedAxis_moving moving other, advance_unplaced (by rw [ax_setAx_self]; exact unplaced)
        (by rw [ax_setAx_self]; exact other) (by rw [ax_setAx_self]; exact moves) (by rw [ax_setAx_self]; exact phase),
      ax_setAx_self, setAx_setAx]
    have ramp : (x.motion = .driving ∧ x.phase = some .ramp ∧ x.driveDir = d) ↔ (ph = .ramp ∧ x.driveDir = d) := by
      simp [driving, phase]
    simp only [ramp]
  · have rest : x.motion.still = false ∧ x.motion ≠ .driving := by
      rcases moving with e | e | e | e <;> simp [e, Motion.still]
    rw [exec_count h (.inl awake), handWoken_awake (awake_of_runs awake), count_unplaced unplaced other, if_neg rest.2,
      countedAxis_moving rest.1 other, if_neg (fun k => rest.2 k.1)]
    exact congrArg (fun t => Host.Outcome.next (State.settle t)) (setAx_self s a)
  · rw [exec_illegal h p, State.illegalEdge, modAx_eq, suspect_fallen (by rw [ax_setAx_self]; exact fallen)]
  · have same : (s.setAx a quiet).members a = s.members a := members_congr (fun b => config_setAx (y := quiet) rfl b) a
    rw [exec_illegal h p, State.illegalEdge, modAx_eq, suspect_valid (by rw [ax_setAx_self]; exact valid), ax_setAx_self,
      setAx_setAx]
    exact congrArg (fun as => Host.Outcome.next (State.settle (State.modAll _ as _))) same
  · exact handWoken_wakes ⟨asleep, unwoken, o, options, watch, hand⟩
  · refine handWoken_other ?_
    rintro ⟨-, unwoken, o', options', -, hand⟩
    rw [options, Option.some.injEq] at options'
    subst options'
    rcases not_first with dumb | woken
    · simp [dumb] at hand
    · exact woken unwoken
  · rw [exec_rest h, restEffect, if_pos awake, State.closeEpisode, stored]
    rfl
  · rw [exec_rest h, restEffect, if_pos awake, State.closeEpisode, stored]
  · rw [exec_rest h, restEffect, if_neg (by simp [asleep])]
    rfl

end Sys2Proof.Proofs

/-! ### Counts of an axis with a position -/

namespace Sys2Proof.Safety

open Sys2Proof.Machine Sys2Proof.Laws

section

variable {F : Prop} {s t : State}

theorem Controls.setNoStop (h : Controls F s t) (a : AxisNo) :
    Controls F s (t.modAx a (fun x => { x with noStop := true })) :=
  h.modAx a _ (fun x => by exact { KeptAxis.refl x with })

theorem Controls.overrunLimit (f : F) (h : Controls F s t) (a : AxisNo) (d : Dir) : Controls F s (t.overrunLimit a d) := by
  unfold State.overrunLimit
  exact .ite h (.ite (.ite h ((((h.setNoStop a).raiseFault a _ _ _ _).suspect f a _).passSince _)) (h.suspect f a _))

theorem Controls.checkSearch (f : F) (h : Controls F s t) (a : AxisNo) : Controls F s (t.checkSearch a) := by
  unfold State.checkSearch
  exact .ite ((((h.setNoStop a).raiseFault a _ _ _ _).suspect f a _).passSince _) h

theorem Controls.backoffCount (h : Controls F s t) (a : AxisNo) (d : Dir) (old : Option Nat) :
    Controls F s (t.backoffCount a d old) := by
  unfold State.backoffCount
  dsimp only
  split
  · next k _ _ =>
    generalize k.count + (if d = k.dir then 1 else -1) = n
    refine .ite (h.modAx a _ (fun x => ?_)) h
    split <;> exact { KeptAxis.refl x with }
  · exact h

theorem Controls.afterCount (f : F) (h : Controls F s t) (a : AxisNo) (d : Dir) (old : Option Nat) :
    Controls F s (afterCount t a d old) := by
  unfold Laws.afterCount
  exact .ite (((h.checkSearch f a).backoffCount a d old).advance a) ((h.checkSearch f a).backoffCount a d old)

end

end Sys2Proof.Safety

namespace Sys2Proof.Laws

open Sys2Proof.Machine Sys2Proof.Safety

/-! #### Lash, overrun and position -/

/-- The count goes beyond the bound in its direction. -/
def outwardAt (travel p : Nat) : Dir → Bool
  | .low => decide (p = 0)
  | .high => decide (p = travel)

/-- The count comes back from beyond the other bound. -/
def returningAt (travel p overrun : Nat) (d : Dir) : Bool :=
  decide (0 < overrun) && (match d with
    | .low => decide (p = travel)
    | .high => decide (p = 0))

/-- The position one step on. -/
def stepTo (p : Nat) : Dir → Nat
  | .low => p - 1
  | .high => p + 1

section

variable {travel endZone p overrun : Nat} {d : Dir}

theorem countPos_returning (back : returningAt travel p overrun d = true) :
    countPos travel endZone p overrun d = .moved p (overrun - 1) := by
  cases d <;> simp_all [returningAt, countPos]

theorem countPos_inward (back : returningAt travel p overrun d = false) (within : p ≤ travel)
    (inward : outwardAt travel p d = false) : countPos travel endZone p overrun d = .moved (stepTo p d) overrun := by
  cases d with
  | low =>
    have : 0 < p := by simpa [outwardAt, Nat.pos_iff_ne_zero] using inward
    simp_all [returningAt, countPos, stepTo]
  | high =>
    have : p < travel := Nat.lt_of_le_of_ne within (by simpa [outwardAt] using inward)
    simp_all [returningAt, countPos, stepTo]

theorem countPos_outward (back : returningAt travel p overrun d = false) (out : outwardAt travel p d = true) :
    countPos travel endZone p overrun d = countBeyond endZone p overrun := by
  cases d <;> simp_all [returningAt, outwardAt, countPos]

theorem countPos_beyond (back : returningAt travel p overrun d = false) (out : outwardAt travel p d = true)
    (room : overrun < endZone) : countPos travel endZone p overrun d = .moved p (overrun + 1) := by
  rw [countPos_outward back out, countBeyond, if_pos room]

theorem countPos_discarded (back : returningAt travel p overrun d = false) (out : outwardAt travel p d = true)
    (full : endZone ≤ overrun) : countPos travel endZone p overrun d = .discarded := by
  rw [countPos_outward back out, countBeyond, if_neg (Nat.not_lt.mpr full)]

theorem stepTo_ne (inward : outwardAt travel p d = false) : stepTo p d ≠ p := by
  cases d with
  | low =>
    have : p ≠ 0 := by simpa [outwardAt] using inward
    simp only [stepTo]
    omega
  | high => simp [stepTo]

end

/-- The lash that a count in a direction finds. -/
def loadedLash (x : Axis) (c : AxisConfig) (d : Dir) : Nat := if d = x.lashDir then x.lashRem else c.lash

section

variable {s : State} {a : AxisNo} {c : AxisConfig} {p : Nat} {d : Dir} (config : (s.ax a).config = some c)
  (placed : (s.ax a).pos = some p)
include config placed

theorem applyCount_lash (slack : 0 < loadedLash (s.ax a) c d) : s.applyCount a d =
    s.setAx a { s.ax a with lashDir := d, lashRem := loadedLash (s.ax a) c d - 1 } := by
  have lash : countLash c.lash (s.ax a).lashDir (s.ax a).lashRem d = (loadedLash (s.ax a) c d - 1, false) :=
    if_neg (Nat.pos_iff_ne_zero.mp slack)
  unfold State.applyCount
  simp only [config, placed, lash, modAx_eq]
  simp

theorem applyCount_moved {q o : Nat} (taut : loadedLash (s.ax a) c d = 0)
    (counts : countPos c.travel c.endZone p (s.ax a).overrun d = .moved q o) : s.applyCount a d =
      let u := s.setAx a { s.ax a with lashDir := d, lashRem := 0, pos := some q, overrun := o }
      if q = p then u else u.positionChange a (some p) true := by
  have lash : countLash c.lash (s.ax a).lashDir (s.ax a).lashRem d = (0, true) := if_pos taut
  unfold State.applyCount
  simp only [config, placed, lash, counts, modAx_eq, if_true, ax_setAx_self, setAx_setAx]

theorem applyCount_stays {o : Nat} (taut : loadedLash (s.ax a) c d = 0)
    (counts : countPos c.travel c.endZone p (s.ax a).overrun d = .moved p o) :
    s.applyCount a d = s.setAx a { s.ax a with lashDir := d, lashRem := 0, overrun := o } := by
  rw [applyCount_moved config placed taut counts]
  simp [← placed]

theorem applyCount_moves {q o : Nat} (taut : loadedLash (s.ax a) c d = 0)
    (counts : countPos c.travel c.endZone p (s.ax a).overrun d = .moved q o) (moved : q ≠ p) :
    s.applyCount a d = (s.setAx a { s.ax a with lashDir := d, lashRem := 0, pos := some q, overrun := o }).positionChange a
      (some p) true := by
  rw [applyCount_moved config placed taut counts]
  exact if_neg moved

theorem applyCount_discards (taut : loadedLash (s.ax a) c d = 0)
    (counts : countPos c.travel c.endZone p (s.ax a).overrun d = .discarded) :
    s.applyCount a d = (s.setAx a { s.ax a with lashDir := d, lashRem := 0 }).overrunLimit a d := by
  have lash : countLash c.lash (s.ax a).lashDir (s.ax a).lashRem d = (0, true) := if_pos taut
  unfold State.applyCount
  simp only [config, placed, lash, counts, modAx_eq, if_true]

end

/-! #### What a count reaches beyond the position -/

theorem drivenOrCoasting_iff (x : Axis) : x.drivenOrCoasting = true ↔
    x.motion = .driving ∨ x.motion = .backoff ∨ (x.motion = .stopping ∧ x.check = none) := by
  unfold Axis.drivenOrCoasting
  cases x.motion <;> simp [Axis.testing]

theorem overrunLimit_eq (s : State) (a : AxisNo) (d : Dir) : s.overrunLimit a d =
    if (s.ax a).homing = true ∧ ((s.ax a).motion = .driving ∨ (s.ax a).motion = .stopping) then s
    else if ((s.ax a).motion = .driving ∨ (s.ax a).motion = .backoff ∨ ((s.ax a).motion = .stopping ∧ (s.ax a).check = none)) ∧
        (s.ax a).driveDir = d then
      if (s.ax a).noStop = true then s
      else (((s.setAx a { s.ax a with noStop := true }).raiseFault a .noStop .overrun none none).suspect a .noStop).passSince s
    else s.suspect a .overrun := by
  unfold State.overrunLimit
  simp only [Bool.and_eq_true, Bool.or_eq_true, decide_eq_true_eq, drivenOrCoasting_iff, modAx_eq]

theorem checkSearch_eq {s : State} {a : AxisNo} {c : AxisConfig} (config : (s.ax a).config = some c) : s.checkSearch a =
    if (s.ax a).homing = true ∧ (s.ax a).noStop = false ∧ (s.ax a).stalled = false ∧
        ((s.ax a).motion = .driving ∨ (s.ax a).motion = .stopping) ∧
        ((c.travel * 11 / 10 : Nat) : Int) ≤ (s.ax a).search then
      (((s.setAx a { s.ax a with noStop := true }).raiseFault a .noStop .search none none).suspect a .noStop).passSince s
    else s := by
  have limit : searchLimit (s.travel a) = c.travel * 11 / 10 := by simp [searchLimit, State.travel, config]
  unfold State.checkSearch
  simp only [Bool.and_eq_true, Bool.or_eq_true, Bool.not_eq_true', decide_eq_true_eq, and_assoc, modAx_eq, limit]

theorem backoffCount_reverse {s : State} {a : AxisNo} {d : Dir} {old : Option Nat} {k : Backoff}
    (backing : (s.ax a).motion = .backoff) (stored : (s.ax a).backoff = some k) (step : k.step = .reverse)
    (moved : (s.ax a).pos ≠ old) : s.backoffCount a d old =
      if (k.distance : Int) ≤ k.count + (if d = k.dir then 1 else -1) then
        s.setAx a { s.ax a with blanking := false, backoff := some { k with
          step := .finish, count := k.count + (if d = k.dir then 1 else -1), rest := false } }
      else s.setAx a { s.ax a with backoff := some { k with count := k.count + (if d = k.dir then 1 else -1) } } := by
  unfold State.backoffCount
  dsimp only
  split
  · next k' _ stored' =>
    rw [stored, Option.some.injEq] at stored'
    subst stored'
    rw [if_pos ⟨step, moved⟩, modAx_eq]
    generalize k.count + (if d = k.dir then 1 else -1) = n
    split <;> rfl
  · next none => exact absurd stored (none k backing)

end Sys2Proof.Laws

/-! ### Stops and grants set nothing in motion -/

namespace Sys2Proof.Safety

open Sys2Proof.Machine Sys2Proof.Laws

/-- An axis that neither drives nor backs off still does neither, and its NO_STOP mark stands. -/
structure Halted (x y : Axis) : Prop where
  noStop : y.noStop = x.noStop
  driving : y.motion = .driving → x.motion = .driving
  backoff : y.motion = .backoff → x.motion = .backoff

theorem Halted.refl (x : Axis) : Halted x x := ⟨rfl, id, id⟩

theorem Halted.trans {x y z : Axis} (h : Halted x y) (k : Halted y z) : Halted x z :=
  ⟨k.noStop.trans h.noStop, h.driving ∘ k.driving, h.backoff ∘ k.backoff⟩

/-- An axis that comes to a motion state other than these two. -/
theorem Halted.into {x y : Axis} (noStop : y.noStop = x.noStop) (driving : y.motion ≠ .driving) (backoff : y.motion ≠ .backoff) :
    Halted x y := ⟨noStop, fun e => absurd e driving, fun e => absurd e backoff⟩

theorem Halted.toIdle (keep : Bool) (x : Axis) : Halted x (x.toIdle keep) := .into rfl (by simp [Axis.toIdle]) (by simp [Axis.toIdle])

theorem Halted.toFault (x : Axis) : Halted x x.toFault := .into rfl (by simp [Axis.toFault]) (by simp [Axis.toFault])

theorem Halted.partnerStopped (x : Axis) : Halted x x.partnerStopped := by
  unfold Axis.partnerStopped Axis.dropMove
  split
  · split <;> exact ⟨rfl, id, id⟩
  · exact ⟨rfl, id, id⟩

/-- Nothing is set in motion between two states. -/
def Halting (s t : State) : Prop := ∀ a, Halted (s.ax a) (t.ax a)

section

variable {s t u : State}

theorem Halting.refl (s : State) : Halting s s := fun _ => .refl _

theorem Halting.trans (h : Halting s t) (k : Halting t u) : Halting s u := fun a => (h a).trans (k a)

theorem Halting.of_axes (h : Halting s t) (e : u.axes = t.axes) : Halting s u := fun a => by
  rw [ax_congr e]
  exact h a

theorem Halting.ite {p : Prop} [Decidable p] (h : Halting s t) (k : Halting s u) : Halting s (if p then t else u) := by
  split
  · exact h
  · exact k

theorem Halting.modAx (h : Halting s t) (a : AxisNo) (f : Axis → Axis) (hf : ∀ x, Halted x (f x)) : Halting s (t.modAx a f) :=
  h.trans (fun b => by
    rw [ax_modAx]
    split
    · next e => exact e ▸ hf _
    · exact .refl _)

theorem Halting.foldl {α : Type} (h : Halting s t) (l : List α) (f : State → α → State)
    (hf : ∀ v a, Halting s v → Halting s (f v a)) : Halting s (l.foldl f t) := by
  induction l generalizing t with
  | nil => exact h
  | cons a l ih => exact ih (hf t a h)

theorem Halting.modAll (h : Halting s t) (as : List AxisNo) (f : Axis → Axis) (hf : ∀ x, Halted x (f x)) :
    Halting s (t.modAll as f) := h.foldl as _ (fun _ a hv => hv.modAx a f hf)

theorem Halting.report (h : Halting s t) (r : Report) : Halting s (t.report r) := h.of_axes (report_axes t r)

theorem Halting.startStopFrom (h : Halting s t) (n : Nat) (a : AxisNo) (d : Dest) (m : StopMode) :
    Halting s (t.startStopFrom n a d m) := h.modAx a _ (fun _ => .into rfl (by simp) (by simp))

theorem Halting.startStop (h : Halting s t) (a : AxisNo) (d : Dest) (m : StopMode) : Halting s (t.startStop a d m) :=
  h.startStopFrom _ a d m

theorem Halting.leaveQueue (h : Halting s t) (a : AxisNo) : Halting s (t.leaveQueue a) := h.of_axes rfl

theorem Halting.stopAxisFrom (h : Halting s t) (n : Nat) (a : AxisNo) (r : StopReq) : Halting s (t.stopAxisFrom n a r) := by
  unfold State.stopAxisFrom
  dsimp only
  split
  · exact h.startStopFrom _ _ _ _
  · exact h.modAx a _ (fun _ => ⟨rfl, id, id⟩)
  · exact .ite (h.modAx a _ (fun _ => ⟨rfl, id, id⟩)) (h.modAx a _ (fun _ => ⟨rfl, id, id⟩))
  · split
    · exact h
    · exact (h.leaveQueue a).modAx a _ (Halted.toIdle _)
    · exact (h.leaveQueue a).modAx a _ (Halted.toIdle _)
    · exact (h.leaveQueue a).modAx a _ (fun _ => .into rfl (by simp) (by simp))
  · split
    · exact h.modAx a _ (Halted.toIdle _)
    · exact h.modAx a _ (Halted.toIdle _)
    · exact h
    · exact h
  · split
    · exact h.startStopFrom _ _ _ _
    · exact h
    · exact h
    · exact h
  · split
    · exact h.modAx a _ (fun _ => ⟨rfl, id, id⟩)
    · exact h
    · exact h
    · exact h
  · exact h
  · exact h

theorem Halting.stopAll (h : Halting s t) (as : List AxisNo) (r : StopReq) : Halting s (t.stopAll as r) :=
  h.foldl as _ (fun _ a hv => hv.stopAxisFrom _ a r)

theorem Halting.setRun (h : Halting s t) (r : RunnerNo) (run : Option Run) : Halting s (t.setRun r run) :=
  h.of_axes (setRun_axes t r run)

theorem Halting.pauseFor (h : Halting s t) (r : RunnerNo) (why : Reason) : Halting s (t.pauseFor r why) := by
  unfold State.pauseFor
  split
  · exact h
  · dsimp only
    split
    · exact (h.setRun r _).stopAll _ _
    · exact h.setRun r _
    · exact .ite h ((h.setRun r _).report _)
    · exact h

theorem Halting.tellOwnerFault (h : Halting s t) (a : AxisNo) (k : FaultKind) : Halting s (t.tellOwnerFault a k) := by
  unfold State.tellOwnerFault
  split
  · exact h
  · refine h.modAll _ _ (fun x => ?_)
    split <;> exact ⟨rfl, id, id⟩
  · unfold State.tellRunnerFault
    split
    · exact h
    · exact .ite h ((h.setRun _ _).pauseFor _ _)

theorem Halting.cutBackoff (h : Halting s t) (a : AxisNo) (m : StopMode) : Halting s (t.cutBackoff a m) :=
  h.foldl _ _ (fun _ b hv => hv.modAx b _ (fun x => by
    split
    · exact .refl x
    · exact .into rfl (by simp [Axis.cutShort]) (by simp [Axis.cutShort])))

/-- A fault for which no backoff is due only stops. -/
theorem Halting.faultMotion (h : Halting s t) (a : AxisNo) (k : FaultKind) : Halting s (t.faultMotion a k none) := by
  unfold State.faultMotion
  dsimp only
  split
  · exact h.startStop _ _ _
  · exact h.modAx a _ (fun _ => ⟨rfl, id, id⟩)
  · split
    · exact .ite (h.cutBackoff a _) h
    · exact h
  · exact h.modAx a _ (fun _ => ⟨rfl, id, id⟩)
  · exact (h.leaveQueue a).modAx a _ Halted.toFault
  · exact h.startStop _ _ _
  · exact h.modAx a _ Halted.toFault
  · exact h.modAx a _ Halted.toFault
  · exact h

theorem Halting.partnerStop (h : Halting s t) (p : AxisNo) : Halting s (t.partnerStop p) := by
  unfold State.partnerStop
  split
  · exact (h.startStop _ _ _).modAx p _ (fun _ => ⟨rfl, id, id⟩)
  · exact h.modAx p _ Halted.partnerStopped
  · exact h.modAx p _ Halted.partnerStopped
  · exact (h.leaveQueue p).modAx p _ (Halted.toIdle _)
  · exact h.modAx p _ (Halted.toIdle _)
  · exact (h.startStop _ _ _).modAx p _ (fun _ => ⟨rfl, id, id⟩)
  · exact h.modAx p _ (fun _ => ⟨rfl, id, id⟩)
  · exact h
  · exact h

/-- What follows the motion of a fault: its owner is told, and a gang partner stops. -/
theorem Halting.faultHandedOn (h : Halting s t) (a : AxisNo) (k : FaultKind) (first stops : Bool) :
    Halting s (if first then
      let v := t.tellOwnerFault a k
      if stops then
        match v.partner a with
        | none => v
        | some p => v.partnerStop p
      else v
    else t) := by
  refine .ite (.ite ?_ (h.tellOwnerFault a k)) h
  split
  · exact h.tellOwnerFault a k
  · exact (h.tellOwnerFault a k).partnerStop _

theorem Halting.closeEpisode (h : Halting s t) (a : AxisNo) : Halting s (t.closeEpisode a) := by
  unfold State.closeEpisode
  split
  · exact h
  · exact (h.modAx a _ (fun _ => by exact ⟨rfl, id, id⟩)).report _

theorem Halting.engage (h : Halting s t) (a : AxisNo) (c : ChanNo) (n : Nat) : Halting s (t.engage a c n) :=
  ((h.closeEpisode a).of_axes (setCh_axes _ _ _)).modAx a _ (fun _ => .into rfl (by simp) (by simp))

theorem Halting.grant (h : Halting s t) (q : GrantRequest) (c : ChanNo) (d : Option ChanNo) : Halting s (t.grant q c d) := by
  have one : Halting s (State.engage { t.leaveQueue q.axis with
      supply := { t.supply with grantCounter := t.supply.grantCounter + 1 } } q.axis c t.supply.grantCounter) := by
    refine Halting.engage ?_ _ _ _
    exact h.of_axes rfl
  unfold State.grant
  dsimp only
  split
  · exact one.engage _ _ _
  · exact one

theorem Halting.passWalk (qs : List GrantRequest) (r : Option Nat) (h : Halting s t) : Halting s (passWalk qs r t) := by
  induction qs generalizing r t with
  | nil => exact h
  | cons q qs ih =>
    unfold Machine.passWalk
    split
    · exact ih _ h
    · exact .ite (ih _ h) (.ite (ih _ (h.grant q _ _)) (ih _ h))

theorem Halting.passSince (h : Halting s t) (u : State) : Halting s (t.passSince u) := by
  unfold State.passSince State.grantPass
  exact .ite (.ite (.passWalk _ _ h) h) h

theorem Halting.suspect (h : Halting s t) (a : AxisNo) (c : RefCause) : Halting s (t.suspect a c) := by
  unfold State.suspect
  exact .ite (((h.modAx a _ (fun _ => by exact ⟨rfl, id, id⟩)).report _).modAll _ _ (fun _ => by exact ⟨rfl, id, id⟩)) h

end

theorem faultMotion_driving {s : State} {a : AxisNo} (driving : (s.ax a).motion = .driving) (k : FaultKind) :
    s.faultMotion a k none = s.startStop a .fault k.stopMode := by
  simp [State.faultMotion, driving]

/-- A fault of a driving axis without a backoff stops it, and nothing that follows sets it in motion. -/
theorem raiseFault_halts {s : State} {a : AxisNo} (driving : (s.ax a).motion = .driving) (k : FaultKind) (c : Cause)
    (e : Option EntryNo) : ∃ t : State, (t.ax a).motion = .stopping ∧ (t.ax a).noStop = (s.ax a).noStop ∧
      Halting t (s.raiseFault a k c e none) := by
  unfold State.raiseFault
  dsimp only
  refine ⟨_, ?_, ?_, Halting.faultHandedOn (.refl _) a k _ _⟩
  all_goals
    rw [faultMotion_driving (by rw [report_ax, ax_modAx_self]; exact driving)]
    simp [State.startStop, State.startStopFrom, report_ax]

end Sys2Proof.Safety

/-! ### What a count does -/

namespace Sys2Proof.Proofs

open Sys2Proof.Machine Sys2Proof.Laws Sys2Proof.Safety

/-- What a count leaves of the measured values that it moves: lash, position and overrun. -/
def placedAxis (x : Axis) (c : AxisConfig) (p : Nat) (d : Dir) : Axis :=
  if 0 < loadedLash x c d then { x with lashDir := d, lashRem := loadedLash x c d - 1 }
  else match countPos c.travel c.endZone p x.overrun d with
    | .moved q o => { x with lashDir := d, lashRem := 0, pos := some q, overrun := o }
    | .discarded => { x with lashDir := d, lashRem := 0 }

section

variable {x : Axis} {c : AxisConfig} {p : Nat} {d : Dir}

theorem placedAxis_lash (slack : 0 < loadedLash x c d) :
    placedAxis x c p d = { x with lashDir := d, lashRem := loadedLash x c d - 1 } := if_pos slack

theorem placedAxis_moved {q o : Nat} (taut : loadedLash x c d = 0)
    (counts : countPos c.travel c.endZone p x.overrun d = .moved q o) :
    placedAxis x c p d = { x with lashDir := d, lashRem := 0, pos := some q, overrun := o } := by
  simp [placedAxis, taut, counts]

theorem placedAxis_discarded (taut : loadedLash x c d = 0)
    (counts : countPos c.travel c.endZone p x.overrun d = .discarded) :
    placedAxis x c p d = { x with lashDir := d, lashRem := 0 } := by
  simp [placedAxis, taut, counts]

theorem placedAxis_taut (taut : loadedLash x c d = 0) : (placedAxis x c p d).lashRem = 0 := by
  unfold placedAxis
  rw [if_neg (by omega)]
  split <;> rfl

theorem placedAxis_cases (x : Axis) (c : AxisConfig) (p : Nat) (d : Dir) :
    (placedAxis x c p d).lashDir = d ∧ (placedAxis x c p d).config = x.config ∧ (placedAxis x c p d).heat = x.heat ∧
    (placedAxis x c p d).lockout = x.lockout ∧ (placedAxis x c p d).lastCheck = x.lastCheck := by
  unfold placedAxis
  split
  · exact ⟨rfl, rfl, rfl, rfl, rfl⟩
  · split <;> exact ⟨rfl, rfl, rfl, rfl, rfl⟩

end

/-- The counters that a count moves are none of what is measured. -/
theorem placedAxis_counted (x : Axis) (c : AxisConfig) (p : Nat) (d : Dir) :
    Measured (placedAxis x c p d) (placedAxis (countedAxis x d) c p d) := by
  rcases Nat.eq_zero_or_pos (loadedLash x c d) with taut | slack
  · cases counts : countPos c.travel c.endZone p x.overrun d with
    | moved q o =>
      rw [placedAxis_moved taut counts, placedAxis_moved (x := countedAxis x d) taut counts]
      exact ⟨rfl, rfl, rfl, rfl, rfl, .inl rfl, rfl, rfl, rfl⟩
    | discarded =>
      rw [placedAxis_discarded taut counts, placedAxis_discarded (x := countedAxis x d) taut counts]
      exact ⟨rfl, rfl, rfl, rfl, rfl, .inl rfl, rfl, rfl, rfl⟩
  · rw [placedAxis_lash slack, placedAxis_lash (x := countedAxis x d) slack]
    exact ⟨rfl, rfl, rfl, rfl, rfl, .inl rfl, rfl, rfl, rfl⟩

/-- Beyond what a count moves on its own axis, it is control alone. -/
theorem applyCount_controls {s : State} {a : AxisNo} {c : AxisConfig} {p : Nat} (config : (s.ax a).config = some c)
    (placed : (s.ax a).pos = some p) (d : Dir) :
    Controls True (s.setAx a (placedAxis (s.ax a) c p d)) (s.applyCount a d) := by
  rcases Nat.eq_zero_or_pos (loadedLash (s.ax a) c d) with taut | slack
  · cases counts : countPos c.travel c.endZone p (s.ax a).overrun d with
    | moved q o =>
      rw [placedAxis_moved taut counts]
      by_cases same : q = p
      · subst same
        rw [applyCount_stays config placed taut counts, ← placed]
        exact Controls.refl _
      · rw [applyCount_moves config placed taut counts same]
        exact (Controls.refl _).positionChange trivial a _ _
    | discarded =>
      rw [placedAxis_discarded taut counts, applyCount_discards config placed taut counts]
      exact (Controls.refl _).overrunLimit trivial a d
  · rw [placedAxis_lash slack, applyCount_lash config placed slack]
    exact Controls.refl _

/-- A count settled keeps all that is measured, but for what the count itself moves. -/
theorem count_measured {s : State} {a : AxisNo} {c : AxisConfig} {p : Nat} (config : (s.ax a).config = some c)
    (placed : (s.ax a).pos = some p) (d : Dir) (b : AxisNo) :
    Measured ((s.setAx a (placedAxis (s.ax a) c p d)).ax b) ((s.count a d).settle.ax b) := by
  have same : (s.setAx a (countedAxis (s.ax a) d)).ax a = countedAxis (s.ax a) d := ax_setAx_self _ _ _
  have control := (((applyCount_controls (s := s.setAx a (countedAxis (s.ax a) d)) (a := a) (by rw [same]; exact config)
    (by rw [same]; exact placed) d).afterCount trivial a d (s.ax a).pos).axes b).toMeasured
  rw [← count_eq, setAx_setAx, same] at control
  refine Measured.trans ?_ (control.trans (settle_measured _ b))
  by_cases e : b = a
  · subst e
    rw [ax_setAx_self, ax_setAx_self]
    exact placedAxis_counted _ _ _ _
  · rw [ax_setAx_ne _ _ e, ax_setAx_ne _ _ e]
    exact Measured.refl _

theorem afterCount_halted {s : State} {a : AxisNo} (marked : (s.ax a).noStop = true) (driving : (s.ax a).motion ≠ .driving)
    (backoff : (s.ax a).motion ≠ .backoff) (d : Dir) (old : Option Nat) : afterCount s a d old = s := by
  have search : s.checkSearch a = s := by
    unfold State.checkSearch
    simp [marked]
  unfold afterCount
  rw [search, backoffCount_still (.inl backoff)]
  exact if_neg driving

/-- A count beyond the end zone of a driven axis toward that bound is a missing stop, and all that the count does is that
(R10). -/
theorem count_noStop {s : State} {a : AxisNo} {c : AxisConfig} {p : Nat} {d : Dir} (driving : (s.ax a).motion = .driving)
    (other : (s.ax a).homing = false) (config : (s.ax a).config = some c) (placed : (s.ax a).pos = some p)
    (taut : loadedLash (s.ax a) c d = 0) (toward : (s.ax a).driveDir = d) (first : (s.ax a).noStop = false)
    (counts : countPos c.travel c.endZone p (s.ax a).overrun d = .discarded) :
    let y : Axis := { s.ax a with
      rampCounts := if (s.ax a).phase = some .ramp ∧ (s.ax a).driveDir = d then (s.ax a).rampCounts + 1
        else (s.ax a).rampCounts
      lashDir := d, lashRem := 0 }
    s.count a d = ((((s.setAx a y).setAx a { y with noStop := true }).raiseFault a .noStop .overrun none none).suspect a
      .noStop).passSince (s.setAx a y) := by
  intro y
  have counted : countedAxis (s.ax a) d = { s.ax a with
      rampCounts := if (s.ax a).phase = some .ramp ∧ (s.ax a).driveDir = d then (s.ax a).rampCounts + 1
        else (s.ax a).rampCounts } := by
    rw [countedAxis_moving (by simp [driving, Motion.still]) other]
    simp only [driving, true_and]
  have applied : (s.setAx a (countedAxis (s.ax a) d)).applyCount a d = ((((s.setAx a y).setAx a { y with
      noStop := true }).raiseFault a .noStop .overrun none none).suspect a .noStop).passSince (s.setAx a y) := by
    rw [counted, applyCount_discards (c := c) (p := p) (by rw [ax_setAx_self]; exact config) (by rw [ax_setAx_self]; exact placed)
      (by rw [ax_setAx_self]; exact taut) (by rw [ax_setAx_self]; exact counts), ax_setAx_self, setAx_setAx, overrunLimit_eq,
      ax_setAx_self, if_neg (fun k => absurd (other.symm.trans k.1) Bool.false_ne_true), if_pos ⟨.inl driving, toward⟩,
      if_neg (fun k => absurd (first.symm.trans k) Bool.false_ne_true)]
  obtain ⟨t, stopping, noStop, halting⟩ := raiseFault_halts (s := (s.setAx a y).setAx a { y with noStop := true }) (a := a)
    (by rw [ax_setAx_self]; exact driving) .noStop .overrun none
  have halted := ((halting.suspect a .noStop).passSince (s.setAx a y)) a
  rw [count_eq, applied]
  refine afterCount_halted (halted.noStop.trans (noStop.trans ?_)) (fun e => ?_) (fun e => ?_) _ _
  · rw [ax_setAx_self]
  · simp [halted.driving e] at stopping
  · simp [halted.backoff e] at stopping

/-- The current move is within a distance of its target. -/
def Within (x : Axis) (m : MoveRec) (n : Nat) : Prop := ∃ p, x.pos = some p ∧ apart m.target p ≤ n

/-- The phase of a drive whose ramp may have run out (R35). -/
def grownPhase (x : Axis) (m : MoveRec) (ph : Phase) : Phase :=
  if ph = .ramp ∧ m.profile.rampUp ≤ x.rampCounts then .cruise else ph

open Classical in
/-- The phases of a drive and its cut (R35, R44). -/
theorem advance_eq {s : State} {a : AxisNo} {m : MoveRec} {ph : Phase} (moves : (s.ax a).move = some m)
    (phase : (s.ax a).phase = some ph) : s.advance a =
      if (s.ax a).homing = true then s
      else if m.endFlag = false ∧ Within (s.ax a) m (if ph = .correct then m.profile.tolerance else m.profile.coast) then
        s.startStop a (.completion .correct) .coast
      else s.setAx a { s.ax a with
        phase := some (if (grownPhase (s.ax a) m ph = .ramp ∨ grownPhase (s.ax a) m ph = .cruise) ∧
            Within (s.ax a) m m.profile.creepZone then .creep else grownPhase (s.ax a) m ph) } := by
  cases placed : (s.ax a).pos with
  | none =>
    have far : (s.ax a).remaining = none := by simp [Axis.remaining, moves, placed]
    have out (n : Nat) : ¬ Within (s.ax a) m n := by simp [Within, placed]
    simp only [State.advance, grownPhase, moves, phase, far, out, Bool.and_false, Bool.false_eq_true, and_false, if_false,
      modAx_eq]
  | some p =>
    have far : (s.ax a).remaining = some (apart m.target p) := by simp [Axis.remaining, moves, placed]
    have out (n : Nat) : Within (s.ax a) m n ↔ apart m.target p ≤ n := by simp [Within, placed]
    simp only [State.advance, grownPhase, moves, phase, far, out, Bool.and_eq_true, Bool.not_eq_true', decide_eq_true_eq,
      modAx_eq]

theorem startStop_eq (s : State) (a : AxisNo) (dest : Dest) (mode : StopMode) : s.startStop a dest mode =
    s.setAx a { s.ax a with
      motion := .stopping, phase := none, blanking := false, backoff := none,
      check := (s.ax a).check.map (fun k => { k with pulse := none }),
      stop := some ⟨dest, mode, s.dutyNow a, decide (mode = .controlled), 0, false, false⟩ } := rfl

section

variable {s : State} {a : AxisNo} {m : MoveRec} {ph : Phase} (moves : (s.ax a).move = some m) (phase : (s.ax a).phase = some ph)
include moves phase

theorem advance_homing (homing : (s.ax a).homing = true) : s.advance a = s := by
  rw [advance_eq moves phase, if_pos homing]

theorem advance_cuts (other : (s.ax a).homing = false)
    (cut : m.endFlag = false ∧ Within (s.ax a) m (if ph = .correct then m.profile.tolerance else m.profile.coast)) :
    s.advance a = s.setAx a { s.ax a with
      motion := .stopping, phase := none, blanking := false, backoff := none,
      check := (s.ax a).check.map (fun k => { k with pulse := none }),
      stop := some ⟨.completion .correct, .coast, s.dutyNow a, false, 0, false, false⟩ } := by
  rw [advance_eq moves phase, if_neg (by simp [other]), if_pos cut, startStop_eq]
  rfl

theorem advance_slows (other : (s.ax a).homing = false)
    (on : ¬ (m.endFlag = false ∧ Within (s.ax a) m (if ph = .correct then m.profile.tolerance else m.profile.coast)))
    (slow : (grownPhase (s.ax a) m ph = .ramp ∨ grownPhase (s.ax a) m ph = .cruise) ∧
      Within (s.ax a) m m.profile.creepZone) : s.advance a = s.setAx a { s.ax a with phase := some .creep } := by
  rw [advance_eq moves phase, if_neg (by simp [other]), if_neg on, if_pos slow]

theorem advance_goesOn (other : (s.ax a).homing = false)
    (on : ¬ (m.endFlag = false ∧ Within (s.ax a) m (if ph = .correct then m.profile.tolerance else m.profile.coast)))
    (fast : ¬ ((grownPhase (s.ax a) m ph = .ramp ∨ grownPhase (s.ax a) m ph = .cruise) ∧
      Within (s.ax a) m m.profile.creepZone)) :
    s.advance a = s.setAx a { s.ax a with phase := some (grownPhase (s.ax a) m ph) } := by
  rw [advance_eq moves phase, if_neg (by simp [other]), if_neg on, if_neg fast]

end

/-- Settles O48: the count by its parts, and each part by its cases. -/
theorem countsMoveLashOverrunAndPosition : Obligations.CountsMoveLashOverrunAndPosition := by
  unfold Obligations.CountsMoveLashOverrunAndPosition
  refine ⟨fun s a d c p h powered config placed => ?measured, fun s a d => ?limit, fun s a k => ⟨fun fallen => ?_, fun valid => ?_⟩,
    fun s a c config => ?search, fun s a d c p h awake driving other config placed => ?noStop,
    fun s a d c h powered config => ?parts, fun s a d old => ⟨fun k backing stored step moved => ⟨fun far => ?_, fun near => ?_⟩,
      backoffCount_still⟩, fun s a m ph moves phase => ?advance, fun p q => ?_⟩
  case measured =>
    intro x loaded outward returning
    have kept := count_measured (s := handWoken s) (by rw [handWoken_ax]; exact config) (by rw [handWoken_ax]; exact placed) d
    rw [handWoken_ax] at kept
    have own := kept a
    rw [ax_setAx_self] at own
    obtain ⟨dir, record, heat, lockout, check⟩ := placedAxis_cases x c p d
    refine ⟨_, exec_count h powered a d, own.lashDir.trans dir, own.config.trans record, own.heat.trans heat,
      own.lockout.trans lockout, own.lastCheck.trans check, fun b ne => ?_, fun slack => ?_, fun taut => ⟨?_, fun back => ?_,
        fun back within inward => ?_, fun back out room => ?_, fun back out full => ?_⟩⟩
    · have other := kept b
      rw [ax_setAx_ne _ _ ne, handWoken_ax] at other
      exact other
    · rw [placedAxis_lash slack] at own
      exact ⟨own.lashRem, own.pos.trans placed, own.overrun⟩
    · exact own.lashRem.trans (placedAxis_taut taut)
    · rw [placedAxis_moved taut (countPos_returning back)] at own
      exact ⟨own.pos, own.overrun⟩
    · rw [placedAxis_moved taut (countPos_inward back within inward)] at own
      exact ⟨own.overrun, own.pos.trans (by cases d <;> rfl)⟩
    · rw [placedAxis_moved taut (countPos_beyond back out room)] at own
      exact ⟨own.pos, own.overrun⟩
    · rw [placedAxis_discarded taut (countPos_discarded back out full)] at own
      exact ⟨own.pos.trans placed, own.overrun⟩
  case limit =>
    intro x seeking toward
    have unmarked_iff : x.noStop = false ↔ ¬ (s.ax a).noStop = true := by simp [x]
    rw [overrunLimit_eq]
    exact ⟨fun seeks => if_pos seeks, fun idle driven marked => by rw [if_neg idle, if_pos driven, if_pos marked],
      fun idle driven unmarked => by rw [if_neg idle, if_pos driven, if_neg (unmarked_iff.mp unmarked)],
      fun idle other => by rw [if_neg idle, if_neg other]⟩
  case search =>
    rw [checkSearch_eq config]
    exact ⟨fun due => if_pos due, fun undue => if_neg undue⟩
  case noStop =>
    intro x loaded y taut toward first travel full bound v
    have counts : countPos c.travel c.endZone p x.overrun d = .discarded := by
      subst bound
      refine countPos_discarded ?_ ?_ full
      · cases d <;> simp [returningAt] <;> omega
      · cases d <;> simp [outwardAt]
    have stops := count_noStop driving other config placed taut toward first counts
    rw [exec_count h (.inl awake), handWoken_awake (awake_of_runs awake), stops]
  case parts =>
    intro w x one counted goesOn loaded y
    have refEnd : (x.config.map AxisConfig.refEnd).getD .low = c.refEnd := by simp [x, config]
    have begun : countedAxis x d = counted := by
      simp only [countedAxis, still_iff, refEnd]
      cases d <;> rfl
    have same : (w.setAx a counted).ax a = counted := ax_setAx_self _ _ _
    have record : ((w.setAx a counted).ax a).config = some c := by rw [same]; exact config
    have goes {v : State} (e : (w.setAx a counted).applyCount a d = v) : goesOn v := by
      subst e
      have run := exec_count h powered a d
      rw [count_eq, handWoken_ax, begun] at run
      exact run
    refine ⟨fun unplaced => goes (applyCount_unplaced (by rw [same]; exact unplaced) d), fun p at_p => ?_⟩
    intro outward returning
    have placed : ((w.setAx a counted).ax a).pos = some p := by rw [same]; exact at_p
    have lash (h : loaded = 0) : y = { counted with lashDir := d, lashRem := 0 } := by simp only [y, h]
    refine ⟨fun slack => goes ?_, fun taut back => goes ?_, fun taut back within inward => goes ?_,
      fun taut back out room => goes ?_, fun taut back out full => goes ?_⟩
    · rw [applyCount_lash record placed (by rw [same]; exact slack), same, setAx_setAx]
      rfl
    · rw [applyCount_stays record placed (by rw [same]; exact taut) (by rw [same]; exact countPos_returning back), same,
        setAx_setAx, lash taut]
    · rw [applyCount_moves record placed (by rw [same]; exact taut) (by rw [same]; exact countPos_inward back within inward)
        (stepTo_ne inward), same, setAx_setAx, lash taut]
      cases d <;> rfl
    · rw [applyCount_stays record placed (by rw [same]; exact taut) (by rw [same]; exact countPos_beyond back out room), same,
        setAx_setAx, lash taut]
    · rw [applyCount_discards record placed (by rw [same]; exact taut) (by rw [same]; exact countPos_discarded back out full),
        same, setAx_setAx, lash taut]
  case advance =>
    exact ⟨advance_homing moves phase, advance_cuts moves phase, advance_slows moves phase, advance_goesOn moves phase⟩
  · exact suspect_fallen fallen k
  · exact suspect_valid valid k
  · rw [backoffCount_reverse backing stored step moved, if_pos far]
  · rw [backoffCount_reverse backing stored step moved, if_neg (Int.not_le.mpr near)]
  · unfold apart
    split <;> omega

end Sys2Proof.Proofs

/-! ### Hard stops -/

namespace Sys2Proof.Laws

open Sys2Proof.Machine Sys2Proof.Safety

/-- An axis re-synchronised at the bound in a direction (R12). -/
def placedAt (y : Axis) (c : AxisConfig) (d : Dir) : Axis :=
  { y with pos := some (boundAt c.travel d), overrun := 0, lashDir := d, lashRem := 0, ref := .valid }

section

variable {s : State} {a : AxisNo} {c : AxisConfig} (config : (s.ax a).config = some c)
include config

theorem setAtBound_eq (d : Dir) : s.setAtBound a d = s.setAx a (placedAt (s.ax a) c d) := by
  have travel : s.travel a = c.travel := by simp [State.travel, config]
  unfold State.setAtBound
  rw [travel]
  rfl

theorem resync_eq (d : Dir) : s.resync a d =
    if (s.ax a).ref = .valid then s.setAx a (placedAt (s.ax a) c d)
    else (s.setAx a (placedAt (s.ax a) c d)).report
      (.reference a (s.ax a).ref .valid .resync (some (boundAt c.travel d))) := by
  unfold State.resync
  simp only [setAtBound_eq config, ax_setAx_self]
  rfl

theorem homeAt_eq (d : Dir) : s.homeAt a d =
    (s.setAx a { placedAt (s.ax a) c d with stalled := true }).report
      (.reference a (s.ax a).ref .valid .home (some (boundAt c.travel d))) := by
  unfold State.homeAt
  simp only [setAtBound_eq config, modAx_eq, ax_setAx_self, setAx_setAx]
  rfl

end

theorem handOn_eq {s : State} {a : AxisNo} {p : Nat} (at_p : (s.ax a).pos = some p) (old : Option Nat) :
    s.handOn a old = if old = some p then s else s.positionChange a old false := by
  unfold State.handOn
  rw [at_p]
  simp only [eq_comm]

/-- The axis stands at a bound with a VALID reference, nothing over and the lash taken up. -/
structure StandsAt (s : State) (a : AxisNo) (p : Nat) (d : Dir) : Prop where
  pos : (s.ax a).pos = some p
  overrun : (s.ax a).overrun = 0
  lashDir : (s.ax a).lashDir = d
  lashRem : (s.ax a).lashRem = 0
  ref : (s.ax a).ref = .valid

/-- What a state keeps of another, but for one axis that keeps its record. -/
structure ReachedBut (a : AxisNo) (s t : State) : Prop where
  config : ∀ b, (t.ax b).config = (s.ax b).config
  pos : ∀ b, b ≠ a → (t.ax b).pos = (s.ax b).pos

theorem ReachedBut.of_controls {F : Prop} {a : AxisNo} {s u t : State} (k : Controls F s u)
    (config : (t.ax a).config = (u.ax a).config) (others : ∀ b, b ≠ a → t.ax b = u.ax b) : ReachedBut a s t where
  config b := by
    by_cases e : b = a
    · subst e
      exact config.trans (k.axes b).config
    · rw [others b e, (k.axes b).config]
  pos b ne := by rw [others b ne, (k.axes b).pos]

theorem skewFits_at {s t : State} {a : AxisNo} {p : Nat} (reached : ReachedBut a s t) (at_p : (t.ax a).pos = some p)
    (fits : ∀ b q, s.partner a = some b → (s.ax b).pos = some q → apart p q ≤ s.skewLimit a b) : SkewFits t a := by
  intro b p' q gang at_p' at_q
  rw [partner_congr reached.config] at gang
  have limit : t.skewLimit a b = s.skewLimit a b := by simp only [State.skewLimit, reached.config]
  rw [at_p, Option.some.injEq] at at_p'
  subst at_p'
  rw [limit]
  by_cases e : b = a
  · subst e
    rw [at_p, Option.some.injEq] at at_q
    simp [at_q, apart]
  · rw [reached.pos b e] at at_q
    exact fits b q gang at_q

/-- An axis that a hard stop placed at a bound stands there after all that follows; VALID, unless a skew is found. -/
theorem handOn_stands {s t : State} {a : AxisNo} {p : Nat} {d : Dir} (reached : ReachedBut a s t) (stands : StandsAt t a p d)
    (old : Option Nat) :
    let u := (t.handOn a old).settle
    (u.ax a).pos = some p ∧ (u.ax a).overrun = 0 ∧ (u.ax a).lashDir = d ∧ (u.ax a).lashRem = 0 ∧ (u.ax a).ref ≠ .unknown ∧
    ((∀ b q, s.partner a = some b → (s.ax b).pos = some q → apart p q ≤ s.skewLimit a b) → (u.ax a).ref = .valid) := by
  intro u
  have kept : Measured (t.ax a) (u.ax a) :=
    (((Controls.refl (F := True) t).handOn trivial a old).axes a).toMeasured.trans (settle_measured _ a)
  refine ⟨kept.pos.trans stands.pos, kept.overrun.trans stands.overrun, kept.lashDir.trans stands.lashDir,
    kept.lashRem.trans stands.lashRem, ?_, fun fits => ?_⟩
  · rcases kept.ref with e | ⟨-, e⟩
    · rw [e, stands.ref]
      decide
    · rw [e]
      decide
  · rw [settle_ref, handOn_eq stands.pos]
    split
    · exact stands.ref
    · rw [positionChange_ref (skewFits_at reached stands.pos fits)]
      exact stands.ref

theorem standsAt_placed {s : State} {a : AxisNo} {c : AxisConfig} (d : Dir) {y : Axis}
    (h : s.ax a = placedAt y c d) : StandsAt s a (boundAt c.travel d) d := by
  constructor <;> rw [h] <;> rfl

section

variable {s u : State} {a : AxisNo} {c : AxisConfig} {F : Prop} (k : Controls F s u) (config : (s.ax a).config = some c)
include k config

theorem resync_stands (d : Dir) : ReachedBut a s (u.resync a d) ∧ StandsAt (u.resync a d) a (boundAt c.travel d) d := by
  have own : (u.resync a d).ax a = placedAt (u.ax a) c d := by
    rw [resync_eq ((k.axes a).config.trans config)]
    split <;> simp [report_ax]
  refine ⟨.of_controls k (by rw [own]; rfl) (fun b ne => ?_), standsAt_placed d own⟩
  rw [resync_eq ((k.axes a).config.trans config)]
  split <;> simp [report_ax, ax_setAx_ne _ _ ne]

theorem homeAt_stands (d : Dir) : ReachedBut a s (u.homeAt a d) ∧ StandsAt (u.homeAt a d) a (boundAt c.travel d) d := by
  have eq := homeAt_eq ((k.axes a).config.trans config) d
  have own : (u.homeAt a d).ax a = { placedAt (u.ax a) c d with stalled := true } := by rw [eq, report_ax, ax_setAx_self]
  refine ⟨.of_controls k (by rw [own]; rfl) (fun b ne => ?_), ?_⟩
  · rw [eq, report_ax, ax_setAx_ne _ _ ne]
  · constructor <;> rw [own] <;> rfl

end

end Sys2Proof.Laws

/-! ### Stalls -/

namespace Sys2Proof.Laws

open Sys2Proof.Machine Sys2Proof.Safety

theorem reversing_iff (x : Axis) :
    x.reversing = true ↔ x.motion = .backoff ∧ ∃ k, x.backoff = some k ∧ k.step = .reverse := by
  unfold Axis.reversing
  cases x.motion <;> cases x.backoff <;> simp

theorem watched_iff (x : Axis) : x.watched = true ↔ x.blanking = false ∧
    (x.motion = .driving ∨ (x.motion = .backoff ∧ ∃ k, x.backoff = some k ∧ k.step = .reverse)) := by
  simp only [Axis.watched, Bool.and_eq_true, Bool.not_eq_true', Bool.or_eq_true, decide_eq_true_eq, reversing_iff]

theorem backoffDue_iff (x : Axis) (z : Pinch) : x.backoffDue = some z ↔
    x.motion = .driving ∧ x.homing = false ∧ (∃ c, x.config = some c ∧ c.pinch = some z) ∧
      (∃ p, x.pos = some p ∧ z.lo ≤ p ∧ p ≤ z.hi) ∧ x.driveDir = z.dir ∧ 0 < z.distance := by
  unfold Axis.backoffDue
  rw [← Option.bind_eq_some_iff]
  split
  · next z' p zone at_p =>
    rw [zone]
    constructor
    · intro h
      obtain ⟨⟨driving, lo, hi, toward, far, other⟩, e⟩ := Option.ite_none_right_eq_some.mp h
      simp only [Option.some.injEq] at e
      subst e
      exact ⟨driving, by simpa using other, rfl, ⟨p, at_p, lo, hi⟩, toward, far⟩
    · rintro ⟨driving, other, e, ⟨p', at_p', lo, hi⟩, toward, far⟩
      simp only [Option.some.injEq] at e
      subst e
      rw [at_p, Option.some.injEq] at at_p'
      subst at_p'
      exact if_pos ⟨driving, lo, hi, toward, far, by simp [other]⟩
  · next none =>
    simp only [reduceCtorEq, false_iff]
    rintro ⟨-, -, zone, ⟨p, at_p, -⟩, -⟩
    exact none z p zone at_p

theorem inEndZone_iff (travel endZone p : Nat) (d : Dir) : inEndZone travel endZone p d = true ↔
    match d with
    | .low => p ≤ endZone
    | .high => travel ≤ p + endZone := by
  cases d <;> simp [inEndZone]

/-- One axis whose backoff is cut short (R59, R78). -/
theorem cutShort_eq (x : Axis) (mode : StopMode) (arrived : Bool) : x.cutShort mode arrived = { x with
    motion := .stopping, blanking := false, backoff := none,
    fault := x.fault.map (fun f => if f.kind = .obstruction then { f with backoff := .cutShort } else f),
    stop := some ⟨if x.fault = none then .idle false else .fault, mode, 0, false, 0, false, arrived⟩ } := by
  unfold Axis.cutShort
  cases x.fault <;> rfl

/-- What a cut backoff makes of an axis. -/
def cutAxis (mode : StopMode) (x : Axis) : Axis :=
  match x.backoff with
  | none => x
  | some k => x.cutShort mode k.rest

theorem setAx_comm (s : State) {a b : AxisNo} (ne : a ≠ b) (x y : Axis) :
    (s.setAx a x).setAx b y = (s.setAx b y).setAx a x := by
  have places : (a : Nat) ≠ (b : Nat) := fun e => ne (Fin.ext e)
  unfold State.setAx
  dsimp only
  rw [Vector.set_comm _ _ places]

theorem cutBackoff_alone {s : State} {a : AxisNo} (alone : s.partner a = none) (mode : StopMode) :
    s.cutBackoff a mode = s.setAx a (cutAxis mode (s.ax a)) := by
  unfold State.cutBackoff
  rw [members_alone alone]
  simp only [List.foldl_cons, List.foldl_nil, modAx_eq, if_true]
  rfl

theorem cutBackoff_gang {s : State} {a b : AxisNo} (gang : s.partner a = some b) (ne : b ≠ a) (mode : StopMode) :
    s.cutBackoff a mode = (s.setAx a (cutAxis mode (s.ax a))).setAx b (cutAxis .quick (s.ax b)) := by
  have fold : s.cutBackoff a mode = (s.members a).foldl (fun t b =>
      t.setAx b (cutAxis (if b = a then mode else .quick) (t.ax b))) s := rfl
  rw [fold, members_gang gang]
  split
  · simp [ne, ax_setAx_ne _ _ ne]
  · simp [ne, ax_setAx_ne _ _ ne.symm, setAx_comm s ne.symm]

theorem exec_stall {s : State} (h : s.power.inReset = false) (a : AxisNo) : exec (.stall a) s =
    .next (State.settle (if (s.ax a).watched then (if (s.ax a).motion = .driving then s.stallDriving a else s.stallReversing a)
      else s)) := by
  simp only [exec, execStall, event_runs h]

section

variable {s : State} {a : AxisNo} {c : AxisConfig} {p : Nat}

theorem stallDriving_homing (homing : (s.ax a).homing = true) : s.stallDriving a =
    ((s.stallStop a .done).homeAt a (s.ax a).driveDir).handOn a (s.ax a).pos := if_pos homing

theorem stallDriving_bound (other : (s.ax a).homing = false) (config : (s.ax a).config = some c) (at_p : (s.ax a).pos = some p)
    (zone : inEndZone c.travel c.endZone p (s.ax a).driveDir = true) : s.stallDriving a =
      ((s.stallStop a (stallOutcome (s.ax a).move)).resync a (s.ax a).driveDir).handOn a (s.ax a).pos := by
  simp [State.stallDriving, other, config, at_p, zone]

theorem stallDriving_out (other : (s.ax a).homing = false) (config : (s.ax a).config = some c) (at_p : (s.ax a).pos = some p)
    (out : inEndZone c.travel c.endZone p (s.ax a).driveDir = false) : s.stallDriving a = s.obstruct a .stall := by
  simp [State.stallDriving, other, config, at_p, out]

theorem stallDriving_unplaced (other : (s.ax a).homing = false) (unplaced : (s.ax a).pos = none) :
    s.stallDriving a = s.stallStop a (stallOutcome (s.ax a).move) := by
  cases config : (s.ax a).config <;> simp [State.stallDriving, other, config, unplaced]

theorem stallReversing_bound (config : (s.ax a).config = some c) (at_p : (s.ax a).pos = some p)
    (zone : inEndZone c.travel c.endZone p (s.ax a).driveDir = true) : s.stallReversing a =
      (((s.cutBackoff a .coast).passSince s).resync a (s.ax a).driveDir).handOn a (s.ax a).pos := by
  simp [State.stallReversing, config, at_p, zone]

theorem stallReversing_out (config : (s.ax a).config = some c) (at_p : (s.ax a).pos = some p)
    (out : inEndZone c.travel c.endZone p (s.ax a).driveDir = false) : s.stallReversing a = s.obstruct a .stall := by
  simp [State.stallReversing, config, at_p, out]

theorem stallReversing_unplaced (unplaced : (s.ax a).pos = none) :
    s.stallReversing a = (s.cutBackoff a .coast).passSince s := by
  cases config : (s.ax a).config <;> simp [State.stallReversing, config, unplaced]

end

end Sys2Proof.Laws

namespace Sys2Proof.Proofs

open Sys2Proof.Machine Sys2Proof.Laws Sys2Proof.Safety

/-- Settles O53: the branches of the stall, each with what it makes of the axis. -/
theorem stallIsClassified : Obligations.StallIsClassified := by
  unfold Obligations.StallIsClassified
  refine ⟨fun s a h => ?_, backoffDue_iff⟩
  intro x d reversing driving coasts outcome bound inZone placed handed resynced cut rested ended atBound
  have run := exec_stall h a
  have drives (on : driving) : exec (.stall a) s = .next (s.stallDriving a).settle := by
    rw [run, if_pos ((watched_iff _).mpr ⟨on.1, .inl on.2⟩), if_pos on.2]
  have reverses (clear : x.blanking = false) (back : reversing) : exec (.stall a) s = .next (s.stallReversing a).settle := by
    rw [run, if_pos ((watched_iff _).mpr ⟨clear, .inr back⟩), if_neg (by simp [x, back.1] )]
  have stops (o : MoveOutcome) : s.stallStop a o = s.setAx a (coasts o) := by
    unfold State.stallStop
    rw [startStop_eq, modAx_eq, ax_setAx_self, setAx_setAx]
    rfl
  have ends (alone : s.partner a ≠ some a) (back : reversing) : s.cutBackoff a .coast = ended := by
    obtain ⟨-, k, stored, -⟩ := back
    have own : cutAxis .coast x = cut x .coast (rested x) := by
      simp only [cutAxis, rested, stored, cutShort_eq]
      rfl
    simp only [ended]
    cases gang : s.partner a with
    | none => rw [cutBackoff_alone gang, own]
    | some b =>
      have ne : b ≠ a := fun e => alone (e ▸ gang)
      rw [cutBackoff_gang gang ne, own]
      dsimp only
      cases stored' : (s.ax b).backoff with
      | none =>
        have still : cutAxis .quick (s.ax b) = ((s.setAx a (cut x .coast (rested x))).ax b) := by
          simp [cutAxis, stored', ax_setAx_ne _ _ ne]
        rw [still, setAx_self]
      | some j =>
        simp only [cutAxis, stored', cutShort_eq]
        rfl
  refine ⟨fun unwatched => ?_, fun c on homing config => ?_, fun c p on other config at_p zone => ?_,
    fun c p on other config at_p out => ?_, fun on other unplaced => ?_, fun alone => ⟨fun c p clear back config at_p zone => ?_,
      fun clear back unplaced => ?_⟩, fun c p clear back config at_p out => ?_⟩
  · rw [run, if_neg]
    rintro watched
    obtain ⟨clear, on | back⟩ := (watched_iff _).mp watched
    · rcases unwatched with blank | ⟨still, -⟩
      · exact absurd (clear.symm.trans blank) Bool.false_ne_true
      · exact still on
    · rcases unwatched with blank | ⟨-, still⟩
      · exact absurd (clear.symm.trans blank) Bool.false_ne_true
      · exact still back
  · have e := drives on
    rw [stallDriving_homing homing] at e
    obtain ⟨reached, stands⟩ := homeAt_stands ((Controls.refl (F := False) s).stallStop a .done) config d
    refine ⟨⟨_, e, handOn_stands reached stands x.pos⟩, ?_⟩
    rw [e, handOn_eq stands.pos, stops, homeAt_eq (c := c) (by rw [ax_setAx_self]; exact config), ax_setAx_self, setAx_setAx]
    rfl
  · have e := drives on
    rw [stallDriving_bound other config at_p ((inEndZone_iff _ _ _ _).mpr zone)] at e
    have control := (Controls.refl (F := False) s).stallStop a (stallOutcome x.move)
    obtain ⟨reached, stands⟩ := resync_stands control config d
    refine ⟨⟨_, e, handOn_stands reached stands x.pos⟩, ?_⟩
    rw [e, handOn_eq stands.pos, resync_eq ((control.axes a).config.trans config), control.ref_eq, stops]
    rfl
  · rw [drives on, stallDriving_out other config at_p (by simpa using mt (inEndZone_iff _ _ _ _).mp out)]
    rfl
  · rw [drives on, stallDriving_unplaced other unplaced, stops]
    rfl
  · have e := reverses clear back
    rw [stallReversing_bound config at_p ((inEndZone_iff _ _ _ _).mpr zone)] at e
    have control := ((Controls.refl (F := False) s).cutBackoff a .coast).passSince s
    obtain ⟨reached, stands⟩ := resync_stands control config d
    refine ⟨⟨_, e, handOn_stands reached stands x.pos⟩, ?_⟩
    rw [e, handOn_eq stands.pos, resync_eq ((control.axes a).config.trans config), control.ref_eq, ends alone back]
    rfl
  · rw [reverses clear back, stallReversing_unplaced unplaced, ends alone back]
  · have undue : (s.ax a).backoffDue = none := by
      rw [Option.eq_none_iff_forall_not_mem]
      intro z due
      exact absurd (((backoffDue_iff _ z).mp due).1.symm.trans back.1) (by decide)
    rw [reverses clear back, stallReversing_out config at_p (by simpa using mt (inEndZone_iff _ _ _ _).mp out), State.obstruct,
      undue]

end Sys2Proof.Proofs

/-! ### The wake -/

namespace Sys2Proof.Laws

open Sys2Proof.Machine Sys2Proof.Safety

theorem wakeBy_asleep {s : State} (h : s.power.inReset = false) (asleep : s.power.state = .sleep) (c : WakeCause) :
    s.wakeBy c = if s.power.wakeCause = none then { s with power := { s.power with wakeCause := some c } } else s := by
  simp only [State.wakeBy, h, asleep, true_and]

theorem wakeBy_awake {s : State} (awake : s.power.state ≠ .sleep) (c : WakeCause) : s.wakeBy c = s :=
  if_neg (fun k => awake k.2.1)

/-- The charged axes and their draws are the budget in use. -/
theorem inUse_of_axes {s t : State} (charged : ∀ a, (t.ax a).charged = (s.ax a).charged)
    (config : ∀ a, (t.ax a).config = (s.ax a).config) : t.inUse = s.inUse := by
  simp only [State.inUse, State.draw, charged, config]

theorem supplyReport_eq {s : State} {r : Report} {cause : SupplyCause} : (s.report r).supplyReport cause =
    (s.report r).report (.supply cause s.supply.band s.supply.thermal s.supply.handshake s.supply.shareReq s.supply.shareAck
      s.supply.avail s.inUse) := by
  have use : (s.report r).inUse = s.inUse := Proofs.inUse_congr (report_axes s r)
  simp only [State.supplyReport, report_supply, use]

/-- Between two states nothing but the axes and the reports has changed, and the reports have only grown. -/
structure TellsOnly (s t : State) : Prop where
  rest : ∃ axes link, t = { s with axes := axes, link := link } ∧ link.rx = s.link.rx
  reports : ∃ more, t.link.reports = s.link.reports ++ more

theorem TellsOnly.refl (s : State) : TellsOnly s s := ⟨⟨_, _, rfl, rfl⟩, [], by simp⟩

theorem TellsOnly.trans {s t u : State} (h : TellsOnly s t) (k : TellsOnly t u) : TellsOnly s u := by
  obtain ⟨⟨x, l, rfl, rx⟩, more, e⟩ := h
  obtain ⟨⟨y, m, rfl, rx'⟩, more', e'⟩ := k
  exact ⟨⟨y, m, rfl, rx'.trans rx⟩, more ++ more', by rw [e', e, List.append_assoc]⟩

theorem TellsOnly.modAx (s : State) (a : AxisNo) (f : Axis → Axis) : TellsOnly s (s.modAx a f) :=
  ⟨⟨_, _, rfl, rfl⟩, [], by simp⟩

theorem TellsOnly.report (s : State) (r : Report) : TellsOnly s (s.report r) := by
  unfold State.report
  split
  · exact ⟨⟨_, _, rfl, rfl⟩, [r], rfl⟩
  · exact ⟨⟨_, _, rfl, rfl⟩, [], by simp⟩

theorem TellsOnly.foldl {α : Type} (s : State) (l : List α) (f : State → α → State) (hf : ∀ t a, TellsOnly t (f t a)) :
    TellsOnly s (l.foldl f s) := foldl_rel TellsOnly.refl TellsOnly.trans l f hf s

theorem TellsOnly.suspect (s : State) (a : AxisNo) (c : RefCause) : TellsOnly s (s.suspect a c) := by
  unfold State.suspect
  split
  · exact ((TellsOnly.modAx s a _).trans (.report _ _)).trans (.foldl _ _ _ (fun t b => .modAx t b _))
  · exact .refl s

theorem TellsOnly.closeEpisode (s : State) (a : AxisNo) : TellsOnly s (s.closeEpisode a) := by
  unfold State.closeEpisode
  split
  · exact .refl s
  · exact (TellsOnly.modAx s a _).trans (.report _ _)

section Walk

variable {σ ι α : Type} {get : σ → ι → α} {f : σ → ι → σ}

/-- A walk whose steps each touch their own place alone leaves every place it does not visit. -/
theorem foldl_elsewhere (others : ∀ t a b, b ≠ a → get (f t a) b = get t b) (l : List ι) (s : σ) {b : ι} (h : b ∉ l) :
    get (l.foldl f s) b = get s b := by
  induction l generalizing s with
  | nil => rfl
  | cons a l ih =>
    obtain ⟨ne, h⟩ := not_or.mp (mt List.mem_cons.mpr h)
    rw [List.foldl_cons, ih _ h, others _ _ _ ne]

/-- What each step of such a walk does to its own place, the walk does to every place of the list. -/
theorem foldl_pointwise {R : α → α → Prop} (own : ∀ t a, R (get t a) (get (f t a) a))
    (others : ∀ t a b, b ≠ a → get (f t a) b = get t b) {l : List ι} (nodup : l.Nodup) (s : σ) {b : ι} (mem : b ∈ l) :
    R (get s b) (get (l.foldl f s) b) := by
  induction l generalizing s with
  | nil => exact absurd mem List.not_mem_nil
  | cons a l ih =>
    obtain ⟨fresh, nodup⟩ := List.nodup_cons.mp nodup
    rw [List.foldl_cons]
    by_cases e : b = a
    · subst e
      rw [foldl_elsewhere others l _ fresh]
      exact own s b
    · rw [← others s a b e]
      exact ih nodup _ ((List.mem_cons.mp mem).resolve_left e)

end Walk

theorem ax_foldl_allAxes {α : Type} (g : Axis → α) (h : α → α) (f : State → AxisNo → State)
    (own : ∀ t a, g ((f t a).ax a) = h (g (t.ax a))) (others : ∀ t a b, b ≠ a → g ((f t a).ax b) = g (t.ax b)) (s : State)
    (b : AxisNo) : g ((allAxes.foldl f s).ax b) = h (g (s.ax b)) :=
  foldl_pointwise (get := fun t c => g (t.ax c)) (R := fun x y => y = h x) own others nodup_allAxes s (mem_allAxes b)

/-! #### The axes through a wake -/

/-- What of an axis a wake speaks of. -/
structure AxisView where
  config : Option AxisConfig
  ref : Ref
  pos : Option Nat
  episode : Option Episode
  heat : Nat
  lockout : Bool
  fault : Option FaultRec

def axisView (x : Axis) : AxisView := ⟨x.config, x.ref, x.pos, x.episode, x.heat, x.lockout, x.fault⟩

/-- An unwatched hand-movable axis falls to SUSPECT (R20). -/
def AxisView.doubted (v : AxisView) : AxisView :=
  { v with ref := if (v.config.map AxisConfig.handMovable).getD false = true ∧ v.ref = .valid then .suspect else v.ref }

/-- A rested episode closes (R19). -/
def AxisView.closed (v : AxisView) : AxisView :=
  { v with episode := if (v.episode.map Episode.rested).getD false then none else v.episode }

/-- What the fall of a reference does to the moves of the gang does not show in the view. -/
theorem axisView_forceCreep (s : State) (l : List AxisNo) (b : AxisNo) :
    axisView ((s.modAll l (fun x => { x with move := x.move.map (fun m => { m with forcedCreep := true }) })).ax b) =
      axisView (s.ax b) :=
  by
  rw [modAll_keeps axisView]
  exact fun _ => rfl

theorem axisView_suspect (s : State) (a : AxisNo) (c : RefCause) : axisView ((s.suspect a c).ax a) =
    { axisView (s.ax a) with ref := if (s.ax a).ref = .valid then .suspect else (s.ax a).ref } := by
  by_cases valid : (s.ax a).ref = .valid
  · rw [suspect_valid valid, if_pos valid, axisView_forceCreep, report_ax, ax_setAx_self]
    rfl
  · rw [suspect_fallen valid, if_neg valid]
    rfl

theorem axisView_suspect_ne (s : State) {a b : AxisNo} (ne : b ≠ a) (c : RefCause) :
    axisView ((s.suspect a c).ax b) = axisView (s.ax b) := by
  by_cases valid : (s.ax a).ref = .valid
  · rw [suspect_valid valid, axisView_forceCreep, report_ax, ax_setAx_ne _ _ ne]
  · rw [suspect_fallen valid]

theorem axisView_suspectUnwatched (s : State) (a : AxisNo) :
    axisView (s.suspectUnwatched.ax a) = (axisView (s.ax a)).doubted := by
  refine ax_foldl_allAxes axisView AxisView.doubted _ (fun t b => ?_) (fun t b c ne => ?_) s a
  · split
    · next movable =>
      rw [axisView_suspect]
      simp only [AxisView.doubted, axisView, movable, true_and]
    · next fixed =>
      simp [AxisView.doubted, axisView, fixed]
  · split
    · exact axisView_suspect_ne t ne _
    · rfl

theorem axisView_closeRested (s : State) (a : AxisNo) : axisView (s.closeRested.ax a) = (axisView (s.ax a)).closed := by
  refine ax_foldl_allAxes axisView AxisView.closed _ (fun t b => ?_) (fun t b c ne => ?_) s a
  · split
    · next rested =>
      unfold State.closeEpisode
      split
      · next none => simp [none] at rested
      · rw [report_ax, ax_modAx_self]
        simp only [AxisView.closed, axisView, rested, if_true]
    · next going =>
      simp only [AxisView.closed, axisView, going]
      rfl
  · split
    · unfold State.closeEpisode
      split
      · rfl
      · rw [report_ax, ax_modAx_ne _ _ ne]
    · rfl

end Sys2Proof.Laws

/-! ### The end of a wake -/

namespace Sys2Proof.Laws

open Sys2Proof.Machine Sys2Proof.Safety

/-- The part as it enters ACTIVE at the end of the wake time, before it tells anything (R200). -/
def begunWake (s : State) : State :=
  { s.modAll allAxes (Axis.credit s.power.sleepTime) with
    supply := s.supply.atWake, link := { s.link with rx := .hunt },
    power := { s.power with state := .active, dwell := none, sleepOpts := none, wakeCause := none } }

/-- The two reports of a wake (R200). -/
def wakeReports (s : State) (cause : WakeCause) (o : SleepOpts) : List Report :=
  [.wake cause s.power.sleepTime (some o), .supply .wake s.supply.band s.supply.thermal s.supply.handshake s.supply.shareReq
    s.supply.shareAck s.supply.atWake.avail s.inUse]

/-- The begun wake with WAKE and SUPPLY told. -/
def toldWake (s : State) (cause : WakeCause) (o : SleepOpts) : State :=
  (wakeReports s cause o).foldl State.report (begunWake s)

theorem begunWake_axes (s : State) : (begunWake s).axes = (s.modAll allAxes (Axis.credit s.power.sleepTime)).axes := by
  rw [begunWake]

theorem ax_begunWake (s : State) (a : AxisNo) : (begunWake s).ax a = (s.ax a).credit s.power.sleepTime := by
  rw [ax_congr (begunWake_axes s), ax_modAll_allAxes]

theorem inUse_begunWake (s : State) : (begunWake s).inUse = s.inUse :=
  inUse_of_axes (fun a => by rw [ax_begunWake]; rfl) (fun a => by rw [ax_begunWake]; rfl)

theorem wake_eq (s : State) (cause : WakeCause) (o : SleepOpts) : s.wake cause o =
    (if o.watch then toldWake s cause o else (toldWake s cause o).suspectUnwatched).closeRested := by
  have told : ((begunWake s).report (.wake cause s.power.sleepTime (some o))).supplyReport .wake = toldWake s cause o := by
    rw [supplyReport_eq, inUse_begunWake]
    rfl
  rw [← told]
  rfl

theorem ax_toldWake (s : State) (cause : WakeCause) (o : SleepOpts) (a : AxisNo) :
    (toldWake s cause o).ax a = (s.ax a).credit s.power.sleepTime := by
  simp only [toldWake, wakeReports, List.foldl_cons, List.foldl_nil, report_ax, ax_begunWake]

theorem toldWake_tells (s : State) (cause : WakeCause) (o : SleepOpts) : TellsOnly (begunWake s) (toldWake s cause o) :=
  .foldl _ _ _ .report

theorem report_reports {s : State} (room : s.link.reports.length < Config.reportQueueSize) (r : Report) :
    (s.report r).link.reports = s.link.reports ++ [r] := by
  rw [State.report, if_pos room]

theorem toldWake_reports {s : State} (room : s.link.reports.length ≤ 14) (cause : WakeCause) (o : SleepOpts) :
    (toldWake s cause o).link.reports = s.link.reports ++ wakeReports s cause o := by
  have size : Config.reportQueueSize = 16 := rfl
  have first := report_reports (s := begunWake s) (show s.link.reports.length < _ by omega) (.wake cause s.power.sleepTime (some o))
  have room' : ((begunWake s).report (.wake cause s.power.sleepTime (some o))).link.reports.length < Config.reportQueueSize := by
    rw [first, List.length_append]
    exact show s.link.reports.length + 1 < 16 by omega
  rw [toldWake, wakeReports, List.foldl_cons, List.foldl_cons, List.foldl_nil, report_reports room', first, List.append_assoc]
  rfl

theorem suspectUnwatched_tells (s : State) : TellsOnly s s.suspectUnwatched := by
  refine .foldl s _ _ (fun t a => ?_)
  split
  · exact .suspect t a _
  · exact .refl t

theorem closeRested_tells (s : State) : TellsOnly s s.closeRested := by
  refine .foldl s _ _ (fun t a => ?_)
  split
  · exact .closeEpisode t a
  · exact .refl t

/-- After it has told of the wake, the part only changes axes and tells more. -/
theorem wake_tells (s : State) (cause : WakeCause) (o : SleepOpts) : TellsOnly (toldWake s cause o) (s.wake cause o) := by
  rw [wake_eq]
  split
  · exact closeRested_tells _
  · exact (suspectUnwatched_tells _).trans (closeRested_tells _)

theorem axisView_wake (s : State) (cause : WakeCause) (o : SleepOpts) (a : AxisNo) : axisView ((s.wake cause o).ax a) =
    let v := axisView ((s.ax a).credit s.power.sleepTime)
    (if o.watch then v else v.doubted).closed := by
  rw [wake_eq, axisView_closeRested]
  split
  · rw [ax_toldWake]
  · rw [axisView_suspectUnwatched, ax_toldWake]

/-- The two walks of a wake, their steps by the record and the episode of the axis. -/
theorem suspectUnwatched_eq (s : State) : s.suspectUnwatched = allAxes.foldl (fun t a => match (t.ax a).config with
    | some c => if c.handMovable = true then t.suspect a .wake else t
    | none => t) s := by
  refine congrArg (fun f => allAxes.foldl f s) (funext fun t => funext fun a => ?_)
  cases config : (t.ax a).config with
  | none => simp
  | some c => simp

theorem closeRested_eq (s : State) : s.closeRested = allAxes.foldl (fun t a => match (t.ax a).episode with
    | some ⟨n, true⟩ => (t.setAx a { t.ax a with episode := none }).report (.handMoved a n (t.ax a).pos (t.ax a).ref)
    | _ => t) s := by
  refine congrArg (fun f => allAxes.foldl f s) (funext fun t => funext fun a => ?_)
  cases episode : (t.ax a).episode with
  | none => simp
  | some e =>
    obtain ⟨net, _ | _⟩ := e
    · simp
    · simp only [Option.map_some, Option.getD_some, if_true, State.closeEpisode, episode]
      rfl

end Sys2Proof.Laws

namespace Sys2Proof.Proofs

open Sys2Proof.Machine Sys2Proof.Safety Sys2Proof.Laws

theorem exec_wakeEvent (w : WakeSource) (s : State) : exec (.wakeEvent w) s = .next (wakeEffect w s).settle := rfl

/-- No wake event but the level of the WAKE pin changes anything while the part is not asleep. -/
theorem wakeEffect_awake {s : State} (awake : s.power.state ≠ .sleep) {w : WakeSource} (h : ∀ l, w ≠ .line l) :
    wakeEffect w s = s := by
  cases w with
  | rxEdge => exact wakeBy_awake awake _
  | line l => exact absurd rfl (h l)
  | hand => exact (congrArg (fun t => if s.wakesOnHand then t else s) (wakeBy_awake awake _)).trans (ite_self s)

theorem wakeEffect_line_awake {s : State} (awake : s.power.state ≠ .sleep) (l : Bool) :
    wakeEffect (.line l) s = { s with wakeLine := l } := by
  cases l with
  | false => rfl
  | true => exact wakeBy_awake (s := { s with wakeLine := true }) awake _

theorem wakeEndEffect_asleep {s : State} {cause : WakeCause} {o : SleepOpts} (asleep : s.power.state = .sleep)
    (woken : s.power.wakeCause = some cause) (opts : s.power.sleepOpts = some o) : wakeEndEffect s = s.wake cause o := by
  simp only [wakeEndEffect, asleep, woken, opts]

theorem wakeEndEffect_unwoken {s : State} (h : s.power.wakeCause = none) : wakeEndEffect s = s := by
  simp only [wakeEndEffect, h]
  cases s.power.state <;> rfl

end Sys2Proof.Proofs

namespace Sys2Proof.Proofs

open Sys2Proof.Machine Sys2Proof.Safety Sys2Proof.Laws

/-- What the axes are after a wake, field by field of what it speaks of (R200). -/
theorem ax_wake (s : State) (cause : WakeCause) (o : SleepOpts) (a : AxisNo) :
    ((s.wake cause o).ax a).heat = (s.ax a).heat - 2000 * s.power.sleepTime ∧
    ((s.wake cause o).ax a).config = (s.ax a).config ∧ ((s.wake cause o).ax a).pos = (s.ax a).pos ∧
    ((s.wake cause o).ax a).fault = (s.ax a).fault ∧
    ((s.wake cause o).ax a).lockout = ((s.ax a).credit s.power.sleepTime).lockout ∧
    ((s.wake cause o).ax a).episode = (axisView (s.ax a)).closed.episode ∧
    ((s.wake cause o).ax a).ref = if o.watch = true then (s.ax a).ref else (axisView (s.ax a)).doubted.ref := by
  have view := axisView_wake s cause o a
  simp only [axisView, AxisView.closed, AxisView.mk.injEq] at view
  obtain ⟨config, ref, pos, episode, heat, lockout, fault⟩ := view
  rw [config, ref, pos, episode, heat, lockout, fault]
  cases o.watch
  · exact ⟨rfl, rfl, rfl, rfl, rfl, rfl, rfl⟩
  · exact ⟨rfl, rfl, rfl, rfl, rfl, rfl, rfl⟩

/-- Settles O43: the first wake event names the cause, and the end of the wake time credits, judges, tells and doubts. -/
theorem wakeEndsTheSleep : Obligations.WakeEndsTheSleep := by
  unfold Obligations.WakeEndsTheSleep
  refine ⟨fun s running asleep => ⟨?_, ?_, rfl, fun o opts watch hand => ?_, fun o opts quiet => ?_⟩,
    fun w s running awake noLine => ?_, fun l s awake => ?_, fun s cause o running asleep woken opts => ?_,
    fun s running unwoken => ?_⟩
  · rw [exec_wakeEvent, wakeEffect, wakeBy_asleep running asleep]
  · rw [exec_wakeEvent, wakeEffect]
    exact congrArg (fun t : State => Host.Outcome.next t.settle) (wakeBy_asleep (s := { s with wakeLine := true }) running asleep _)
  · have wakes : s.wakesOnHand = true := by simp [State.wakesOnHand, opts, watch, hand]
    rw [exec_wakeEvent, wakeEffect, if_pos wakes, wakeBy_asleep running asleep]
  · have sleeps : ¬ s.wakesOnHand = true := by
      rcases quiet with h | h <;> simp [State.wakesOnHand, opts, h]
    rw [exec_wakeEvent, wakeEffect, if_neg sleeps]
  · rw [exec_wakeEvent, wakeEffect_awake awake noLine]
  · rw [exec_wakeEvent, wakeEffect_line_awake awake]
  · have ends : exec .wakeTimeEnd s = .next (s.wake cause o).settle :=
      (event_runs running _).trans (by rw [wakeEndEffect_asleep asleep woken opts])
    obtain ⟨⟨axes, link, rest, rx⟩, -⟩ := (toldWake_tells s cause o).trans (wake_tells s cause o)
    refine ⟨s.wake cause o, ends, ?_, by rw [rest]; rfl, fun a => ?_, by rw [rest]; rfl, by rw [rest]; exact rx,
      by rw [rest]; rfl, by rw [rest]; rfl, by rw [rest]; rfl, by rw [rest]; rfl, by rw [rest]; rfl, by rw [rest]; rfl,
      fun room => ?_, fun a => ?_⟩
    · rw [wake_eq, closeRested_eq, suspectUnwatched_eq, toldWake, wakeReports, ← inUse_begunWake]
      rfl
    · obtain ⟨-, -, -, -, -, episode, -⟩ := ax_wake s cause o a
      rw [episode]
      simp only [axisView, AxisView.closed]
      obtain ⟨e, known⟩ : ∃ e, (s.ax a).episode = e := ⟨_, rfl⟩
      rcases e with _ | ⟨net, _ | _⟩ <;> simp [known]
    · obtain ⟨-, later, told⟩ := wake_tells s cause o
      refine ⟨later, ?_⟩
      rw [told, toldWake_reports room, rest]
      rfl
    · obtain ⟨heat, config, pos, fault, lockout, -, ref⟩ := ax_wake s cause o a
      refine ⟨heat, config, pos, fault, fun c known => ?_, fun c known valid => ?_, fun fallen => ?_⟩
      · rw [lockout]
        simp only [Axis.credit, known]
        rfl
      · rw [ref]
        cases o.watch <;> simp [AxisView.doubted, axisView, known, valid]
      · rw [ref]
        cases o.watch <;> simp [AxisView.doubted, axisView, fallen]
  · exact (event_runs running _).trans (by rw [wakeEndEffect_unwoken unwoken])

end Sys2Proof.Proofs

/-! ### A stop request that reaches one axis, by its motion state -/

namespace Sys2Proof.Laws

open Sys2Proof.Machine Sys2Proof.Safety

section StopRequest

variable {s : State} {a : AxisNo} {n : Nat} {r : StopReq}

theorem stopAxisFrom_driving (h : (s.ax a).motion = .driving) :
    s.stopAxisFrom n a r = s.startStopFrom n a r.dest .controlled := by
  simp only [State.stopAxisFrom, h]

theorem stopAxisFrom_stopping (h : (s.ax a).motion = .stopping) : s.stopAxisFrom n a r = s.modAx a (fun x => x.meet r) := by
  simp only [State.stopAxisFrom, h]

theorem stopAxisFrom_engaging (h : (s.ax a).motion = .engaging) : s.stopAxisFrom n a r =
    if (s.ax a).stop.isSome then s.modAx a (fun x => x.meet r)
    else s.modAx a (fun x => { x with stop := some (engageStop r.dest) }) := by
  simp only [State.stopAxisFrom, h]

theorem stopAxisFrom_resting (h : (s.ax a).motion = .backoff ∨ (s.ax a).motion = .fault) : s.stopAxisFrom n a r = s := by
  rcases h with h | h <;> simp only [State.stopAxisFrom, h]

theorem halt_queued (h : (s.ax a).motion = .queued) :
    s.stopAxisFrom n a .halt = (s.leaveQueue a).modAx a (Axis.toIdle false) := by
  simp only [State.stopAxisFrom, h]

theorem halt_blocked (h : (s.ax a).motion = .blocked) : s.stopAxisFrom n a .halt = s.modAx a (Axis.toIdle false) := by
  simp only [State.stopAxisFrom, h]

theorem halt_idle (h : (s.ax a).motion = .idle) : s.stopAxisFrom n a .halt = s.modAx a (fun x => { x with move := none }) := by
  simp only [State.stopAxisFrom, h]

end StopRequest

/-- A halt turns every stop but a test's and a fault's toward IDLE (R42, R43). -/
theorem meet_halt {waiting : Bool} {d : Dest} (h : d ≠ .checkDone) :
    d.meet waiting .halt = if d = .fault then .fault else .idle false := by
  cases d with
  | checkDone => exact absurd rfl h
  | idle k => cases k <;> rfl
  | completion _ => rfl
  | held => rfl
  | blocked _ _ => rfl
  | fault => rfl
  | reversal => rfl

theorem stop_meet_halt {waiting : Bool} {st : Stop} (h : st.dest ≠ .checkDone) :
    st.meet waiting .halt = { st with dest := if st.dest = .fault then .fault else .idle false } := by
  simp [Stop.meet, meet_halt h]

theorem mem_leaveQueue {s : State} {a : AxisNo} {q : GrantRequest} :
    q ∈ (s.leaveQueue a).queue ↔ q ∈ s.queue ∧ q.axis ≠ a ∧ q.partner ≠ some a := by
  simp [State.leaveQueue]

/-! ### The axis after a halt -/

section Halt

variable {s : State} {a : AxisNo} {n : Nat}

theorem ax_halt_driving (h : (s.ax a).motion = .driving) : (s.stopAxisFrom n a .halt).ax a = { s.ax a with
    motion := .stopping, phase := none, blanking := false, backoff := none,
    check := (s.ax a).check.map (fun k => { k with pulse := none }),
    stop := some ⟨.idle false, .controlled, n, true, 0, false, false⟩ } := by
  rw [stopAxisFrom_driving h, State.startStopFrom, ax_modAx_self]
  rfl

theorem ax_halt_bound {st : Stop} (h : (s.ax a).motion = .stopping ∨ (s.ax a).motion = .engaging)
    (stop : (s.ax a).stop = some st) (going : st.dest ≠ .checkDone) : (s.stopAxisFrom n a .halt).ax a =
      { s.ax a with stop := some { st with dest := if st.dest = .fault then .fault else .idle false } } := by
  have met : s.stopAxisFrom n a .halt = s.modAx a (fun x => x.meet .halt) := by
    rcases h with h | h
    · exact stopAxisFrom_stopping h
    · rw [stopAxisFrom_engaging h, stop]
      rfl
  rw [met, ax_modAx_self]
  simp only [Axis.meet, stop, Option.map_some, stop_meet_halt going]

theorem ax_halt_engaging (h : (s.ax a).motion = .engaging) (stop : (s.ax a).stop = none) :
    (s.stopAxisFrom n a .halt).ax a = { s.ax a with stop := some ⟨.idle false, .coast, 0, false, 0, false, false⟩ } := by
  have engaging := stopAxisFrom_engaging (n := n) (r := .halt) h
  simp only [stop, Option.isSome_none, Bool.false_eq_true, if_false] at engaging
  rw [engaging, ax_modAx_self]
  rfl

theorem ax_halt_waiting (h : (s.ax a).motion = .queued ∨ (s.ax a).motion = .blocked) :
    (s.stopAxisFrom n a .halt).ax a = (s.ax a).toIdle false := by
  rcases h with h | h
  · rw [halt_queued h, ax_modAx_self]
    rfl
  · rw [halt_blocked h, ax_modAx_self]

theorem queue_halt_queued (h : (s.ax a).motion = .queued) {q : GrantRequest} (mem : q ∈ (s.stopAxisFrom n a .halt).queue) :
    q.axis ≠ a ∧ q.partner ≠ some a := by
  rw [halt_queued h] at mem
  exact (mem_leaveQueue.mp mem).2

theorem ax_halt_idle (h : (s.ax a).motion = .idle) : (s.stopAxisFrom n a .halt).ax a = { s.ax a with move := none } := by
  rw [halt_idle h, ax_modAx_self]

end Halt

/-! ### A link operation changed -/

/-- The link operation of an axis changed; any other owner stays. -/
def withOp (f : LinkOp → LinkOp) (x : Axis) : Axis :=
  { x with owner := match x.owner with
      | .link op => .link (f op)
      | w => w }

theorem modOp_eq (s : State) (a : AxisNo) (f : LinkOp → LinkOp) : s.modOp a f = s.modAll (s.members a) (withOp f) := by
  refine congrArg (s.modAll (s.members a)) (funext fun x => ?_)
  cases h : x.owner <;> simp only [withOp, h]
  · rw [← h]
  · rw [← h]

theorem modOp_alone {s : State} {a : AxisNo} {op : LinkOp} (alone : s.partner a = none) (owner : (s.ax a).owner = .link op)
    (f : LinkOp → LinkOp) : s.modOp a f = s.setAx a { s.ax a with owner := .link (f op) } := by
  rw [modOp_eq, members_alone alone]
  exact congrArg (s.setAx a) (by simp only [withOp, owner])

/-- The owner of a lone axis has no part in its duty. -/
theorem dutyNow_owner {s : State} {a : AxisNo} (alone : s.partner a = none) (w : Owner) :
    (s.setAx a { s.ax a with owner := w }).dutyNow a = s.dutyNow a := by
  have config : ∀ b, ((s.setAx a { s.ax a with owner := w }).ax b).config = (s.ax b).config := by
    intro b
    refine config_setAx ?_ b
    rfl
  have alone' := (partner_congr config a).trans alone
  simp only [State.dutyNow, State.driveDuty, State.leadSkew, State.scale, alone, alone', ax_setAx_self, setAx_store]

/-! ### The end of a link operation -/

/-- A winding test of the axis is in its pulses or after them (R69). -/
def inPulses (s : State) (b : AxisNo) : Bool :=
  decide ((s.ax b).motion = .checking) ||
    (decide ((s.ax b).motion = .stopping) && decide ((s.ax b).stop.map Stop.dest = some .checkDone))

theorem inPulses_iff {s : State} {b : AxisNo} : inPulses s b = true ↔
    (s.ax b).motion = .checking ∨ ((s.ax b).motion = .stopping ∧ ∃ st, (s.ax b).stop = some st ∧ st.dest = .checkDone) := by
  simp [inPulses]

theorem endLinkOp_unowned {s : State} {a : AxisNo} (h : ∀ op, (s.ax a).owner ≠ .link op) (o : MoveOutcome) :
    s.endLinkOp a o = s := by
  cases w : (s.ax a).owner with
  | link op => exact absurd w (h op)
  | none => simp only [State.endLinkOp, w]
  | runner r => simp only [State.endLinkOp, w]

theorem endLinkOp_owned {s : State} {a : AxisNo} {op : LinkOp} (h : (s.ax a).owner = .link op) (o : MoveOutcome) :
    s.endLinkOp a o = if op.result.isSome || (s.members a).any (inPulses s) then s
      else (s.modOp a (fun op => { op with result := some (o, none), window := none })).stopAll (s.members a) .halt := by
  simp only [State.endLinkOp, h]
  rfl

theorem endLinkOp_decided {s : State} {a : AxisNo} {op : LinkOp} (h : (s.ax a).owner = .link op)
    (decided : op.result ≠ none ∨ ∃ b ∈ s.members a, inPulses s b = true) (o : MoveOutcome) : s.endLinkOp a o = s := by
  rw [endLinkOp_owned h, if_pos]
  rw [Bool.or_eq_true, Option.isSome_iff_ne_none, List.any_eq_true]
  exact decided

theorem endLinkOp_open {s : State} {a : AxisNo} {op : LinkOp} (h : (s.ax a).owner = .link op) (result : op.result = none)
    (quiet : ∀ b ∈ s.members a, ¬ inPulses s b = true) (o : MoveOutcome) : s.endLinkOp a o =
      (s.modOp a (fun op => { op with result := some (o, none), window := none })).stopAll (s.members a) .halt := by
  rw [endLinkOp_owned h, if_neg]
  rw [result, Bool.or_eq_true, List.any_eq_true]
  rintro (k | ⟨b, mem, k⟩)
  · exact absurd k (by decide)
  · exact quiet b mem k

/-- The end of an operation on a lone axis: the outcome is recorded, and the axis takes a halt from the duty it has. -/
theorem endLinkOp_alone {s : State} {a : AxisNo} {op : LinkOp} (alone : s.partner a = none) (h : (s.ax a).owner = .link op)
    (result : op.result = none) (quiet : ¬ inPulses s a = true) (o : MoveOutcome) : s.endLinkOp a o =
      (s.setAx a { s.ax a with owner := .link { op with result := some (o, none), window := none } }).stopAxisFrom
        (s.dutyNow a) a .halt := by
  rw [endLinkOp_open h result (by simpa [members_alone alone] using quiet), members_alone alone, modOp_alone alone h]
  simp only [State.stopAll, List.foldl_cons, List.foldl_nil, dutyNow_owner alone]

end Sys2Proof.Laws

/-! ### Silence and inhibit -/

namespace Sys2Proof.Proofs

open Sys2Proof.Machine Sys2Proof.Safety Sys2Proof.Laws

/-- The runners that pause are those RUNNING or PAUSING (R170, R171). -/
theorem pauseActive_eq (s : State) (r : RunnerNo) (w : Reason) : s.pauseActive r w =
    if (s.run r).any (fun run => decide (run.state = .running ∨ run.state = .pausing)) then s.pauseFor r w else s := by
  cases h : s.run r with
  | none => simp [State.pauseActive, h]
  | some run => cases k : run.state <;> simp [State.pauseActive, h, k]

theorem silenced_eq : LinkOp.silenced = fun op => decide (op.kind = .home) || (decide (op.kind = .jog) && !op.hold) := by
  funext op
  cases h : op.kind <;> simp [LinkOp.silenced, h]

theorem endLinkOps_eq (s : State) (which : LinkOp → Bool) (o : MoveOutcome) :
    s.endLinkOps which o = allAxes.foldl (fun (t : State) a => match (t.ax a).owner with
      | .link op => if op.named = a ∧ which op = true then t.endLinkOp a o else t
      | .none | .runner _ => t) s := by
  refine congrArg (fun f => allAxes.foldl f s) (funext fun t => funext fun a => ?_)
  cases h : (t.ax a).owner with
  | none => simp [State.opNaming, h]
  | runner r => simp [State.opNaming, h]
  | link op => by_cases named : op.named = a <;> simp [State.opNaming, h, named]

/-- A reason that the set has changes nothing there, and only such a one (R165). -/
theorem add_eq_self_iff (rs : Reasons) (w : Reason) : rs.add w = rs ↔ rs.has w = true := by
  obtain ⟨host, fault, inhibit, link, planError⟩ := rs
  cases w <;> simp [Reasons.add, Reasons.has, eq_comm]

section Pause

variable {s : State} {r : RunnerNo} {run : Run} {w : Reason}

theorem pauseFor_free (h : s.run r = none) : s.pauseFor r w = s := by
  simp only [State.pauseFor, h]

theorem pauseFor_running (h : s.run r = some run) (k : run.state = .running) : s.pauseFor r w =
    (s.setRun r (some { run with reasons := run.reasons.add w, state := .pausing })).stopAll (s.busyAxes run) .pause := by
  simp only [State.pauseFor, h, k]

theorem pauseFor_pausing (h : s.run r = some run) (k : run.state = .pausing) : s.pauseFor r w =
    s.setRun r (some { run with reasons := run.reasons.add w }) := by
  simp only [State.pauseFor, h, k]

theorem pauseFor_paused (h : s.run r = some run) (k : run.state = .paused) : s.pauseFor r w =
    if run.reasons.has w then s else (s.setRun r (some { run with reasons := run.reasons.add w })).runPaused r
      { run with reasons := run.reasons.add w } := by
  simp only [State.pauseFor, h, k]

theorem pauseFor_halting (h : s.run r = some run) (k : run.state = .halting) : s.pauseFor r w = s := by
  simp only [State.pauseFor, h, k]

end Pause

/-- What the end of an operation leaves of a lone axis, by its motion (R42, R43). -/
theorem ax_endLinkOp_alone {s : State} {a : AxisNo} {op : LinkOp} (alone : s.partner a = none)
    (owner : (s.ax a).owner = .link op) (result : op.result = none) (quiet : ¬ inPulses s a = true) (o : MoveOutcome) :
    let x := s.ax a
    let t := s.endLinkOp a o
    let becomes (y : Axis) := t.ax a = { y with owner := .link { op with result := some (o, none), window := none } }
    (x.motion = .driving → becomes { x with
      motion := .stopping, phase := none, blanking := false, backoff := none,
      check := x.check.map (fun k => { k with pulse := none }),
      stop := some ⟨.idle false, .controlled, s.dutyNow a, true, 0, false, false⟩ }) ∧
    (∀ st, x.motion = .stopping ∨ x.motion = .engaging → x.stop = some st → st.dest ≠ .checkDone →
      becomes { x with stop := some { st with dest := if st.dest = .fault then .fault else .idle false } }) ∧
    (x.motion = .engaging → x.stop = none →
      becomes { x with stop := some ⟨.idle false, .coast, 0, false, 0, false, false⟩ }) ∧
    (x.motion = .queued ∨ x.motion = .blocked → becomes (x.toIdle false)) ∧
    (x.motion = .queued → ∀ q ∈ t.queue, q.axis ≠ a ∧ q.partner ≠ some a) ∧
    (x.motion = .idle → becomes { x with move := none }) ∧
    (x.motion = .fault ∨ x.motion = .backoff → becomes x) := by
  intro x t becomes
  have ends := endLinkOp_alone alone owner result quiet o
  obtain ⟨u, hu⟩ : ∃ u, s.setAx a { s.ax a with owner := .link { op with result := some (o, none), window := none } } = u :=
    ⟨_, rfl⟩
  have own : u.ax a = { s.ax a with owner := .link { op with result := some (o, none), window := none } } := by
    rw [← hu, ax_setAx_self]
  rw [hu] at ends
  have motion : (u.ax a).motion = (s.ax a).motion := by rw [own]
  have stop : (u.ax a).stop = (s.ax a).stop := by rw [own]
  simp only [x, t, becomes, ends, ← motion, ← stop]
  refine ⟨fun h => ?_, fun st h known going => ?_, fun h known => ?_, fun h => ?_, fun h q mem => ?_, fun h => ?_, fun h => ?_⟩
  · rw [ax_halt_driving h, own]
  · rw [ax_halt_bound h known going, own]
  · rw [ax_halt_engaging h known, own]
  · rw [ax_halt_waiting h, own]
    rfl
  · exact queue_halt_queued h mem
  · rw [ax_halt_idle h, own]
  · rw [stopAxisFrom_resting h.symm, own]

/-- The walk over the runners, with its condition as the obligation states it. -/
theorem pauseActive_walk (w : Reason) (s : State) {p : State → RunnerNo → Prop} [∀ t r, Decidable (p t r)]
    (hp : ∀ t r, p t r ↔ ∃ run, t.run r = some run ∧ (run.state = .running ∨ run.state = .pausing)) :
    allRunners.foldl (fun t r => t.pauseActive r w) s = allRunners.foldl (fun t r => if p t r then t.pauseFor r w else t) s := by
  refine congrArg (fun f => allRunners.foldl f s) (funext fun t => funext fun r => ?_)
  rw [pauseActive_eq]
  refine if_congr ?_ rfl rfl
  rw [hp, Option.any_eq_true]
  simp

/-- Settles O47: a lapse and the inhibit line pause the runners and end the link operations, each by its own reason. -/
theorem silenceAndInhibitStopTheWork : Obligations.SilenceAndInhibitStopTheWork := by
  unfold Obligations.SilenceAndInhibitStopTheWork
  refine ⟨fun s running => ⟨fun n w watching => ?_, fun off => ?_, fun awake free => ?_, fun awake held => ?_,
    fun l same => ?_⟩, fun s r w => ⟨pauseFor_free, fun run known => ?_⟩, endLinkOps_eq, fun s a o => ⟨?_, ?_⟩⟩
  · have effect : lapseEffect s = State.silence { s with link := { s.link with supervision := .lapsed } } := by
      simp only [lapseEffect, watching]
    refine (event_runs running _).trans ?_
    rw [effect, State.silence, silenced_eq, pauseActive_walk .link _ (fun _ _ => Iff.rfl)]
  · have effect : lapseEffect s = s := by rcases off with h | h <;> simp only [lapseEffect, h]
    exact (event_runs running _).trans (by rw [effect])
  · have effect : inhibitEffect true s = s.inhibitAsserted := by simp [inhibitEffect, awake, free]
    refine (event_runs running _).trans ?_
    rw [effect, State.inhibitAsserted, pauseActive_walk .inhibit _ (fun _ _ => Iff.rfl)]
  · have effect : inhibitEffect false s = { s with inhibit := false } := by simp [inhibitEffect, awake, held]
    exact (event_runs running _).trans (by rw [effect])
  · exact (event_runs running _).trans (by rw [inhibitEffect, if_pos same])
  · intro told busy
    have joined : told = { run with reasons := run.reasons.add w } := by cases w <;> rfl
    clear_value told
    subst joined
    have has : { run with reasons := run.reasons.add w } = run ↔ run.reasons.has w = true := by
      rw [← add_eq_self_iff]
      exact ⟨fun h => congrArg Run.reasons h, fun h => by rw [h]⟩
    refine ⟨pauseFor_running known, pauseFor_pausing known, fun k same => ?_, fun k new => ?_, pauseFor_halting known⟩
    · rw [pauseFor_paused known k, if_pos (has.mp same)]
    · rw [pauseFor_paused known k, if_neg (fun k => new (has.mpr k))]
      rfl
  · exact fun unowned => endLinkOp_unowned unowned o
  · intro op owner
    simp only [← inPulses_iff]
    refine ⟨fun decided => endLinkOp_decided owner decided o, fun result quiet => ?_, fun result alone quiet =>
      ax_endLinkOp_alone alone owner result quiet o⟩
    exact endLinkOp_open owner result quiet o

end Sys2Proof.Proofs

/-! ### The soft reset -/

namespace Sys2Proof.Laws

open Sys2Proof.Machine Sys2Proof.Safety

theorem run_modRuns (s : State) (f : Run → Run) (r : RunnerNo) : (s.modRuns f).run r = (s.run r).map f :=
  foldl_pointwise (get := State.run) (R := fun x y => y = x.map f) (fun t q => run_setRun_self t q _)
    (fun t _ _ ne => run_setRun_ne t _ ne) (by decide) s (mem_allRunners r)

theorem ch_modChans (s : State) (f : Channel → Channel) (c : ChanNo) : (s.modChans f).ch c = f (s.ch c) :=
  foldl_pointwise (get := State.ch) (R := fun x y => y = f x) (fun t q => ch_setCh_self t q _)
    (fun t _ _ ne => ch_setCh_ne t _ ne) (by decide) s (mem_allChans c)

/-- Only the axes differ. -/
def OnlyAxes (s t : State) : Prop := t = { s with axes := t.axes }

theorem OnlyAxes.refl (s : State) : OnlyAxes s s := rfl

theorem OnlyAxes.trans {s t u : State} (h : OnlyAxes s t) (k : OnlyAxes t u) : OnlyAxes s u := by
  rw [OnlyAxes] at h k ⊢
  rw [k, h]

theorem OnlyAxes.modAx (s : State) (a : AxisNo) (f : Axis → Axis) : OnlyAxes s (s.modAx a f) := rfl

theorem OnlyAxes.foldl {α : Type} (s : State) (l : List α) (f : State → α → State) (hf : ∀ t a, OnlyAxes t (f t a)) :
    OnlyAxes s (l.foldl f s) := foldl_rel OnlyAxes.refl OnlyAxes.trans l f hf s

theorem OnlyAxes.modAll (s : State) (l : List AxisNo) (f : Axis → Axis) : OnlyAxes s (s.modAll l f) :=
  .foldl s l _ (fun t a => .modAx t a f)

/-! #### The motion of an axis at the start of RESETTING -/

/-- The motion of an axis at the start of RESETTING, its output applying `duty` (R69, R201). -/
def resetAxis (duty : Nat) (x : Axis) : Axis :=
  match x.motion with
  | .driving | .checking =>
    { x with motion := .stopping, phase := none, blanking := false, backoff := none,
             check := x.check.map (fun k => { k with pulse := none }),
             stop := some ⟨.idle false, .quick, duty, false, 0, false, false⟩ }
  | .stopping => { x with stop := x.stop.map Stop.atReset, noted := none }
  | .engaging => { x with stop := some (Stop.atReset (x.stop.getD (engageStop (.idle false)))) }
  | .backoff => x.cutShort .quick ((x.backoff.map Backoff.rest).getD false)
  | .queued | .blocked => x.toIdle false
  | .idle | .fault => x

theorem resetMotion_eq (s : State) (a : AxisNo) : s.resetMotion a = s.modAx a (resetAxis (s.dutyNow a)) := by
  cases h : (s.ax a).motion with
  | backoff =>
    cases k : (s.ax a).backoff <;> simp only [State.resetMotion, State.modAx, resetAxis, h, k] <;> rfl
  | idle => simp only [State.resetMotion, State.modAx, resetAxis, h, setAx_self]
  | fault => simp only [State.resetMotion, State.modAx, resetAxis, h, setAx_self]
  | _ => simp only [State.resetMotion, State.modAx, resetAxis, h] <;> rfl

/-- The axes at the start of RESETTING: their motion, then their part in the operations. -/
def motionReset (s : State) : State := (allAxes.foldl State.resetMotion s).modAll allAxes Axis.atReset

theorem ax_motionReset (s : State) (a : AxisNo) : ∃ duty, (motionReset s).ax a = (resetAxis duty (s.ax a)).atReset := by
  obtain ⟨duty, h⟩ := foldl_pointwise (get := State.ax) (R := fun x y => ∃ duty, y = resetAxis duty x)
    (f := State.resetMotion) (fun t b => ⟨t.dutyNow b, by rw [resetMotion_eq, ax_modAx_self]⟩)
    (fun t b c ne => by rw [resetMotion_eq, ax_modAx_ne _ _ ne]) nodup_allAxes s (mem_allAxes a)
  exact ⟨duty, by rw [motionReset, ax_modAll_allAxes, h]⟩

theorem motionReset_only (s : State) : OnlyAxes s (motionReset s) :=
  (OnlyAxes.foldl s _ _ (fun t a => by rw [resetMotion_eq]; exact .modAx t a _)).trans (.modAll _ _ _)

theorem modRuns_only (s : State) (f : Run → Run) : ∃ runners, s.modRuns f = { s with runners := runners } := ⟨_, rfl⟩

/-- The start of RESETTING, block by block. -/
theorem startReset_eq (s : State) : ∃ runners, (∀ r : RunnerNo, runners[r] = (s.run r).map Run.atReset) ∧
    s.startReset = { s with
      axes := (motionReset s).axes, runners := runners, queue := [],
      power := { s.power with state := .resetting, dwell := none } } := by
  have moved := motionReset_only s
  have runs := run_modRuns (motionReset s) Run.atReset
  obtain ⟨runners, h⟩ := modRuns_only (motionReset s) Run.atReset
  have start : s.startReset = { (motionReset s).modRuns Run.atReset with
    queue := [], power := { ((motionReset s).modRuns Run.atReset).power with state := .resetting, dwell := none } } := by
    rw [State.startReset, motionReset]
  generalize motionReset s = u at *
  refine ⟨runners, fun r => ?_, ?_⟩
  · have kept : u.run r = s.run r := by
      rw [moved]
      rfl
    rw [← kept, ← runs r, h]
    rfl
  · rw [start, h, moved]

end Sys2Proof.Laws

namespace Sys2Proof.Laws

open Sys2Proof.Machine Sys2Proof.Safety

section ResetAxis

variable {duty : Nat} {x : Axis}

theorem resetAxis_driven (h : x.motion = .driving ∨ x.motion = .checking) : resetAxis duty x =
    { x with motion := .stopping, phase := none, blanking := false, backoff := none,
             check := x.check.map (fun k => { k with pulse := none }),
             stop := some ⟨.idle false, .quick, duty, false, 0, false, false⟩ } := by
  rcases h with h | h <;> simp only [resetAxis, h]

theorem resetAxis_stopping (h : x.motion = .stopping) :
    resetAxis duty x = { x with stop := x.stop.map Stop.atReset, noted := none } := by
  simp only [resetAxis, h]

theorem resetAxis_engaging (h : x.motion = .engaging) :
    resetAxis duty x = { x with stop := some (Stop.atReset (x.stop.getD (engageStop (.idle false)))) } := by
  simp only [resetAxis, h]

theorem resetAxis_backoff (h : x.motion = .backoff) :
    resetAxis duty x = x.cutShort .quick ((x.backoff.map Backoff.rest).getD false) := by
  simp only [resetAxis, h]

theorem resetAxis_waiting (h : x.motion = .queued ∨ x.motion = .blocked) : resetAxis duty x = x.toIdle false := by
  rcases h with h | h <;> simp only [resetAxis, h]

theorem resetAxis_resting (h : x.motion = .idle ∨ x.motion = .fault) : resetAxis duty x = x := by
  rcases h with h | h <;> simp only [resetAxis, h]

theorem resetAxis_measured : Measured x (resetAxis duty x) := by
  unfold resetAxis
  split <;> exact { Measured.refl x with }

theorem resetAxis_ref : (resetAxis duty x).ref = x.ref := by
  unfold resetAxis
  split <;> rfl

theorem resetAxis_owner : (resetAxis duty x).owner = x.owner := by
  unfold resetAxis
  split <;> rfl

/-- Only a backoff that is cut short changes a record (R59). -/
theorem resetAxis_fault : (resetAxis duty x).fault = if x.motion = .backoff then x.fault.map (fun f =>
    if f.kind = .obstruction then { f with backoff := .cutShort } else f) else x.fault := by
  by_cases h : x.motion = .backoff
  · rw [if_pos h, resetAxis_backoff h, Axis.cutShort]
  · rw [if_neg h]
    cases k : x.motion with
    | backoff => exact absurd k h
    | _ => simp only [resetAxis, k] <;> rfl

end ResetAxis

/-- Where a stop goes at the start of RESETTING, by its destination (R69, R201). -/
theorem atReset_eq (st : Stop) : st.atReset = if st.dest = .fault then st
    else if st.dest = .checkDone then { st with dest := .idle false, mode := .quick } else { st with dest := .idle false } := by
  cases h : st.dest <;> simp [Stop.atReset, h]

end Sys2Proof.Laws

namespace Sys2Proof.Proofs

open Sys2Proof.Machine Sys2Proof.Safety Sys2Proof.Laws

/-- What the start of RESETTING makes of an axis, by its motion (R69, R201). -/
theorem atReset_axis (duty : Nat) (x : Axis) :
    let y := (resetAxis duty x).atReset
    Measured x y ∧ y.ref = x.ref ∧ y.move = none ∧ y.owner = x.owner.atReset ∧
    (x.motion = .driving ∨ x.motion = .checking → y.motion = .stopping ∧
      y.stop.map Stop.dest = some (.idle false) ∧ y.stop.map Stop.mode = some .quick) ∧
    (x.motion = .queued ∨ x.motion = .blocked → y.motion = .idle ∧ y.link = none) ∧
    (∀ st, x.motion = .stopping ∨ x.motion = .engaging → x.stop = some st → y.motion = x.motion ∧ y.stop = some st.atReset) ∧
    (x.motion = .engaging → x.stop = none → y.motion = .engaging ∧
      y.stop = some ⟨.idle false, .coast, 0, false, 0, false, false⟩) ∧
    (∀ k, x.motion = .backoff → x.backoff = some k → y.motion = .stopping ∧ y.backoff = none ∧
      y.stop = some ⟨if x.fault = none then .idle false else .fault, .quick, 0, false, 0, false, k.rest⟩) ∧
    (x.motion = .idle ∨ x.motion = .fault → y.motion = x.motion) ∧
    y.fault = if x.motion = .backoff then x.fault.map (fun f =>
      if f.kind = .obstruction then { f with backoff := .cutShort } else f) else x.fault := by
  refine ⟨resetAxis_measured.trans { Measured.refl (resetAxis duty x) with }, resetAxis_ref, rfl,
    congrArg Owner.atReset resetAxis_owner, fun h => ?_, fun h => ?_, fun st h stop => ?_, fun h stop => ?_,
    fun k h going => ?_, fun h => ?_, resetAxis_fault⟩
  · rw [resetAxis_driven h]
    exact ⟨rfl, rfl, rfl⟩
  · rw [resetAxis_waiting h]
    exact ⟨rfl, rfl⟩
  · rcases h with h | h
    · rw [resetAxis_stopping h, Axis.atReset, stop]
      exact ⟨rfl, rfl⟩
    · rw [resetAxis_engaging h, Axis.atReset, stop]
      exact ⟨rfl, rfl⟩
  · rw [resetAxis_engaging h, Axis.atReset, stop]
    exact ⟨h, rfl⟩
  · rw [resetAxis_backoff h, Axis.atReset, Axis.cutShort, going]
    cases x.fault <;> exact ⟨rfl, rfl, rfl⟩
  · rw [resetAxis_resting h]
    rfl

/-- The part at the start of RESETTING, on a part that has heard the frame. -/
theorem reset_starts (tag : Byte) {s : State} (h : Listens s) :
    exec (.reset tag) s = .next (State.settle (s.frameHeard.startReset.reply 0x04 tag .ok [])) := by
  have awake := resetting_listens h
  exact exec_answers h rfl (by rw [resetTaken, awake]; rfl)

end Sys2Proof.Proofs

/-! ### The completion of a soft reset -/

namespace Sys2Proof.Laws

open Sys2Proof.Machine Sys2Proof.Safety

/-- The part as a completed soft reset leaves it, before it tells anything (R202). -/
def restarted (s : State) : State :=
  { (s.modAll allAxes Axis.softReset).modChans Channel.ended with
    store := Store.reset, queue := [], stamps := 0,
    supply := Supply.follow { s.supply with base := 200, grantCounter := 0 } s.supply.shareReq,
    entries := .replicate 24 none, places := .replicate 64 none, slots := .replicate 8 Slot.undefined, marks := 0,
    runners := .replicate 3 none,
    link := { s.link with reports := [], overflow := false, cadence := none, supervision := .off, setup := Setup.default },
    power := { s.power with state := .active, dwell := none, sleepOpts := none, wakeCause := none } }

theorem modChans_only (s : State) (f : Channel → Channel) : ∃ chans, s.modChans f = { s with chans := chans } := ⟨_, rfl⟩

/-- The blocks of a restarted part, but for the axes and the channels. -/
theorem restarted_eq (s : State) : ∃ axes chans, restarted s = { s with
    axes := axes, chans := chans, store := Store.reset, queue := [], stamps := 0,
    supply := Supply.follow { s.supply with base := 200, grantCounter := 0 } s.supply.shareReq,
    entries := .replicate 24 none, places := .replicate 64 none, slots := .replicate 8 Slot.undefined, marks := 0,
    runners := .replicate 3 none,
    link := { s.link with reports := [], overflow := false, cadence := none, supervision := .off, setup := Setup.default },
    power := { s.power with state := .active, dwell := none, sleepOpts := none, wakeCause := none } } := by
  obtain ⟨chans, h⟩ := modChans_only (s.modAll allAxes Axis.softReset) Channel.ended
  have moved := OnlyAxes.modAll s allAxes Axis.softReset
  generalize axes : (s.modAll allAxes Axis.softReset).axes = x at moved
  rw [OnlyAxes, axes] at moved
  exact ⟨x, chans, by rw [restarted, h, moved]⟩

/-- The handshake that the level as taken gives (R104, R115). -/
theorem follow_own (m : Supply) : m.follow m.shareReq = { m with
    handshake := if m.shareReq then .yielded else .quiet, shareAck := m.shareReq,
    avail := if m.shareReq then 0 else availOf m.base m.band m.thermal .quiet } := by
  cases m.shareReq <;> simp [Supply.follow, availOf]

theorem nothingMoves_iff {s : State} : s.nothingMoves = true ↔ ∀ a, (s.ax a).motion.moving = false := by
  simp [State.nothingMoves, mem_allAxes]

theorem completeReset_due {s : State} (h : s.power.state = .resetting) (still : ∀ a, (s.ax a).motion.moving = false) :
    s.completeReset = ((restarted s).report (.wake .softReset 0 none)).supplyReport .wake := by
  rw [State.completeReset, if_pos ⟨h, nothingMoves_iff.mpr still⟩]
  rfl

theorem completeReset_undue {s : State} (h : s.power.state ≠ .resetting ∨ ∃ a, (s.ax a).motion.moving = true) :
    s.completeReset = s := by
  refine if_neg (fun due => ?_)
  obtain ⟨resetting, still⟩ := due
  rcases h with h | ⟨a, moves⟩
  · exact h resetting
  · rw [nothingMoves_iff.mp still a] at moves
    exact absurd moves (by decide)

theorem ax_restarted (s : State) (a : AxisNo) : (restarted s).ax a = (s.ax a).softReset := by
  have axes : (restarted s).axes = (s.modAll allAxes Axis.softReset).axes := by rw [restarted, modChans_axes]
  rw [ax_congr axes, ax_modAll_allAxes]

theorem ch_restarted (s : State) (c : ChanNo) : (restarted s).ch c = (s.ch c).ended := by
  have chans : (restarted s).chans = ((s.modAll allAxes Axis.softReset).modChans Channel.ended).chans := by rw [restarted]
  rw [ch_congr chans, ch_modChans, ch_congr (modAll_chans s allAxes Axis.softReset)]

theorem inUse_restarted (s : State) : (restarted s).inUse = 0 := by
  have free : ∀ a, ((restarted s).ax a).charged = false := fun a => by
    rw [ax_restarted]
    rfl
  simp only [State.inUse, free, Bool.false_eq_true, if_false]
  rfl

theorem report_room {s : State} (room : s.link.reports.length < Config.reportQueueSize) (r : Report) :
    s.report r = { s with link := { s.link with reports := s.link.reports ++ [r] } } := if_pos room

/-- The reports of a completed soft reset are WAKE and SUPPLY alone. -/
theorem completeReset_eq {s : State} (h : s.power.state = .resetting) (still : ∀ a, (s.ax a).motion.moving = false) :
    s.completeReset = { restarted s with link := { (restarted s).link with reports :=
      [.wake .softReset 0 none, .supply .wake (restarted s).supply.band (restarted s).supply.thermal
        (restarted s).supply.handshake (restarted s).supply.shareReq (restarted s).supply.shareAck
        (restarted s).supply.avail 0] } } := by
  have empty : (restarted s).link.reports = [] := by rw [restarted]
  have use := inUse_restarted s
  rw [completeReset_due h still, supplyReport_eq, use]
  generalize restarted s = t at *
  rw [report_room (s := t) (by rw [empty]; decide), report_room (by rw [empty]; exact show 1 < 16 by decide), empty]
  rfl

end Sys2Proof.Laws

namespace Sys2Proof.Proofs

open Sys2Proof.Machine Sys2Proof.Safety Sys2Proof.Laws

/-- An axis a completed soft reset leaves (R202). -/
theorem ax_completeReset {s : State} (h : s.power.state = .resetting) (still : ∀ a, (s.ax a).motion.moving = false)
    (a : AxisNo) : s.completeReset.ax a = (s.ax a).softReset := by
  rw [← ax_restarted]
  refine ax_congr ?_ a
  rw [completeReset_eq h still]

/-- A channel a completed soft reset leaves (R98, R99). -/
theorem ch_completeReset {s : State} (h : s.power.state = .resetting) (still : ∀ a, (s.ax a).motion.moving = false)
    (c : ChanNo) : s.completeReset.ch c = (s.ch c).ended := by
  rw [← ch_restarted]
  refine ch_congr ?_ c
  rw [completeReset_eq h still]

theorem inUse_completeReset {s : State} (h : s.power.state = .resetting) (still : ∀ a, (s.ax a).motion.moving = false) :
    s.completeReset.inUse = 0 := by
  rw [← inUse_restarted s]
  refine inUse_congr ?_
  rw [completeReset_eq h still]

theorem ended_retired {k : Channel} (h : k.state = .retired ∨ (k.state = .tripped ∧ 3 ≤ k.trips)) :
    k.ended = ⟨.retired, none, none, k.trips, none, false⟩ := by
  rw [Channel.ended, if_pos h]

theorem ended_free {k : Channel} (h : k.state ≠ .retired) (trips : k.state ≠ .tripped ∨ k.trips < 3) :
    k.ended = ⟨.free, none, none, k.trips, none, false⟩ := by
  rw [Channel.ended, if_neg]
  rintro (retired | ⟨tripped, three⟩)
  · exact h retired
  · rcases trips with k | k
    · exact k tripped
    · omega

/-- Settles O41: the start of RESETTING goes axis by axis, and its completion restarts every block. -/
theorem softResetRunsToItsEnd : Obligations.SoftResetRunsToItsEnd := by
  unfold Obligations.SoftResetRunsToItsEnd
  refine ⟨fun tag s h => ?_, fun s running resetting still => ?_, fun s running undue => ?_, fun s running =>
    event_runs running _, fun s undue => completeReset_undue undue⟩
  · obtain ⟨runners, runs, start⟩ := startReset_eq s.frameHeard
    have heard := frameHeard_eq s
    refine ⟨s.frameHeard.startReset, reset_starts tag h, by rw [start, frameHeard_power], by rw [start], fun r => ?_,
      fun a => ?_, by rw [start], by rw [start, heard], by rw [start, heard], by rw [start, heard], by rw [start, heard],
      by rw [start, heard], by rw [start, heard], by rw [start, heard], by rw [start, heard]⟩
    · have run : s.frameHeard.run r = s.run r := by
        rw [heard]
        rfl
      rw [start, ← run]
      exact runs r
    · obtain ⟨duty, axis⟩ := ax_motionReset s.frameHeard a
      have own : s.frameHeard.startReset.ax a = (resetAxis duty (s.ax a)).atReset := by
        rw [ax_congr (s := motionReset s.frameHeard) (by rw [start]), axis, ax_congr (frameHeard_axes s)]
      obtain ⟨measured, ref, move, owner, driven, waiting, bound, engaging, backoff, resting, fault⟩ :=
        atReset_axis duty (s.ax a)
      rw [own]
      refine ⟨measured, ref, move, ?_, driven, waiting, fun st h stop => ?_, engaging, backoff, resting, fault⟩
      · rw [owner]
        cases (s.ax a).owner <;> rfl
      · have bound := bound st h stop
        rw [atReset_eq] at bound
        exact bound
  · have done := completeReset_eq resetting still
    have none := inUse_completeReset resetting still
    have axes := ax_completeReset resetting still
    have chans := ch_completeReset resetting still
    obtain ⟨x, k, rest⟩ := restarted_eq s
    rw [rest] at done
    refine ⟨s.completeReset, event_runs running _, ?_⟩
    generalize s.completeReset = v at *
    refine ⟨by rw [done], by rw [done], by rw [done], fun n => ?_, fun i => ?_, fun k => ?_, by rw [done], fun r => ?_,
      by rw [done]; rfl, by rw [done]; rfl, ?_, by rw [done], by rw [done], by rw [done], by rw [done], fun a => ?_,
      fun c => ⟨fun h => (chans c).trans (ended_retired h), fun h trips => (chans c).trans (ended_free h trips)⟩, ?_, none,
      by rw [done], by rw [done], by rw [done], by rw [done], by rw [done], by rw [done]⟩
    · rw [done]
      exact Vector.getElem_replicate _
    · rw [done]
      exact Vector.getElem_replicate _
    · rw [done]
      exact congrArg Slot.length (Vector.getElem_replicate _)
    · rw [done]
      exact Vector.getElem_replicate _
    · rw [none, done]
    · rw [axes]
      exact ⟨softReset_measured _, rfl, rfl, rfl, rfl, rfl, rfl, rfl, rfl, rfl, rfl, rfl⟩
    · rw [done]
      exact follow_own { s.supply with base := 200, grantCounter := 0 }
  · exact (event_runs running _).trans (by rw [completeReset_undue undue])

end Sys2Proof.Proofs

/-! ### The order of the grant queue -/

namespace Sys2Proof.Laws

open Sys2Proof.Machine Sys2Proof.Safety

theorem ahead_iff (x y : GrantRequest) :
    x.ahead y = true ↔ y.priority < x.priority ∨ (x.priority = y.priority ∧ x.stamp < y.stamp) := by
  simp [GrantRequest.ahead]

theorem not_ahead_iff {x y : GrantRequest} :
    x.ahead y = false ↔ x.priority ≤ y.priority ∧ (x.priority = y.priority → y.stamp ≤ x.stamp) := by
  rw [← Bool.not_eq_true, ahead_iff, not_or, not_lt, not_and, not_lt]

/-- No request stands ahead of one before it (R89). -/
def InOrder (l : List GrantRequest) : Prop := l.Pairwise (fun x y => y.ahead x = false)

theorem insertRequest_perm (q : GrantRequest) (l : List GrantRequest) : (insertRequest q l).Perm (q :: l) := by
  induction l with
  | nil => exact .refl _
  | cons r rs ih =>
    rw [insertRequest]
    split
    · exact .refl _
    · exact (ih.cons r).trans (.swap q r rs)

theorem insertRequest_inOrder (q : GrantRequest) (l : List GrantRequest) (h : InOrder l) : InOrder (insertRequest q l) := by
  induction l with
  | nil => exact List.pairwise_singleton _ _
  | cons r rs ih =>
    obtain ⟨first, rest⟩ := List.pairwise_cons.mp h
    rw [insertRequest]
    split
    · next ahead =>
      refine List.pairwise_cons.mpr ⟨fun x mem => ?_, h⟩
      rw [ahead_iff] at ahead
      rcases List.mem_cons.mp mem with rfl | mem
      · rw [not_ahead_iff]
        omega
      · have := not_ahead_iff.mp (first x mem)
        rw [not_ahead_iff]
        omega
    · next behind =>
      refine List.pairwise_cons.mpr ⟨fun x mem => ?_, ih rest⟩
      rcases List.mem_cons.mp ((insertRequest_perm q rs).mem_iff.mp mem) with rfl | mem
      · exact Bool.eq_false_iff.mpr behind
      · exact first x mem

theorem leaveQueue_inOrder {s : State} (a : AxisNo) (h : InOrder s.queue) : InOrder (s.leaveQueue a).queue :=
  h.sublist List.filter_sublist

/-! ### The reach of an axis -/

theorem draw_eq (s : State) (a : AxisNo) : s.draw a = match (s.ax a).config with
    | some c => c.draw
    | none => 0 := by
  unfold State.draw
  cases (s.ax a).config <;> rfl

theorem reach_eq (s : State) (a : AxisNo) : s.reach a = match (s.ax a).config with
    | some c => c.reach
    | none => 0 := by
  unfold State.reach
  cases (s.ax a).config <;> rfl

theorem reach_bit {s : State} {a : AxisNo} {n : Nat} :
    (s.reach a).getLsbD n = true ↔ ∃ k, (s.ax a).config = some k ∧ k.reach.getLsbD n = true := by
  unfold State.reach
  cases (s.ax a).config <;> simp

theorem reachable_alone (s : State) (a : AxisNo) : s.reachable [a] = true ↔
    ∃ (k : AxisConfig) (c : ChanNo), (s.ax a).config = some k ∧ k.reach.getLsbD c.val = true ∧ (s.ch c).state ≠ .retired := by
  simp only [State.reachable, pickChan_isSome, reach_bit, decide_eq_true_eq]
  exact ⟨fun ⟨c, ⟨k, config, bit⟩, open'⟩ => ⟨k, c, config, bit, open'⟩,
    fun ⟨k, c, config, bit, open'⟩ => ⟨c, ⟨k, config, bit⟩, open'⟩⟩

theorem reachable_pair (s : State) (a b : AxisNo) : s.reachable [a, b] = true ↔
    ∃ (k j : AxisConfig) (c d : ChanNo), (s.ax a).config = some k ∧ (s.ax b).config = some j ∧ c ≠ d ∧
      k.reach.getLsbD c.val = true ∧ (s.ch c).state ≠ .retired ∧
      j.reach.getLsbD d.val = true ∧ (s.ch d).state ≠ .retired := by
  simp only [State.reachable, pickPair_isSome, reach_bit, decide_eq_true_eq]
  exact ⟨fun ⟨c, d, ne, ⟨⟨k, ka, kc⟩, c'⟩, ⟨j, jb, jd⟩, d'⟩ => ⟨k, j, c, d, ka, jb, ne, kc, c', jd, d'⟩,
    fun ⟨k, j, c, d, ka, jb, ne, kc, c', jd, d'⟩ => ⟨c, d, ne, ⟨⟨k, ka, kc⟩, c'⟩, ⟨j, jb, jd⟩, d'⟩⟩

/-! ### The walk of a grant pass -/

theorem mayGrant_iff {s : State} :
    s.mayGrant = true ↔ s.power.stage = .ready ∧ (s.power.state = .active ∨ s.power.state = .doze) := by
  simp [State.mayGrant]

theorem departed_iff {s t : State} : s.departed t = true ↔
    (∃ q ∈ s.queue, q ∉ t.queue ∧ (t.ax q.axis).motion ≠ .engaging) ∨
      ∃ a, (s.ax a).charged = true ∧ (t.ax a).charged = false := by
  simp [State.departed, mem_allAxes]

section Walk

variable {s : State} {q : GrantRequest} {qs : List GrantRequest} {reserved : Option Nat}

theorem passWalk_over (h : s.chooseChans q = none ∨ s.supply.avail < q.draw) :
    passWalk (q :: qs) reserved s = passWalk qs reserved s := by
  rw [passWalk]
  rcases k : s.chooseChans q with _ | ⟨c, d⟩
  · rfl
  · exact if_pos (h.resolve_left (by simp [k]))

theorem passWalk_chosen {c : ChanNo} {d : Option ChanNo} (h : s.chooseChans q = some (c, d)) (fits : q.draw ≤ s.supply.avail) :
    passWalk (q :: qs) reserved s = if s.inUse + reserved.getD 0 + q.draw ≤ s.supply.avail
      then passWalk qs reserved (s.grant q c d) else passWalk qs (some (reserved.getD q.draw)) s := by
  rw [passWalk, h]
  exact if_neg (by omega)

/-- What every grant of chosen channels keeps, a pass keeps. -/
theorem passWalk_induct {R : State → Prop}
    (step : ∀ t q c d, R t → q ∈ s.queue → t.chooseChans q = some (c, d) → R (t.grant q c d))
    (l : List GrantRequest) (mem : ∀ q ∈ l, q ∈ s.queue) (reserved : Option Nat) (t : State) (h : R t) :
    R (passWalk l reserved t) := by
  induction l generalizing reserved t with
  | nil => exact h
  | cons q qs ih =>
    obtain ⟨here, mem⟩ := List.forall_mem_cons.mp mem
    rcases k : t.chooseChans q with _ | ⟨c, d⟩
    · rw [passWalk_over (.inl k)]
      exact ih mem reserved t h
    by_cases fits : q.draw ≤ t.supply.avail
    · rw [passWalk_chosen k fits]
      split
      · exact ih mem reserved _ (step t q c d h here k)
      · exact ih mem _ t h
    · rw [passWalk_over (.inr (by omega))]
      exact ih mem reserved t h

theorem grantPass_induct {R : State → Prop} (start : R s)
    (step : ∀ t q c d, R t → q ∈ s.queue → t.chooseChans q = some (c, d) → R (t.grant q c d)) : R s.grantPass := by
  unfold State.grantPass
  split
  · exact passWalk_induct step s.queue (fun _ h => h) none s start
  · exact start

end Walk

end Sys2Proof.Laws

/-! ### A grant, block by block -/

namespace Sys2Proof.Laws

open Sys2Proof.Machine Sys2Proof.Safety

theorem opensFrom_iff {c : Channel} {a : AxisNo} : c.opensFrom a = true ↔
    c.axis = some a ∧ ((c.state = .settling ∧ c.closing = some false) ∨ (c.state = .tripped ∧ c.opening = true)) := by
  cases h : c.state <;> simp [Channel.opensFrom, h]

theorem opening_iff {s : State} {a : AxisNo} : s.opening a = true ↔ ∃ c, (s.ch c).axis = some a ∧
    (((s.ch c).state = .settling ∧ (s.ch c).closing = some false) ∨ ((s.ch c).state = .tripped ∧ (s.ch c).opening = true)) := by
  simp only [State.opening, List.any_eq_true, opensFrom_iff, mem_allChans, true_and]

/-- The FREE channels. -/
def freeChan (s : State) (c : ChanNo) : Bool := decide ((s.ch c).state = .free)

theorem chooseChans_alone {s : State} {q : GrantRequest} (h : q.partner = none) (c : ChanNo) (d : Option ChanNo) :
    s.chooseChans q = some (c, d) ↔
      ¬ s.opening q.axis = true ∧ d = none ∧ pickChan (s.reach q.axis) (freeChan s) = some c := by
  have chosen : s.chooseChans q =
      if s.opening q.axis then none else (pickChan (s.reach q.axis) (freeChan s)).map (fun c => (c, none)) := by
    simp only [State.chooseChans, h]
    rfl
  rw [chosen]
  by_cases opening : s.opening q.axis = true
  · simp [opening]
  · simp only [opening, Bool.false_eq_true, if_false, Option.map_eq_some_iff, Prod.mk.injEq, not_false_eq_true, true_and]
    exact ⟨fun ⟨x, found, e, lone⟩ => ⟨lone.symm, e ▸ found⟩, fun ⟨lone, found⟩ => ⟨c, found, rfl, lone.symm⟩⟩

theorem chooseChans_pair {s : State} {q : GrantRequest} {b : AxisNo} (h : q.partner = some b) (c : ChanNo) (d : Option ChanNo) :
    s.chooseChans q = some (c, d) ↔ ¬ s.opening q.axis = true ∧ ¬ s.opening b = true ∧
      ∃ e, d = some e ∧ pickPair (s.reach q.axis) (s.reach b) (freeChan s) = some (c, e) := by
  have chosen : s.chooseChans q = if s.opening q.axis || s.opening b then none
      else (pickPair (s.reach q.axis) (s.reach b) (freeChan s)).map (fun p => (p.1, some p.2)) := by
    simp only [State.chooseChans, h]
    rfl
  rw [chosen]
  by_cases first : s.opening q.axis = true
  · simp [first]
  by_cases second : s.opening b = true
  · simp [second]
  simp only [first, second, Bool.false_or, Bool.false_eq_true, if_false, Option.map_eq_some_iff, Prod.mk.injEq,
    not_false_eq_true, true_and, Prod.exists]
  exact ⟨fun ⟨x, e, found, same, both⟩ => ⟨e, both.symm, same ▸ found⟩,
    fun ⟨e, both, found⟩ => ⟨c, e, found, rfl, both.symm⟩⟩

/-! #### One axis of a grant -/

/-- The HAND_MOVED report of an episode that closes (R18, R34). -/
def toldEpisode (s : State) (a : AxisNo) (t : State) : State :=
  match (s.ax a).episode with
  | none => t
  | some e => t.report (.handMoved a e.net (s.ax a).pos (s.ax a).ref)

theorem report_link {s t : State} (h : t.link = s.link) (r : Report) : (t.report r).link = (s.report r).link := by
  unfold State.report
  rw [h]
  split <;> rfl

theorem report_only (s : State) (r : Report) : s.report r = { s with link := (s.report r).link } := by
  unfold State.report
  split <;> rfl

theorem toldEpisode_link {s u t v : State} (a : AxisNo) (own : u.ax a = s.ax a) (h : v.link = t.link) :
    (toldEpisode u a v).link = (toldEpisode s a t).link := by
  unfold toldEpisode
  rw [own]
  split
  · exact h
  · exact report_link h _

theorem closeEpisode_eq (s : State) (a : AxisNo) : s.closeEpisode a = { s with
    axes := (s.modAx a (fun x => { x with episode := none })).axes, link := (toldEpisode s a s).link } := by
  unfold State.closeEpisode toldEpisode
  cases h : (s.ax a).episode with
  | none =>
    have same : s.modAx a (fun x => { x with episode := none }) = s := by
      rw [modAx_eq, ← h]
      exact setAx_self s a
    rw [same]
  | some e =>
    have link := report_link (s := s) (t := s.modAx a (fun x => { x with episode := none })) rfl
      (.handMoved a e.net (s.ax a).pos (s.ax a).ref)
    exact (report_only _ _).trans (by rw [link]; rfl)

/-- The channel that starts to close for an axis (R86). -/
def closingFor (a : AxisNo) (c : Channel) : Channel := { c with state := .settling, closing := some true, axis := some a }

/-- The axis as it is granted (R86, R106). -/
def engagedAt (n : Nat) (x : Axis) : Axis :=
  { x with motion := .engaging, held := false, stop := none, grantStamp := n, episode := none }

theorem engage_eq (s : State) (a : AxisNo) (c : ChanNo) (n : Nat) : s.engage a c n = { s with
    axes := (s.modAx a (engagedAt n)).axes, chans := (s.setCh c (closingFor a (s.ch c))).chans,
    link := (toldEpisode s a s).link } := by
  have twice : ((s.modAx a (fun x => { x with episode := none })).modAx a (fun x =>
      { x with motion := .engaging, held := false, stop := none, grantStamp := n })) = s.modAx a (engagedAt n) := by
    rw [modAx_eq, modAx_eq, setAx_setAx, ax_setAx_self]
    rfl
  rw [← twice, State.engage, closeEpisode_eq]
  rfl

end Sys2Proof.Laws

namespace Sys2Proof.Laws

open Sys2Proof.Machine Sys2Proof.Safety

section Engage

variable (s : State) (a : AxisNo) (c : ChanNo) (n : Nat)

theorem ax_engage : (s.engage a c n).ax a = engagedAt n (s.ax a) := by
  rw [engage_eq]
  exact ax_modAx_self s a (engagedAt n)

theorem ax_engage_ne {b : AxisNo} (ne : b ≠ a) : (s.engage a c n).ax b = s.ax b := by
  rw [engage_eq]
  exact ax_modAx_ne s (engagedAt n) ne

theorem ch_engage : (s.engage a c n).ch c = closingFor a (s.ch c) := by
  rw [engage_eq]
  exact ch_setCh_self s c _

theorem ch_engage_ne {k : ChanNo} (ne : k ≠ c) : (s.engage a c n).ch k = s.ch k := by
  rw [engage_eq]
  exact ch_setCh_ne s _ ne

end Engage

/-- The request has left the queue, and the grant its stamp from the counter (R86, R106). -/
def takenFor (s : State) (q : GrantRequest) : State :=
  { s.leaveQueue q.axis with supply := { s.supply with grantCounter := s.supply.grantCounter + 1 } }

theorem grant_alone {s : State} {q : GrantRequest} {c : ChanNo} {d : Option ChanNo} (h : q.partner = none ∨ d = none) :
    s.grant q c d = (takenFor s q).engage q.axis c s.supply.grantCounter := by
  rcases h with h | h
  · simp only [State.grant, h]
    rfl
  · subst h
    cases k : q.partner <;> simp only [State.grant, k] <;> rfl

theorem grant_pair {s : State} {q : GrantRequest} {b : AxisNo} (h : q.partner = some b) (c d : ChanNo) :
    s.grant q c (some d) =
      ((takenFor s q).engage q.axis c s.supply.grantCounter).engage b d s.supply.grantCounter := by
  simp only [State.grant, h]
  rfl

theorem grant_queue (s : State) (q : GrantRequest) (c : ChanNo) (d : Option ChanNo) :
    (s.grant q c d).queue = (s.leaveQueue q.axis).queue := by
  cases h : q.partner with
  | none =>
    rw [grant_alone (.inl h), engage_eq]
    rfl
  | some b =>
    cases d with
    | none =>
      rw [grant_alone (.inr rfl), engage_eq]
      rfl
    | some d =>
      rw [grant_pair h, engage_eq, engage_eq]
      rfl

/-- A grant touches the axes of its request alone. -/
theorem ax_grant_ne (s : State) {q : GrantRequest} (c : ChanNo) (d : Option ChanNo) {a : AxisNo} (ne : a ≠ q.axis)
    (ne' : q.partner ≠ some a) : (s.grant q c d).ax a = s.ax a := by
  cases h : q.partner with
  | none =>
    rw [grant_alone (.inl h), ax_engage_ne _ _ _ _ ne]
    rfl
  | some b =>
    cases d with
    | none =>
      rw [grant_alone (.inr rfl), ax_engage_ne _ _ _ _ ne]
      rfl
    | some d =>
      have other : a ≠ b := fun e => ne' (by rw [h, e])
      rw [grant_pair h, ax_engage_ne _ _ _ _ other, ax_engage_ne _ _ _ _ ne]
      rfl

/-- A grant touches its own channels alone. -/
theorem ch_grant_ne (s : State) (q : GrantRequest) {c : ChanNo} {d : Option ChanNo} {k : ChanNo} (ne : k ≠ c)
    (ne' : d ≠ some k) : (s.grant q c d).ch k = s.ch k := by
  cases h : q.partner with
  | none =>
    rw [grant_alone (.inl h), ch_engage_ne _ _ _ _ ne]
    rfl
  | some b =>
    cases d with
    | none =>
      rw [grant_alone (.inr rfl), ch_engage_ne _ _ _ _ ne]
      rfl
    | some d =>
      have other : k ≠ d := fun e => ne' (by rw [e])
      rw [grant_pair h, ch_engage_ne _ _ _ _ other, ch_engage_ne _ _ _ _ ne]
      rfl

/-- A pass leaves every channel that is not FREE. -/
theorem ch_grantPass {s : State} {k : ChanNo} (h : (s.ch k).state ≠ .free) : s.grantPass.ch k = s.ch k := by
  refine grantPass_induct (R := fun t => t.ch k = s.ch k) rfl (fun t q c d same _ chosen => ?_)
  obtain ⟨free, free'⟩ := chooseChans_free chosen
  rw [← same] at h ⊢
  exact ch_grant_ne t q (fun e => h (e ▸ free)) (fun e => h (free' k e))

/-- A pass leaves every axis without a request. -/
theorem ax_grantPass {s : State} {a : AxisNo} (h : ∀ q ∈ s.queue, q.axis ≠ a ∧ q.partner ≠ some a) :
    s.grantPass.ax a = s.ax a := by
  refine grantPass_induct (R := fun t => t.ax a = s.ax a) rfl (fun t q c d same mem _ => ?_)
  obtain ⟨ne, ne'⟩ := h q mem
  rw [ax_grant_ne t c d ne.symm ne', same]

theorem grantPass_queue (s : State) : s.grantPass.queue.Sublist s.queue := by
  refine grantPass_induct (R := fun t => t.queue.Sublist s.queue) (.refl _) (fun t q c d kept _ _ => ?_)
  rw [grant_queue]
  exact List.filter_sublist.trans kept

/-! ### A request that joins -/

/-- The power state after a join: idleness ends, and the stage starts to wake (R97, R193, R196). -/
theorem wakeStage_notIdle (s : State) : s.notIdle.wakeStage = { s with power := { s.power with
    dwell := none, state := if s.power.state = .doze then .active else s.power.state,
    stage := if s.power.stage = .off ∧ (s.power.state = .active ∨ s.power.state = .doze) then .waking else s.power.stage } } := by
  have active : (if s.power.state = .doze then PowerState.active else s.power.state) = .active ↔
      s.power.state = .active ∨ s.power.state = .doze := by
    cases s.power.state <;> decide
  by_cases h : s.power.stage = .off ∧ (s.power.state = .active ∨ s.power.state = .doze)
  · rw [if_pos h]
    exact if_pos ⟨h.1, active.mpr h.2⟩
  · rw [if_neg h]
    exact if_neg (fun k => h ⟨k.1, active.mp k.2⟩)

/-- The request that a join makes (R72, R88). -/
def joinRequest (s : State) (as : List AxisNo) (a : AxisNo) (held : Bool) : GrantRequest :=
  ⟨a, as.tail.head?, (s.ax a).priority, if held = true then (s.ax a).stamp else s.stamps, (as.map s.draw).sum, held⟩

/-- The queue, the stamps and the axes after a join, before idleness ends and a pass is made (R88, R112). -/
def joined (s : State) (as : List AxisNo) (a : AxisNo) (held : Bool) : State :=
  { s with
    axes := (s.modAll as (Axis.queuedAt (if held = true then (s.ax a).stamp else s.stamps) held)).axes
    stamps := if held = true then s.stamps else s.stamps + 1
    queue := insertRequest (joinRequest s as a held) s.queue }

theorem draw_modAll (s : State) (as : List AxisNo) (f : Axis → Axis) (hf : ∀ x, (f x).config = x.config) (a : AxisNo) :
    (s.modAll as f).draw a = s.draw a := by
  rw [State.draw, modAll_keeps Axis.config s as f hf]
  rfl

theorem modAll_axes_congr {s t : State} (h : t.axes = s.axes) (as : List AxisNo) (f : Axis → Axis) :
    (t.modAll as f).axes = (s.modAll as f).axes := by
  induction as generalizing s t with
  | nil => exact h
  | cons a as ih =>
    refine ih ?_
    show (t.modAx a f).axes = (s.modAx a f).axes
    rw [modAx_eq, modAx_eq, ax_congr h]
    exact congrArg (fun v : Vector Axis 12 => v.set a (f (s.ax a))) h

theorem joinQueue_eq {s : State} {a : AxisNo} {rest : List AxisNo} (h : s.reachable (a :: rest) = true) (held : Bool) :
    s.joinQueue (a :: rest) held = (joined s (a :: rest) a held).notIdle.wakeStage.grantPass := by
  have kept (t : State) (same : t.axes = s.axes) (n : Nat) : t.modAll (a :: rest) (Axis.queuedAt n held) =
      { t with axes := (s.modAll (a :: rest) (Axis.queuedAt n held)).axes } := by
    rw [← modAll_axes_congr same]
    exact OnlyAxes.modAll _ _ _
  have draws (t : State) (n : Nat) : (t.modAll (a :: rest) (Axis.queuedAt n held)).draw = t.draw :=
    funext (draw_modAll t _ _ (fun _ => rfl))
  rw [State.joinQueue, if_pos h]
  cases held
  · simp only [Bool.false_eq_true, if_false, draws]
    rw [kept { s with stamps := s.stamps + 1 } rfl]
    rfl
  · simp only [if_true, draws]
    rw [kept s rfl]
    rfl

end Sys2Proof.Laws

namespace Sys2Proof.Laws

open Sys2Proof.Machine Sys2Proof.Safety

theorem ax_joined {s : State} {as : List AxisNo} {a b : AxisNo} {held : Bool} (nodup : as.Nodup) (mem : b ∈ as) :
    (joined s as a held).ax b = (s.ax b).queuedAt (if held = true then (s.ax a).stamp else s.stamps) held := by
  refine (ax_congr (s := s.modAll as (Axis.queuedAt _ held)) rfl b).trans ?_
  exact ax_modAll_of_mem _ _ _ _ mem nodup

theorem ax_joined_ne {s : State} {as : List AxisNo} {a b : AxisNo} {held : Bool} (h : b ∉ as) :
    (joined s as a held).ax b = s.ax b := by
  refine (ax_congr (s := s.modAll as (Axis.queuedAt _ held)) rfl b).trans ?_
  exact ax_modAll_of_not_mem _ _ _ _ h

/-- The axes of a join that fails, at rest before the fault is raised (R88). -/
def failedJoin (s : State) (as : List AxisNo) : State :=
  s.modAll as (fun x => { x with motion := .idle, stop := none, backoff := none, link := none })

theorem retiredIn_failedJoin (s : State) (as : List AxisNo) : (failedJoin s as).retiredIn as = s.retiredIn as := by
  have reach (a : AxisNo) : (failedJoin s as).reach a = s.reach a := by
    rw [State.reach, failedJoin, modAll_keeps Axis.config]
    · rfl
    · exact fun _ => rfl
  have chans (c : ChanNo) : (failedJoin s as).ch c = s.ch c := ch_congr (modAll_chans _ _ _) c
  simp only [State.retiredIn, reach, chans]

theorem freeIndex_failedJoin (s : State) (as : List AxisNo) : (failedJoin s as).freeIndex = s.freeIndex :=
  modAll_freeIndex _ _ _

theorem failJoin_none {s : State} {as : List AxisNo} (h : s.retiredIn as = []) :
    s.failJoin as = (failedJoin s as).raiseNoChannel as 0 := by
  have k := (retiredIn_failedJoin s as).trans h
  rw [failedJoin] at k ⊢
  simp only [State.failJoin, k]

theorem failJoin_one {s : State} {as : List AxisNo} {c : ChanNo} (h : s.retiredIn as = [c]) :
    s.failJoin as = (failedJoin s as).raiseNoChannel as c := by
  have k := (retiredIn_failedJoin s as).trans h
  rw [failedJoin] at k ⊢
  simp only [State.failJoin, k]

/-- Of several RETIRED channels the fault names the one picked freely (log 2). -/
theorem failJoin_several {s : State} {as : List AxisNo} (h : 2 ≤ (s.retiredIn as).length) : ∃ c ∈ s.retiredIn as,
    (s.retiredIn as)[Config.retiredPick s.freeIndex (s.retiredIn as).length % (s.retiredIn as).length]? = some c ∧
    s.failJoin as = ({ failedJoin s as with freeIndex := s.freeIndex + 1 }).raiseNoChannel as c := by
  have k := retiredIn_failedJoin s as
  generalize s.retiredIn as = l at *
  have bound : Config.retiredPick s.freeIndex l.length % l.length < l.length := Nat.mod_lt _ (by omega)
  refine ⟨_, List.getElem_mem bound, List.getElem?_eq_getElem bound, ?_⟩
  match l, h with
  | c :: d :: cs, _ =>
    have several : s.failJoin as = ({ failedJoin s as with freeIndex := (failedJoin s as).freeIndex + 1 }).raiseNoChannel as
        (((c :: d :: cs)[Config.retiredPick (failedJoin s as).freeIndex (c :: d :: cs).length %
          (c :: d :: cs).length]?).getD c) := by
      rw [failedJoin] at k ⊢
      simp only [State.failJoin, k]
    rw [several, freeIndex_failedJoin, List.getElem?_eq_getElem bound]
    rfl

end Sys2Proof.Laws

namespace Sys2Proof.Proofs

open Sys2Proof.Machine Sys2Proof.Safety Sys2Proof.Laws

theorem priority_eq (x : Axis) : x.priority = match x.check, x.move with
    | none, some m => m.priority
    | _, _ => 1 := by
  cases check : x.check <;> cases move : x.move <;> simp [Axis.priority, check, move]

theorem joinQueue_fails {s : State} {as : List AxisNo} (h : s.reachable as = false) (held : Bool) :
    s.joinQueue as held = (s.failJoin as).passSince s := by
  unfold State.joinQueue
  exact if_neg (by rw [h]; decide)

/-- The RETIRED channels in reach, by the channels that each record names. -/
theorem retiredIn_eq (s : State) (as : List AxisNo) {reach : AxisNo → BitVec 4} (h : reach = s.reach) :
    s.retiredIn as = allChans.filter (fun c => decide ((s.ch c).state = .retired) && as.any (fun a => (reach a).getLsbD c.val)) := by
  rw [h]
  rfl

/-- What a grant to one axis changes (R86, R106). -/
theorem grant_alone_blocks (s : State) {q : GrantRequest} (c : ChanNo) (alone : q.partner = none) :
    let t := s.grant q c none
    t.queue = (s.leaveQueue q.axis).queue ∧
    t.supply = { s.supply with grantCounter := s.supply.grantCounter + 1 } ∧
    t.ax q.axis = engagedAt s.supply.grantCounter (s.ax q.axis) ∧ (∀ a, a ≠ q.axis → t.ax a = s.ax a) ∧
    t.ch c = closingFor q.axis (s.ch c) ∧ (∀ k, k ≠ c → t.ch k = s.ch k) ∧
    t.link = (toldEpisode s q.axis s).link ∧ t.power = s.power ∧ t.runners = s.runners ∧ t.stamps = s.stamps := by
  intro t
  have granted : t = (takenFor s q).engage q.axis c s.supply.grantCounter := grant_alone (.inl alone)
  have blocks := engage_eq (takenFor s q) q.axis c s.supply.grantCounter
  rw [← granted] at blocks
  refine ⟨grant_queue s q c none, by rw [blocks]; rfl, ?_, fun a ne => ax_grant_ne s c none ne (by simp [alone]), ?_,
    fun k ne => ch_grant_ne s q ne (by simp), ?_, by rw [blocks]; rfl, by rw [blocks]; rfl, by rw [blocks]; rfl⟩
  · rw [granted, ax_engage]
    rfl
  · rw [granted, ch_engage]
    rfl
  · rw [blocks]
    exact toldEpisode_link q.axis rfl rfl

/-- What a grant to a gang changes (R72, R86, R106). -/
theorem grant_pair_blocks (s : State) {q : GrantRequest} {b : AxisNo} (c d : ChanNo) (pair : q.partner = some b)
    (ne : b ≠ q.axis) (ne' : d ≠ c) :
    let t := s.grant q c (some d)
    t.queue = (s.leaveQueue q.axis).queue ∧
    t.supply = { s.supply with grantCounter := s.supply.grantCounter + 1 } ∧
    t.ax q.axis = engagedAt s.supply.grantCounter (s.ax q.axis) ∧ t.ax b = engagedAt s.supply.grantCounter (s.ax b) ∧
    (∀ a, a ≠ q.axis → a ≠ b → t.ax a = s.ax a) ∧
    t.ch c = closingFor q.axis (s.ch c) ∧ t.ch d = closingFor b (s.ch d) ∧ (∀ k, k ≠ c → k ≠ d → t.ch k = s.ch k) ∧
    t.link = (toldEpisode s b (toldEpisode s q.axis s)).link ∧ t.power = s.power ∧ t.runners = s.runners ∧
    t.stamps = s.stamps := by
  intro t
  obtain ⟨u, hu⟩ : ∃ u, (takenFor s q).engage q.axis c s.supply.grantCounter = u := ⟨_, rfl⟩
  have granted : t = u.engage b d s.supply.grantCounter := by
    rw [← hu]
    exact grant_pair pair c d
  have first := engage_eq (takenFor s q) q.axis c s.supply.grantCounter
  rw [hu] at first
  have blocks := engage_eq u b d s.supply.grantCounter
  rw [← granted] at blocks
  have own : u.ax b = s.ax b := by
    rw [← hu, ax_engage_ne _ _ _ _ ne]
    rfl
  have chan : u.ch d = s.ch d := by
    rw [← hu, ch_engage_ne _ _ _ _ ne']
    rfl
  refine ⟨grant_queue s q c (some d), by rw [blocks, first]; rfl, ?_, ?_,
    fun a h h' => ax_grant_ne s c (some d) h (by rw [pair]; exact fun e => h' (Option.some.inj e).symm), ?_, ?_,
    fun k h h' => ch_grant_ne s q h (fun e => h' (Option.some.inj e).symm), ?_, by rw [blocks, first]; rfl,
    by rw [blocks, first]; rfl, by rw [blocks, first]; rfl⟩
  · rw [granted, ax_engage_ne _ _ _ _ ne.symm, ← hu, ax_engage]
    rfl
  · rw [granted, ax_engage, own]
  · rw [granted, ch_engage_ne _ _ _ _ ne'.symm, ← hu, ch_engage]
    rfl
  · rw [granted, ch_engage, chan]
  · rw [blocks]
    refine toldEpisode_link b own ?_
    rw [first]
    exact toldEpisode_link q.axis rfl rfl

/-- The state in which a join makes its pass (R88, R196). -/
def ready (s : State) (as : List AxisNo) (a : AxisNo) (held : Bool) : State := (joined s as a held).notIdle.wakeStage

theorem ready_axes (s : State) (as : List AxisNo) (a : AxisNo) (held : Bool) :
    (ready s as a held).axes = (joined s as a held).axes := by
  rw [ready, wakeStage_notIdle]

theorem ready_blocks (s : State) (as : List AxisNo) (a : AxisNo) (held : Bool) :
    let t := ready s as a held
    t.queue = insertRequest (joinRequest s as a held) s.queue ∧ t.stamps = (if held = true then s.stamps else s.stamps + 1) ∧
    t.chans = s.chans ∧ t.supply = s.supply ∧ t.power = { s.power with
      dwell := none, state := if s.power.state = .doze then .active else s.power.state,
      stage := if s.power.stage = .off ∧ (s.power.state = .active ∨ s.power.state = .doze) then .waking
        else s.power.stage } := by
  intro t
  have blocks : t = _ := wakeStage_notIdle (joined s as a held)
  rw [blocks]
  exact ⟨rfl, rfl, rfl, rfl, rfl⟩

/-- Settles O57: the order of the queue, the walk of a pass over it, a grant, and a join with its failure. -/
theorem grantsTakeTheirOrder : Obligations.GrantsTakeTheirOrder := by
  unfold Obligations.GrantsTakeTheirOrder
  refine ⟨⟨fun _ _ _ => pickChan_eq_some, fun _ _ _ _ _ => pickPair_eq_some, reachable_alone, reachable_pair⟩,
    ⟨insertRequest_inOrder, insertRequest_perm, fun _ a => leaveQueue_inOrder a, ahead_iff⟩,
    fun s => ⟨fun may => if_pos (mayGrant_iff.mpr may), fun waits => if_neg (mt mayGrant_iff.mp waits)⟩,
    fun t s => ⟨fun departed => passSince_departed (departed_iff.mpr departed), fun stays keeps => ?_⟩,
    fun s q qs reserved => ⟨rfl, passWalk_over, fun c d chosen fits => ⟨fun here => ?_, fun later => ?_⟩⟩,
    fun s q => ?_,
    fun s q c => ⟨fun alone => grant_alone_blocks s c alone, fun b d pair ne ne' => grant_pair_blocks s c d pair ne ne'⟩,
    fun s => ⟨fun c => ch_grantPass, fun a => ax_grantPass, grantPass_queue s⟩,
    fun s a held => ?_, fun s a b held ne => ?_, fun s as => ?_, fun s a => rfl⟩
  · exact passSince_none (Bool.eq_false_iff.mpr (mt departed_iff.mp (not_or.mpr ⟨stays, keeps⟩)))
  · rw [passWalk_chosen chosen fits, if_pos here]
  · rw [passWalk_chosen chosen fits, if_neg (by omega)]
  · intro free reach opens
    have known : reach = s.reach := (funext (reach_eq s)).symm
    have opening (a : AxisNo) : opens a ↔ s.opening a = true := opening_iff.symm
    clear_value reach opens
    subst known
    simp only [opening]
    exact ⟨fun c d alone => chooseChans_alone alone c d, fun b c d pair => chooseChans_pair pair c d⟩
  · intro x priority old stamp draw
    have first : priority = x.priority := (priority_eq x).symm
    have second : old = x.stamp := rfl
    have third : draw = s.draw a := (draw_eq s a).symm
    clear_value priority old draw
    subst first second third
    obtain ⟨queue, stamps, chans, supply, power⟩ := ready_blocks s [a] a held
    refine ⟨fun reach => ⟨ready s [a] a held, joinQueue_eq reach held, queue, stamps, ?_, fun b ne => ?_, chans, supply,
      power⟩, fun out => joinQueue_fails out held⟩
    · rw [ax_congr (ready_axes s [a] a held)]
      exact ax_joined (List.nodup_singleton a) (List.mem_singleton_self a)
    · rw [ax_congr (ready_axes s [a] a held)]
      exact ax_joined_ne (by simpa using ne)
  · intro x priority old stamp draw queued
    have first : priority = x.priority := (priority_eq x).symm
    have second : old = x.stamp := rfl
    have third : draw = s.draw := (funext (draw_eq s)).symm
    clear_value priority old draw
    subst first second third
    have nodup : [a, b].Nodup := by simpa using ne
    obtain ⟨queue, stamps, chans, supply, -⟩ := ready_blocks s [a, b] a held
    refine ⟨fun reach => ⟨ready s [a, b] a held, joinQueue_eq reach held, queue, stamps, ?_, ?_, fun c h h' => ?_, chans,
      supply⟩, fun out => joinQueue_fails out held⟩
    · rw [ax_congr (ready_axes s [a, b] a held)]
      exact ax_joined nodup (by simp)
    · rw [ax_congr (ready_axes s [a, b] a held)]
      exact ax_joined nodup (by simp)
    · rw [ax_congr (ready_axes s [a, b] a held)]
      exact ax_joined_ne (by simp [h, h'])
  · intro fails retired
    have known : retired = s.retiredIn as := (retiredIn_eq s as (funext (reach_eq s)).symm).symm
    clear_value retired
    subst known
    exact ⟨failJoin_none, fun c => failJoin_one, failJoin_several⟩

end Sys2Proof.Proofs

/-! ### The deadlock search -/

namespace Sys2Proof.Laws

open Sys2Proof.Machine Sys2Proof.Safety

/-- The axis is BLOCKED by another (R129). -/
def BlockedBy (s : State) (y z : AxisNo) : Prop :=
  (s.ax y).motion = .blocked ∧ ∃ k, (s.ax y).link = some k ∧ k.partner = z

/-- The axis that the link of a BLOCKED axis names; any other axis leads to itself. -/
def blocker (s : State) (y : AxisNo) : AxisNo :=
  if (s.ax y).motion = .blocked then ((s.ax y).link.map BlockLink.partner).getD y else y

theorem blocker_of_blockedBy {s : State} {y z : AxisNo} (h : BlockedBy s y z) : blocker s y = z := by
  obtain ⟨blocked, k, link, rfl⟩ := h
  simp [blocker, blocked, link]

theorem blockedBy_blocker {s : State} {y : AxisNo} {l : BlockLink} (blocked : (s.ax y).motion = .blocked)
    (link : (s.ax y).link = some l) : BlockedBy s y (blocker s y) :=
  ⟨blocked, l, link, by simp [blocker, blocked, link]⟩

theorem blocker_stays {s : State} {y : AxisNo} (h : ¬ ∃ z, BlockedBy s y z) : blocker s y = y := by
  unfold blocker
  split
  · next blocked =>
    cases link : (s.ax y).link with
    | none => rfl
    | some l => exact absurd ⟨_, blockedBy_blocker blocked link⟩ h
  · rfl

/-- Along the links, one reaches another exactly when following the blockers does. -/
theorem reaches_iff_iterate {s : State} {y x : AxisNo} :
    Relation.ReflTransGen (BlockedBy s) y x ↔ ∃ k, (blocker s)^[k] y = x := by
  constructor
  · intro h
    induction h with
    | refl => exact ⟨0, rfl⟩
    | tail _ edge ih =>
      obtain ⟨k, rfl⟩ := ih
      exact ⟨k + 1, by rw [Function.iterate_succ_apply', blocker_of_blockedBy edge]⟩
  · rintro ⟨k, rfl⟩
    induction k with
    | zero => exact .refl
    | succ k ih =>
      rw [Function.iterate_succ_apply']
      by_cases h : ∃ z, BlockedBy s ((blocker s)^[k] y) z
      · obtain ⟨z, edge⟩ := h
        rw [blocker_of_blockedBy edge]
        exact ih.tail edge
      · rw [blocker_stays h]
        exact ih

/-- A walk of a function that first meets its goal after `k` steps does not come back to where it began. -/
theorem iterate_ne_of_first {α : Type} {f : α → α} {x y : α} {k : Nat} (hit : f^[k] y = x) (first : ∀ j < k, f^[j] y ≠ x)
    {j : Nat} (pos : 0 < j) (le : j ≤ k) : f^[j] y ≠ y := by
  intro loop
  refine first (k - j) (by omega) ?_
  calc f^[k - j] y = f^[k - j] (f^[j] y) := by rw [loop]
    _ = f^[k] y := by rw [← Function.iterate_add_apply, Nat.sub_add_cancel le]
    _ = x := hit

/-- Such a walk among the twelve axes takes fewer than twelve steps. -/
theorem first_lt {f : AxisNo → AxisNo} {x y : AxisNo} {k : Nat} (hit : f^[k] y = x) (first : ∀ j < k, f^[j] y ≠ x) : k < 12 := by
  have distinct : ∀ i j, i < j → j ≤ k → f^[i] y ≠ f^[j] y := by
    intro i j lt le same
    refine iterate_ne_of_first (f := f) (x := x) (y := f^[i] y) (k := k - i) ?_ (fun m h => ?_) (j := j - i) (by omega) (by omega) ?_
    · rw [← Function.iterate_add_apply, Nat.sub_add_cancel (by omega), hit]
    · rw [← Function.iterate_add_apply]
      exact first (m + i) (by omega)
    · rw [← Function.iterate_add_apply, Nat.sub_add_cancel (by omega), ← same]
  have injective : Function.Injective (fun i : Fin (k + 1) => f^[i.val] y) := by
    intro i j same
    rcases lt_trichotomy i.val j.val with lt | eq | lt
    · exact absurd same (distinct _ _ lt (by omega))
    · exact Fin.ext eq
    · exact absurd same.symm (distinct _ _ lt (by omega))
  have count := Fintype.card_le_of_injective _ injective
  rw [Fintype.card_fin, Fintype.card_fin] at count
  omega

theorem chase_blocked {s : State} {y : AxisNo} {l : BlockLink} (blocked : (s.ax y).motion = .blocked)
    (link : (s.ax y).link = some l) (x : AxisNo) (n : Nat) (visited : List AxisNo) : s.chase x (n + 1) visited y =
      if y = x then true else if visited.contains y then false else s.chase x n (y :: visited) l.partner := by
  rw [State.chase, blocked, link]

theorem chase_unlinked {s : State} {x y : AxisNo} (ne : y ≠ x) (h : ∀ l, (s.ax y).motion = .blocked → (s.ax y).link ≠ some l)
    (n : Nat) (visited : List AxisNo) : s.chase x (n + 1) visited y = false := by
  rw [State.chase, if_neg ne]
  split
  · rfl
  · split
    · next l blocked link => exact absurd link (h l blocked)
    · rfl

theorem chase_hit {s : State} (x : AxisNo) (n : Nat) (visited : List AxisNo) : s.chase x (n + 1) visited x = true := by
  rw [State.chase, if_pos rfl]

/-- What the search finds lies along the links. -/
theorem reaches_of_chase {s : State} {x : AxisNo} (n : Nat) (visited : List AxisNo) (y : AxisNo)
    (h : s.chase x n visited y = true) : Relation.ReflTransGen (BlockedBy s) y x := by
  induction n generalizing visited y with
  | zero => exact absurd h (by simp [State.chase])
  | succ n ih =>
    by_cases here : y = x
    · rw [here]
    by_cases edge : ∃ l, (s.ax y).motion = .blocked ∧ (s.ax y).link = some l
    · obtain ⟨l, blocked, link⟩ := edge
      rw [chase_blocked blocked link, if_neg here] at h
      split at h
      · exact absurd h (by decide)
      · exact .head ⟨blocked, l, link, rfl⟩ (ih _ _ h)
    · rw [chase_unlinked here (fun l blocked link => edge ⟨l, blocked, link⟩) n visited] at h
      exact absurd h (by decide)

/-- The search finds what a walk without repetition reaches within its steps. -/
theorem chase_of_first {s : State} {x : AxisNo} (n : Nat) (visited : List AxisNo) (y : AxisNo) {k : Nat} (bound : k < n)
    (hit : (blocker s)^[k] y = x) (first : ∀ j < k, (blocker s)^[j] y ≠ x)
    (fresh : ∀ j < k, (blocker s)^[j] y ∉ visited) : s.chase x n visited y = true := by
  induction n generalizing visited y k with
  | zero => omega
  | succ n ih =>
    cases k with
    | zero =>
      have here : y = x := hit
      rw [here]
      exact chase_hit x n visited
    | succ k =>
      have away : blocker s y ≠ y := iterate_ne_of_first (j := 1) hit first (by omega) (by omega)
      obtain ⟨z, blocked, l, link, rfl⟩ := not_not.mp (mt blocker_stays away)
      have next : blocker s y = l.partner := blocker_of_blockedBy ⟨blocked, l, link, rfl⟩
      have here : y ≠ x := first 0 (by omega)
      have new : ¬ visited.contains y = true := by simpa using fresh 0 (by omega)
      rw [chase_blocked blocked link, if_neg here, if_neg new, ← next]
      refine ih (y :: visited) (blocker s y) (by omega) hit (fun j h => first (j + 1) (by omega)) (fun j h => ?_)
      rw [List.mem_cons, not_or]
      exact ⟨iterate_ne_of_first (j := j + 1) hit first (by omega) (by omega), fresh (j + 1) (by omega)⟩

/-- The search over twelve steps decides whether the axis is reached (R129). -/
theorem chase_iff {s : State} {x y : AxisNo} : s.chase x 12 [] y = true ↔ Relation.ReflTransGen (BlockedBy s) y x := by
  refine ⟨reaches_of_chase 12 [] y, fun h => ?_⟩
  have some := reaches_iff_iterate.mp h
  obtain ⟨hit, first⟩ : (blocker s)^[Nat.find some] y = x ∧ ∀ j < Nat.find some, (blocker s)^[j] y ≠ x :=
    ⟨Nat.find_spec some, fun j lt => Nat.find_min some lt⟩
  exact chase_of_first 12 [] y (first_lt hit first) hit first (by simp)

theorem searchDeadlock_own {s : State} {x : AxisNo} {l : BlockLink} (blocked : (s.ax x).motion = .blocked)
    (link : (s.ax x).link = some l) (own : l.copy = false) : s.searchDeadlock x =
      if s.chase x 12 [] l.partner then s.raiseFault x .keepoutDeadlock (.partner l.partner) (some l.entry) none else s := by
  simp only [State.searchDeadlock, blocked, link, own, Bool.not_false, Bool.true_and]

end Sys2Proof.Laws

/-! ### BLOCKED: entry, change and clearing of links -/

namespace Sys2Proof.Laws

open Sys2Proof.Machine Sys2Proof.Safety

/-- Two states agree on what a BLOCKED report tells: positions, owners, gangs and running moves. -/
structure SameNotes (s t : State) : Prop where
  pos : ∀ a, (t.ax a).pos = (s.ax a).pos
  owner : ∀ a, (t.ax a).owner = (s.ax a).owner
  config : ∀ a, (t.ax a).config = (s.ax a).config
  runners : t.runners = s.runners
  places : t.places = s.places
  slots : t.slots = s.slots

theorem SameNotes.refl (s : State) : SameNotes s s := ⟨fun _ => rfl, fun _ => rfl, fun _ => rfl, rfl, rfl, rfl⟩

theorem SameNotes.trans {s t u : State} (h : SameNotes s t) (k : SameNotes t u) : SameNotes s u :=
  ⟨fun a => (k.pos a).trans (h.pos a), fun a => (k.owner a).trans (h.owner a), fun a => (k.config a).trans (h.config a),
    k.runners.trans h.runners, k.places.trans h.places, k.slots.trans h.slots⟩

theorem SameNotes.notIdle (s : State) : SameNotes s s.notIdle := ⟨fun _ => rfl, fun _ => rfl, fun _ => rfl, rfl, rfl, rfl⟩

theorem SameNotes.report (s : State) (r : Report) : SameNotes s (s.report r) :=
  ⟨fun a => by rw [report_ax], fun a => by rw [report_ax], fun a => by rw [report_ax], report_runners s r, report_places s r,
    report_slots s r⟩

theorem SameNotes.setAx {s : State} {a : AxisNo} {x : Axis} (pos : x.pos = (s.ax a).pos) (owner : x.owner = (s.ax a).owner)
    (config : x.config = (s.ax a).config) : SameNotes s (s.setAx a x) := by
  have kept {α : Type} (g : Axis → α) (h : g x = g (s.ax a)) (b : AxisNo) : g ((s.setAx a x).ax b) = g (s.ax b) := by
    rw [ax_setAx]
    split
    · next e => rw [h, e]
    · rfl
  exact ⟨kept Axis.pos pos, kept Axis.owner owner, kept Axis.config config, rfl, rfl, rfl⟩

theorem SameNotes.ownerTag {s t : State} (h : SameNotes s t) (a : AxisNo) : t.ownerTag a = s.ownerTag a := by
  have members (b : AxisNo) : t.members b = s.members b := members_congr h.config b
  simp only [State.ownerTag, h.owner, State.run, h.runners, State.activeOn, State.moveOn, State.moveEntry, h.places, h.slots,
    members]

/-- The BLOCKED report of an axis and its link (R133). -/
def blockNote (s : State) (ev : BlockEvent) (a : AxisNo) (l : BlockLink) : Report :=
  .blocked ev a l.entry l.partner l.copy (s.ax a).pos (s.ax l.partner).pos (s.ownerTag a)

theorem SameNotes.note {s t : State} (h : SameNotes s t) (ev : BlockEvent) (a : AxisNo) (l : BlockLink) :
    t.blockedReport ev a l = t.report (blockNote s ev a l) := by
  simp only [State.blockedReport, blockNote, h.pos, h.ownerTag]

/-- An axis changed and its link reported, where neither position nor owner nor gang is touched. -/
theorem SameNotes.noted {s t : State} (h : SameNotes s t) {a : AxisNo} (own : t.ax a = s.ax a) {f : Axis → Axis}
    (hf : ∀ x, (f x).pos = x.pos ∧ (f x).owner = x.owner ∧ (f x).config = x.config) (ev : BlockEvent) (l : BlockLink) :
    (t.modAx a f).blockedReport ev a l = (t.setAx a (f (s.ax a))).report (blockNote s ev a l) ∧
    SameNotes s ((t.setAx a (f (s.ax a))).report (blockNote s ev a l)) := by
  obtain ⟨pos, owner, config⟩ := hf (s.ax a)
  have changed : SameNotes s (t.setAx a (f (s.ax a))) :=
    h.trans (.setAx (by rw [pos, own]) (by rw [owner, own]) (by rw [config, own]))
  refine ⟨?_, changed.trans (.report _ _)⟩
  rw [modAx_eq, own]
  exact changed.note ev a l

/-- The other axes after such a change. -/
theorem ax_noted_ne (t : State) {a b : AxisNo} (x : Axis) (r : Report) (ne : b ≠ a) : ((t.setAx a x).report r).ax b = t.ax b := by
  rw [report_ax, ax_setAx_ne _ _ ne]

/-- An axis as it enters BLOCKED with a link (R125). -/
def blockedAt (l : BlockLink) (x : Axis) : Axis :=
  { x with motion := .blocked, phase := none, held := false, blanking := false, stop := none, backoff := none, noted := none,
           link := some l }

/-- The axis as its link ends (R127). -/
def freed (x : Axis) : Axis := { x with motion := .idle, link := none }

/-- The axis with its link changed (R126). -/
def relinked (l : BlockLink) (x : Axis) : Axis := { x with link := some l }

theorem blockEntry_clear {s : State} {as : List AxisNo} (h : (s.askAll as).findSome? Prod.snd = none) : s.blockEntry as = s := by
  simp only [State.blockEntry, h]

theorem blockEntry_blocked {s : State} {as : List AxisNo} {copied : EntryNo × AxisNo}
    (h : (s.askAll as).findSome? Prod.snd = some copied) : s.blockEntry as =
      (s.askAll as).foldl (fun t p => if p.2.isSome then t.searchDeadlock p.1 else t)
        ((s.askAll as).foldl (fun t p =>
          (t.modAx p.1 (blockedAt (linkOf p.2 copied 0))).blockedReport .block p.1 (linkOf p.2 copied 0)) s.notIdle) := by
  simp only [State.blockEntry, h]
  rfl

/-- The links that a re-evaluation changes. -/
def relinks (s : State) (copied : EntryNo × AxisNo) (p : AxisNo × Option (EntryNo × AxisNo)) : Bool :=
  ((s.ax p.1).link.map (fun l => decide (linkOf p.2 copied l.timer ≠ l))).getD false

theorem linkOf_timer (own : Option (EntryNo × AxisNo)) (copied : EntryNo × AxisNo) (n : Nat) : (linkOf own copied n).timer = n := by
  cases own <;> rfl

/-- With the timer unbroken, a link changes exactly in its entry, its partner or its copying. -/
theorem linkOf_ne_iff (own : Option (EntryNo × AxisNo)) (copied : EntryNo × AxisNo) (l : BlockLink) :
    linkOf own copied l.timer ≠ l ↔ (linkOf own copied l.timer).entry ≠ l.entry ∨
      (linkOf own copied l.timer).partner ≠ l.partner ∨ (linkOf own copied l.timer).copy ≠ l.copy := by
  have timer := linkOf_timer own copied l.timer
  generalize linkOf own copied l.timer = k at *
  obtain ⟨e, p, c, n⟩ := k
  obtain ⟨e', p', c', n'⟩ := l
  simp only at timer
  subst timer
  simp only [ne_eq, BlockLink.mk.injEq, and_true]
  tauto

theorem reevaluate_unblocked {s : State} {x : AxisNo} (h : (s.ax x).motion ≠ .blocked) : s.reevaluate x = s := if_neg h

theorem reevaluate_clear {s : State} {x : AxisNo} (blocked : (s.ax x).motion = .blocked)
    (h : (s.askAll (s.members x)).findSome? Prod.snd = none) : s.reevaluate x = s.unblock (s.members x) := by
  simp only [State.reevaluate, blocked, if_true, h]

/-- One link changed and reported (R126). -/
def relink (copied : EntryNo × AxisNo) (t : State) (p : AxisNo × Option (EntryNo × AxisNo)) : State :=
  match (t.ax p.1).link with
  | none => t
  | some l => (t.modAx p.1 (relinked (linkOf p.2 copied l.timer))).blockedReport .change p.1 (linkOf p.2 copied l.timer)

theorem relink_linked {t : State} {p : AxisNo × Option (EntryNo × AxisNo)} {l : BlockLink} (h : (t.ax p.1).link = some l)
    (copied : EntryNo × AxisNo) : relink copied t p =
      (t.modAx p.1 (relinked (linkOf p.2 copied l.timer))).blockedReport .change p.1 (linkOf p.2 copied l.timer) := by
  simp only [relink, h]

theorem reevaluate_blocked {s : State} {x : AxisNo} (blocked : (s.ax x).motion = .blocked) {copied : EntryNo × AxisNo}
    (h : (s.askAll (s.members x)).findSome? Prod.snd = some copied) : s.reevaluate x =
      (((s.askAll (s.members x)).filter (relinks s copied)).foldl
        (fun t p => if p.2.isSome then t.searchDeadlock p.1 else t)
        (((s.askAll (s.members x)).filter (relinks s copied)).foldl (relink copied) s)).passSince s := by
  have same : relinks s copied = fun p => match (s.ax p.1).link with
      | none => false
      | some l => decide ((linkOf p.2 copied l.timer).entry ≠ l.entry ∨ (linkOf p.2 copied l.timer).partner ≠ l.partner ∨
        (linkOf p.2 copied l.timer).copy ≠ l.copy) := by
    funext p
    cases link : (s.ax p.1).link with
    | none => simp [relinks, link]
    | some l => simp only [relinks, link, Option.map_some, Option.getD_some, linkOf_ne_iff]
  rw [same]
  simp only [State.reevaluate, blocked, if_true, h]
  rfl

end Sys2Proof.Laws

namespace Sys2Proof.Laws

open Sys2Proof.Machine Sys2Proof.Safety

/-- The answer that blocks an axis of itself, or none (R123). -/
def asked (s : State) (a : AxisNo) : Option (EntryNo × AxisNo) := s.ask a (s.wantDirs a)

theorem askAll_alone (s : State) (x : AxisNo) : s.askAll [x] = [(x, asked s x)] := rfl

theorem askAll_pair (s : State) (p q : AxisNo) : s.askAll [p, q] = [(p, asked s p), (q, asked s q)] := rfl

theorem findSome_alone (x : AxisNo) (o : Option (EntryNo × AxisNo)) : [(x, o)].findSome? Prod.snd = o := by
  cases o <;> rfl

theorem findSome_pair (p q : AxisNo) (o o' : Option (EntryNo × AxisNo)) :
    [(p, o), (q, o')].findSome? Prod.snd = o.or o' := by
  cases o <;> cases o' <;> rfl

/-- A link that ends, with its report (R127). -/
def cleared (t : State) (a : AxisNo) : State :=
  match (t.ax a).link with
  | none => t
  | some l => (t.modAx a freed).blockedReport .clear a l

theorem cleared_linked {t : State} {a : AxisNo} {l : BlockLink} (h : (t.ax a).link = some l) :
    cleared t a = (t.modAx a freed).blockedReport .clear a l := by
  simp only [cleared, h]

theorem unblock_eq (s : State) (as : List AxisNo) : s.unblock as = (as.foldl cleared s).proceed as := rfl

/-! #### A single axis -/

section Alone

variable {s : State} {x : AxisNo} {n : EntryNo} {b : AxisNo}

theorem blockEntry_alone_clear (h : asked s x = none) : s.blockEntry [x] = s :=
  blockEntry_clear (by rw [askAll_alone, findSome_alone, h])

theorem blockEntry_alone (h : asked s x = some (n, b)) : s.blockEntry [x] =
    ((s.notIdle.setAx x (blockedAt ⟨n, b, false, 0⟩ (s.ax x))).report
      (blockNote s .block x ⟨n, b, false, 0⟩)).searchDeadlock x := by
  obtain ⟨step, -⟩ := (SameNotes.notIdle s).noted (a := x) rfl (f := blockedAt ⟨n, b, false, 0⟩)
    (fun _ => ⟨rfl, rfl, rfl⟩) .block ⟨n, b, false, 0⟩
  rw [blockEntry_blocked (copied := (n, b)) (by rw [askAll_alone, findSome_alone, h]), askAll_alone, h, ← step]
  rfl

theorem unblock_alone {l : BlockLink} (link : (s.ax x).link = some l) : s.unblock [x] =
    ((s.setAx x (freed (s.ax x))).report (blockNote s .clear x l)).proceed [x] := by
  obtain ⟨step, -⟩ := (SameNotes.refl s).noted (a := x) rfl (f := freed) (fun _ => ⟨rfl, rfl, rfl⟩) .clear l
  rw [unblock_eq, List.foldl_cons, List.foldl_nil, cleared_linked link, step]

end Alone

/-! #### A link changed -/

/-- The link of an axis changed and reported, where it differs (R126). -/
def changedLink (s : State) (y : AxisNo) (k l : BlockLink) (t : State) : State :=
  if k = l then t else (t.setAx y (relinked k (s.ax y))).report (blockNote s .change y k)

/-- The search of an axis whose link is its own (R125, R129). -/
def searchedOwn (y : AxisNo) (l : BlockLink) (t : State) : State := if l.copy = true then t else t.searchDeadlock y

/-- The link that the answers for a gang give an axis: its own, or a copy of its partner's (R75, R125). -/
def LinkFor (own other : Option (EntryNo × AxisNo)) (timer : Nat) (l : BlockLink) : Prop :=
  (∃ n b, own = some (n, b) ∧ l = ⟨n, b, false, timer⟩) ∨
    (own = none ∧ ∃ n b, other = some (n, b) ∧ l = ⟨n, b, true, timer⟩)

theorem LinkFor.eq_linkOf {own other : Option (EntryNo × AxisNo)} {timer : Nat} {l : BlockLink} (h : LinkFor own other timer l)
    {copied : EntryNo × AxisNo} (copies : own = none → other = some copied) :
    l = linkOf own copied timer ∧ l.copy = own.isNone := by
  rcases h with ⟨n, b, rfl, rfl⟩ | ⟨rfl, n, b, e, rfl⟩
  · exact ⟨rfl, rfl⟩
  · rw [copies rfl, Option.some.injEq] at e
    subst e
    exact ⟨rfl, rfl⟩

theorem LinkFor.some {own other : Option (EntryNo × AxisNo)} {timer : Nat} {l : BlockLink} (h : LinkFor own other timer l) :
    ∃ copied, own.or other = some copied ∧ (own = none → other = some copied) ∧ (other = none → own = some copied) := by
  rcases h with ⟨n, b, rfl, -⟩ | ⟨rfl, n, b, rfl, -⟩
  · exact ⟨(n, b), rfl, by simp, fun _ => rfl⟩
  · exact ⟨(n, b), rfl, fun _ => rfl, by simp⟩

/-- The search that follows a link, by the answer it came from. -/
theorem searchedOwn_eq {o : Option (EntryNo × AxisNo)} {l : BlockLink} (h : l.copy = o.isNone) (y : AxisNo) (t : State) :
    (if o.isSome then t.searchDeadlock y else t) = searchedOwn y l t := by
  rw [searchedOwn, h]
  cases o <;> rfl

section Change

variable {s t : State} {y : AxisNo} {l k : BlockLink} {o : Option (EntryNo × AxisNo)} {copied : EntryNo × AxisNo}

theorem relinks_iff (link : (s.ax y).link = some l) (new : k = linkOf o copied l.timer) :
    relinks s copied (y, o) = true ↔ k ≠ l := by
  rw [new]
  simp [relinks, link]

theorem relink_changed (h : SameNotes s t) (own : t.ax y = s.ax y) (link : (s.ax y).link = some l)
    (new : k = linkOf o copied l.timer) :
    (if relinks s copied (y, o) then relink copied t (y, o) else t) = changedLink s y k l t ∧
    SameNotes s (changedLink s y k l t) ∧ ∀ b, b ≠ y → (changedLink s y k l t).ax b = t.ax b := by
  obtain ⟨step, notes⟩ := h.noted own (f := relinked k) (fun _ => ⟨rfl, rfl, rfl⟩) .change k
  by_cases same : k = l
  · rw [if_neg (fun c => (relinks_iff link new).mp c same), changedLink, if_pos same]
    exact ⟨rfl, h, fun _ _ => rfl⟩
  · rw [if_pos ((relinks_iff link new).mpr same), changedLink, if_neg same, relink_linked (own ▸ link)]
    refine ⟨?_, notes, fun b ne => ax_noted_ne _ _ _ ne⟩
    rw [← step, new]

theorem search_changed (link : (s.ax y).link = some l) (new : k = linkOf o copied l.timer) (copy : k.copy = o.isNone)
    (t : State) : (if relinks s copied (y, o) then if o.isSome then t.searchDeadlock y else t else t) =
      if k = l then t else searchedOwn y k t := by
  rw [searchedOwn_eq copy]
  by_cases same : k = l
  · rw [if_neg (fun c => (relinks_iff link new).mp c same), if_pos same]
  · rw [if_pos ((relinks_iff link new).mpr same), if_neg same]

end Change

theorem reevaluate_alone {s : State} {x : AxisNo} {l : BlockLink} {n : EntryNo} {b : AxisNo} (alone : s.members x = [x])
    (blocked : (s.ax x).motion = .blocked) (link : (s.ax x).link = some l) (h : asked s x = some (n, b)) :
    s.reevaluate x = (if (⟨n, b, false, l.timer⟩ : BlockLink) = l then s
      else (changedLink s x ⟨n, b, false, l.timer⟩ l s).searchDeadlock x).passSince s := by
  have new : (⟨n, b, false, l.timer⟩ : BlockLink) = linkOf (some (n, b)) (n, b) l.timer := rfl
  obtain ⟨step, -⟩ := relink_changed (SameNotes.refl s) rfl link new
  have search := search_changed link new rfl (changedLink s x ⟨n, b, false, l.timer⟩ l s)
  rw [reevaluate_blocked (copied := (n, b)) blocked (by rw [alone, askAll_alone, findSome_alone, h]), alone, askAll_alone, h,
    List.foldl_filter, List.foldl_filter]
  simp only [List.foldl_cons, List.foldl_nil]
  rw [step, search]
  by_cases same : (⟨n, b, false, l.timer⟩ : BlockLink) = l
  · rw [if_pos same, if_pos same, changedLink, if_pos same]
  · rw [if_neg same, if_neg same]
    rfl

/-! #### A gang -/

section Gang

variable {s : State} {p q : AxisNo} {lp lq kp kq : BlockLink}

theorem blockEntry_pair_clear (hp : asked s p = none) (hq : asked s q = none) : s.blockEntry [p, q] = s :=
  blockEntry_clear (by rw [askAll_pair, findSome_pair, hp, hq]; rfl)

/-- Both links and reports come before the searches (R125). -/
theorem blockEntry_pair (ne : p ≠ q) (hp : LinkFor (asked s p) (asked s q) 0 lp) (hq : LinkFor (asked s q) (asked s p) 0 lq) :
    s.blockEntry [p, q] = searchedOwn q lq (searchedOwn p lp
      ((((s.notIdle.setAx p (blockedAt lp (s.ax p))).report (blockNote s .block p lp)).setAx q
        (blockedAt lq (s.ax q))).report (blockNote s .block q lq))) := by
  obtain ⟨copied, found, second, first⟩ := hp.some
  obtain ⟨linkP, copyP⟩ := hp.eq_linkOf second
  obtain ⟨linkQ, copyQ⟩ := hq.eq_linkOf first
  obtain ⟨stepP, notes⟩ := (SameNotes.notIdle s).noted (a := p) rfl (f := blockedAt lp) (fun _ => ⟨rfl, rfl, rfl⟩) .block lp
  have own : ((s.notIdle.setAx p (blockedAt lp (s.ax p))).report (blockNote s .block p lp)).ax q = s.ax q :=
    ax_noted_ne _ _ _ ne.symm
  obtain ⟨stepQ, -⟩ := notes.noted own (f := blockedAt lq) (fun _ => ⟨rfl, rfl, rfl⟩) .block lq
  rw [blockEntry_blocked (copied := copied) (by rw [askAll_pair, findSome_pair, found]), askAll_pair]
  simp only [List.foldl_cons, List.foldl_nil]
  rw [← linkP, ← linkQ, stepP, stepQ, searchedOwn_eq copyP, searchedOwn_eq copyQ]

/-- Of a gang the lower-numbered axis reports CLEAR first (R127, log 42). -/
theorem unblock_pair (ne : p ≠ q) (linkP : (s.ax p).link = some lp) (linkQ : (s.ax q).link = some lq) :
    s.unblock [p, q] = ((((s.setAx p (freed (s.ax p))).report (blockNote s .clear p lp)).setAx q
      (freed (s.ax q))).report (blockNote s .clear q lq)).proceed [p, q] := by
  obtain ⟨stepP, notes⟩ := (SameNotes.refl s).noted (a := p) rfl (f := freed) (fun _ => ⟨rfl, rfl, rfl⟩) .clear lp
  have own : ((s.setAx p (freed (s.ax p))).report (blockNote s .clear p lp)).ax q = s.ax q := ax_noted_ne _ _ _ ne.symm
  obtain ⟨stepQ, -⟩ := notes.noted own (f := freed) (fun _ => ⟨rfl, rfl, rfl⟩) .clear lq
  rw [unblock_eq, List.foldl_cons, List.foldl_cons, List.foldl_nil, cleared_linked linkP, stepP,
    cleared_linked (own ▸ linkQ), stepQ]

/-- A gang re-evaluated: both changes and reports, then the searches of the changed links of its own (R75, R126). -/
theorem reevaluate_pair {x : AxisNo} (ne : p ≠ q) (gang : s.members x = [p, q]) (blocked : (s.ax x).motion = .blocked)
    (linkP : (s.ax p).link = some lp) (linkQ : (s.ax q).link = some lq)
    (hp : LinkFor (asked s p) (asked s q) lp.timer kp) (hq : LinkFor (asked s q) (asked s p) lq.timer kq) :
    s.reevaluate x =
      (let chased (y : AxisNo) (k l : BlockLink) (t : State) := if k = l then t else searchedOwn y k t
       chased q kq lq (chased p kp lp (changedLink s q kq lq (changedLink s p kp lp s)))).passSince s := by
  obtain ⟨copied, found, second, first⟩ := hp.some
  obtain ⟨newP, copyP⟩ := hp.eq_linkOf second
  obtain ⟨newQ, copyQ⟩ := hq.eq_linkOf first
  obtain ⟨stepP, notes, others⟩ := relink_changed (SameNotes.refl s) rfl linkP newP
  obtain ⟨stepQ, -, -⟩ := relink_changed notes (others q ne.symm) linkQ newQ
  rw [reevaluate_blocked (copied := copied) blocked (by rw [gang, askAll_pair, findSome_pair, found]), gang, askAll_pair,
    List.foldl_filter, List.foldl_filter]
  simp only [List.foldl_cons, List.foldl_nil]
  rw [stepP, stepQ, search_changed linkP newP copyP, search_changed linkQ newQ copyQ]

end Gang

/-! #### Going on -/

theorem modAll_fixed {s : State} {as : List AxisNo} {f : Axis → Axis} (h : ∀ a ∈ as, f (s.ax a) = s.ax a) :
    s.modAll as f = s := by
  induction as with
  | nil => rfl
  | cons a as ih =>
    obtain ⟨here, rest⟩ := List.forall_mem_cons.mp h
    have same : s.modAx a f = s := by rw [modAx_eq, here, setAx_self]
    exact (congrArg (fun t => State.modAll t as f) same).trans (ih rest)

theorem reevaluateCreep_unmoved {s : State} {as : List AxisNo} (h : ∀ a ∈ as, (s.ax a).move = none) :
    s.reevaluateCreep as = s := by
  have fixed := modAll_fixed (s := s) (as := as)
    (f := fun x => { x with move := x.move.map (fun m => { m with forcedCreep := true }) }) (fun a mem => by
      have none := h a mem
      generalize s.ax a = x at *
      obtain ⟨⟩ := x
      simp only at none
      rw [none]
      rfl)
  rw [reevaluateCreep_eq, fixed, ite_self]

/-- The move of an axis stands at its target (R24, R110). -/
def Stands (x : Axis) (m : MoveRec) : Prop :=
  m.endFlag = false ∧ x.homing = false ∧ ∃ n, x.pos = some n ∧ apart m.target n ≤ m.profile.tolerance

theorem standsAtTarget_iff {s : State} {as : List AxisNo} : s.standsAtTarget as = true ↔
    ∀ a ∈ as, ∃ m, (s.ax a).move = some m ∧ Stands (s.ax a) m := by
  rw [State.standsAtTarget, List.all_eq_true]
  refine forall₂_congr (fun a _ => ?_)
  cases move : (s.ax a).move with
  | none => simp
  | some m => cases pos : (s.ax a).pos <;> simp [Stands, pos, and_assoc]

theorem proceed_there {s : State} {as : List AxisNo} (h : s.standsAtTarget as = true) :
    s.proceed as = (s.finish as .done).engine := if_pos h

theorem proceed_away {s : State} {as : List AxisNo} (h : ¬ s.standsAtTarget as = true) :
    s.proceed as = (s.reevaluateCreep as).joinQueue as false := if_neg h

end Sys2Proof.Laws

/-! ### The breach of a count -/

namespace Sys2Proof.Laws

open Sys2Proof.Machine Sys2Proof.Safety

/-- The first of an ascending list that has an answer gives it. -/
theorem findSome_least {α β : Type} [LinearOrder α] {l : List α} (sorted : l.Pairwise (· < ·))
    {f : α → Option β} {n : α} {v : β}
    (mem : n ∈ l) (here : f n = some v) (below : ∀ m < n, f m = none) : l.findSome? f = some v := by
  induction l with
  | nil => exact absurd mem List.not_mem_nil
  | cons a l ih =>
    obtain ⟨least, sorted⟩ := List.pairwise_cons.mp sorted
    rcases List.mem_cons.mp mem with rfl | mem
    · rw [List.findSome?_cons, here]
    · rw [List.findSome?_cons, below a (least n mem)]
      exact ih sorted mem

theorem canBreach_iff {x : Axis} : x.canBreach = true ↔
    ((x.motion = .engaging ∨ x.motion = .driving ∨ x.motion = .stopping) ∧ x.move ≠ none ∧ x.check = none) ∨
      x.motion = .backoff := by
  cases motion : x.motion <;> simp [Axis.canBreach, Axis.testing, motion, Option.isSome_iff_ne_none]

theorem occupies_iff {lo hi guard : Nat} {pos : Option Nat} :
    occupies lo hi guard pos = true ↔ pos = none ∨ ∃ p, pos = some p ∧ lo ≤ p + guard ∧ p ≤ hi + guard := by
  cases pos <;> simp [occupies]

/-- The low end of the region of an axis. -/
def loOf (e : KeepoutEntry) (x : AxisNo) : Nat := if e.axisA = x then e.loA else e.loB

/-- The high end of the region of an axis. -/
def hiOf (e : KeepoutEntry) (x : AxisNo) : Nat := if e.axisA = x then e.hiA else e.hiB

theorem region_eq (e : KeepoutEntry) (x : AxisNo) : e.region x = (loOf e x, hiOf e x) := by
  unfold KeepoutEntry.region loOf hiOf
  split <;> rfl

/-- A count from `old` breaches the entry, whose other axis is `b` (R128). -/
def Breaches (s : State) (a : AxisNo) (old : Option Nat) (n : EntryNo) (b : AxisNo) : Prop :=
  ∃ e, s.entries[n] = some e ∧ e.enabled = true ∧
    (e.axisA = a ∧ b = e.axisB ∨ e.axisA ≠ a ∧ e.axisB = a ∧ b = e.axisA) ∧
    (∃ p q, old = some p ∧ (s.ax a).pos = some q ∧ ¬ (loOf e a ≤ p ∧ p ≤ hiOf e a) ∧ loOf e a ≤ q ∧ q ≤ hiOf e a) ∧
    ((s.ax b).pos = none ∨ ∃ r, (s.ax b).pos = some r ∧ loOf e b ≤ r ∧ r ≤ hiOf e b)

/-- The breach of one entry. -/
def breachOf (s : State) (a : AxisNo) (old : Option Nat) (n : EntryNo) : Option (EntryNo × AxisNo) :=
  match s.entries[n] with
  | none => none
  | some e =>
    if e.enabled && e.names a && old.isSome && !insideRegion (e.region a).1 (e.region a).2 old &&
        insideRegion (e.region a).1 (e.region a).2 (s.ax a).pos && s.occupied e (e.other a) 0 then some (n, e.other a)
    else none

theorem breached_eq (s : State) (a : AxisNo) (old : Option Nat) : s.breached a old = allEntries.findSome? (breachOf s a old) := rfl

theorem names_other_iff {e : KeepoutEntry} {a b : AxisNo} : (e.names a = true ∧ b = e.other a) ↔
    (e.axisA = a ∧ b = e.axisB ∨ e.axisA ≠ a ∧ e.axisB = a ∧ b = e.axisA) := by
  unfold KeepoutEntry.names KeepoutEntry.other
  by_cases h : e.axisA = a <;> simp [h]

/-- The count comes from outside the region into it. -/
theorem enters_iff {lo hi : Nat} {old pos : Option Nat} :
    (old.isSome = true ∧ insideRegion lo hi old = false ∧ insideRegion lo hi pos = true) ↔
      ∃ p q, old = some p ∧ pos = some q ∧ ¬ (lo ≤ p ∧ p ≤ hi) ∧ lo ≤ q ∧ q ≤ hi := by
  cases old <;> cases pos <;> simp [insideRegion]

theorem breachOf_eq_some {s : State} {a b : AxisNo} {old : Option Nat} {n : EntryNo} :
    breachOf s a old n = some (n, b) ↔ Breaches s a old n b := by
  unfold breachOf Breaches
  cases stored : s.entries[n] with
  | none => simp
  | some e =>
    simp only [Option.some.injEq, exists_eq_left', ← names_other_iff, ← enters_iff, Option.ite_none_right_eq_some,
      Bool.and_eq_true, Prod.mk.injEq, true_and, Bool.not_eq_true', region_eq, State.occupied, occupies_iff, Nat.add_zero]
    constructor
    · rintro ⟨⟨⟨⟨⟨⟨enabled, names⟩, known⟩, outside⟩, inside⟩, near⟩, rfl⟩
      exact ⟨enabled, ⟨names, rfl⟩, ⟨known, outside, inside⟩, near⟩
    · rintro ⟨enabled, ⟨names, rfl⟩, ⟨known, outside, inside⟩, near⟩
      exact ⟨⟨⟨⟨⟨⟨enabled, names⟩, known⟩, outside⟩, inside⟩, near⟩, rfl⟩

theorem breachOf_eq_none {s : State} {a : AxisNo} {old : Option Nat} {n : EntryNo} (h : ∀ b, ¬ Breaches s a old n b) :
    breachOf s a old n = none := by
  rw [Option.eq_none_iff_forall_not_mem]
  rintro ⟨m, b⟩ found
  have same : m = n := by
    unfold breachOf at found
    split at found
    · exact absurd found (by simp)
    · rw [Option.mem_def, Option.ite_none_right_eq_some, Option.some.injEq, Prod.mk.injEq] at found
      exact found.2.1.symm
  subst same
  exact h b (breachOf_eq_some.mp found)

theorem breach_none {s : State} {a : AxisNo} {old : Option Nat}
    (h : ¬ (s.ax a).canBreach = true ∨ ∀ n b, ¬ Breaches s a old n b) :
    s.breach a old = s := by
  unfold State.breach
  by_cases able : (s.ax a).canBreach = true
  · have none : s.breached a old = none := by
      rw [breached_eq, List.findSome?_eq_none_iff]
      exact fun n _ => breachOf_eq_none (h.resolve_left (not_not.mpr able) n)
    rw [if_pos able, none]
  · rw [if_neg able]

/-- The lowest-numbered entry breached is the one that counts (R128). -/
theorem breach_least {s : State} {a b : AxisNo} {old : Option Nat} {n : EntryNo} (able : (s.ax a).canBreach = true)
    (here : Breaches s a old n b) (below : ∀ m, m < n → ∀ c, ¬ Breaches s a old m c) :
    s.breach a old = s.raiseFault a .keepoutBreach (.partner b) (some n) none := by
  have found : s.breached a old = some (n, b) := by
    rw [breached_eq]
    exact findSome_least (by decide) (mem_allEntries n) (breachOf_eq_some.mpr here)
      (fun m lt => breachOf_eq_none (below m lt))
  rw [State.breach, if_pos able, found]

theorem related_iff {s : State} {a x : AxisNo} : s.related a x = true ↔
    x = a ∨ ∃ (n : EntryNo) (e : KeepoutEntry), s.entries[n] = some e ∧ e.enabled = true ∧ (e.axisA = a ∨ e.axisB = a) ∧
      (e.axisA = x ∨ e.axisB = x) := by
  have one (n : EntryNo) : (match s.entries[n] with
      | none => false
      | some e => e.enabled && e.names a && e.names x) = true ↔
      ∃ e, s.entries[n] = some e ∧ e.enabled = true ∧ (e.axisA = a ∨ e.axisB = a) ∧ (e.axisA = x ∨ e.axisB = x) := by
    cases s.entries[n] <;> simp [KeepoutEntry.names, and_assoc]
  rw [State.related, Bool.or_eq_true, decide_eq_true_eq, List.any_eq_true]
  refine or_congr_right ⟨fun ⟨n, _, h⟩ => ⟨n, (one n).mp h⟩, fun ⟨n, h⟩ => ⟨n, mem_allEntries n, (one n).mpr h⟩⟩

end Sys2Proof.Laws

namespace Sys2Proof.Proofs

open Sys2Proof.Machine Sys2Proof.Safety Sys2Proof.Laws

theorem exec_obstruction {s : State} (running : s.power.inReset = false) (a : AxisNo) : exec (.obstructionCurrent a) s =
    .next (State.settle (if (s.ax a).watched then s.obstruct a .current else s)) := event_runs running _

theorem exec_blockTimeout {s : State} (running : s.power.inReset = false) (a : AxisNo) :
    exec (.blockTimeout a) s = .next (s.blockExpires a).settle :=
  event_runs running (fun t => t.blockExpires a)

theorem blockExpires_own {s : State} {a : AxisNo} {l : BlockLink} (blocked : (s.ax a).motion = .blocked)
    (link : (s.ax a).link = some l) (own : l.copy = false) : s.blockExpires a =
      (s.raiseFault a .blockTimeout (.partner l.partner) (some l.entry) none).passSince s := by
  simp only [State.blockExpires, blocked, link, own, Bool.false_eq_true, if_false]

theorem blockExpires_none {s : State} {a : AxisNo}
    (h : (s.ax a).motion ≠ .blocked ∨ ∀ l, (s.ax a).link = some l → l.copy = true) : s.blockExpires a = s := by
  unfold State.blockExpires
  split
  · next l blocked link =>
    exact if_pos (h.resolve_left (not_not.mpr blocked) l link)
  · rfl

/-- A move with forced creep (R37). -/
theorem creep_of_move {x : Axis} {m : MoveRec} (h : x.move = some m) :
    ({ x with move := x.move.map (fun m => { m with forcedCreep := true }) } : Axis) =
      { x with move := some { m with forcedCreep := true } } := by
  rw [h]
  rfl

theorem reevaluateCreep_alone {s : State} {x : AxisNo} {m : MoveRec} (h : (s.ax x).move = some m) :
    s.reevaluateCreep [x] = if (s.ax x).ref = .valid then s
      else s.setAx x { s.ax x with move := some { m with forcedCreep := true } } := by
  rw [reevaluateCreep_eq, ← creep_of_move h]
  exact if_congr (by simp) rfl rfl

/-- A gang away from its target goes on with its creep re-evaluated (R37, R71). -/
theorem reevaluateCreep_pair {s : State} {p q : AxisNo} (ne : p ≠ q) {mp mq : MoveRec} (hp : (s.ax p).move = some mp)
    (hq : (s.ax q).move = some mq) : s.reevaluateCreep [p, q] =
      if (s.ax p).ref = .valid ∧ (s.ax q).ref = .valid then s
      else (s.setAx p { s.ax p with move := some { mp with forcedCreep := true } }).setAx q
        { s.ax q with move := some { mq with forcedCreep := true } } := by
  rw [reevaluateCreep_eq, ← creep_of_move hp, ← creep_of_move hq]
  refine if_congr (by simp) rfl ?_
  simp only [State.modAll, List.foldl_cons, List.foldl_nil, modAx_eq, ax_setAx_ne s _ ne.symm]

theorem stands_move {s : State} {a : AxisNo} {m : MoveRec} (h : (s.ax a).move = some m) :
    (∃ k, (s.ax a).move = some k ∧ Stands (s.ax a) k) ↔ Stands (s.ax a) m := by
  simp only [h, Option.some.injEq, exists_eq_left']

theorem standsAtTarget_unmoved {s : State} {a : AxisNo} {as : List AxisNo} (mem : a ∈ as) (h : (s.ax a).move = none) :
    ¬ s.standsAtTarget as = true := by
  rw [standsAtTarget_iff]
  intro all
  obtain ⟨m, move, -⟩ := all a mem
  rw [h] at move
  exact absurd move (by simp)

/-- A single BLOCKED axis re-evaluated (R126, R127, R130). -/
theorem reevaluate_single {s : State} {x : AxisNo} {l : BlockLink} (alone : s.partner x = none)
    (blocked : (s.ax x).motion = .blocked) (link : (s.ax x).link = some l) :
    (asked s x = none → s.reevaluate x =
      ((s.setAx x (freed (s.ax x))).report (blockNote s .clear x l)).proceed [x]) ∧
    (asked s x = some (l.entry, l.partner) → l.copy = false → s.reevaluate x = s) ∧
    (∀ n b, asked s x = some (n, b) → n ≠ l.entry ∨ b ≠ l.partner ∨ l.copy = true → s.reevaluate x =
      (((s.setAx x (relinked ⟨n, b, false, l.timer⟩ (s.ax x))).report
        (blockNote s .change x ⟨n, b, false, l.timer⟩)).searchDeadlock x).passSince s) := by
  have members := members_alone alone
  refine ⟨fun clear => ?_, fun kept own => ?_, fun n b found differs => ?_⟩
  · rw [reevaluate_clear blocked (by rw [members, askAll_alone, findSome_alone, clear]), members, unblock_alone link]
  · have same : (⟨l.entry, l.partner, false, l.timer⟩ : BlockLink) = l := by rw [← own]
    rw [reevaluate_alone members blocked link kept, if_pos same, passSince_self]
  · have new : (⟨n, b, false, l.timer⟩ : BlockLink) ≠ l := by
      intro same
      rw [← same] at differs
      simp at differs
    rw [reevaluate_alone members blocked link found, if_neg new, changedLink, if_neg new]

/-- An axis that nothing blocks any more goes on (R127). -/
theorem proceed_single {s : State} {x : AxisNo} {m : MoveRec} (move : (s.ax x).move = some m) :
    (Stands (s.ax x) m → s.proceed [x] = (s.finish [x] .done).engine) ∧
    (¬ Stands (s.ax x) m → s.proceed [x] = (if (s.ax x).ref = .valid then s else
      s.setAx x { s.ax x with move := some { m with forcedCreep := true } }).joinQueue [x] false) := by
  have there : s.standsAtTarget [x] = true ↔ Stands (s.ax x) m := by
    rw [standsAtTarget_iff, List.forall_mem_singleton, stands_move move]
  refine ⟨fun h => proceed_there (there.mpr h), fun h => ?_⟩
  rw [proceed_away (mt there.mp h), reevaluateCreep_alone move]

theorem proceed_unmoved {s : State} {as : List AxisNo} {a : AxisNo} (mem : a ∈ as) (h : ∀ b ∈ as, (s.ax b).move = none) :
    s.proceed as = s.joinQueue as false := by
  rw [proceed_away (standsAtTarget_unmoved mem (h a mem)), reevaluateCreep_unmoved h]

/-- A gang that nothing blocks any more goes on as one (R75, R127). -/
theorem proceed_gang {s : State} {p q : AxisNo} (ne : p ≠ q) {mp mq : MoveRec} (hp : (s.ax p).move = some mp)
    (hq : (s.ax q).move = some mq) :
    (Stands (s.ax p) mp ∧ Stands (s.ax q) mq → s.proceed [p, q] = (s.finish [p, q] .done).engine) ∧
    (¬ (Stands (s.ax p) mp ∧ Stands (s.ax q) mq) → s.proceed [p, q] =
      (if (s.ax p).ref = .valid ∧ (s.ax q).ref = .valid then s
        else (s.setAx p { s.ax p with move := some { mp with forcedCreep := true } }).setAx q
          { s.ax q with move := some { mq with forcedCreep := true } }).joinQueue [p, q] false) := by
  have there : s.standsAtTarget [p, q] = true ↔ Stands (s.ax p) mp ∧ Stands (s.ax q) mq := by
    rw [standsAtTarget_iff, List.forall_mem_cons, List.forall_mem_singleton, stands_move hp, stands_move hq]
  refine ⟨fun h => proceed_there (there.mpr h), fun h => ?_⟩
  rw [proceed_away (mt there.mp h), reevaluateCreep_pair ne hp hq]

/-- Settles O52: obstruction and block timeout, and what a position change does to breaches, blocks, links and searches. -/
theorem obstructionAndBlockTimeoutRaiseFaults : Obligations.ObstructionAndBlockTimeoutRaiseFaults := by
  unfold Obligations.ObstructionAndBlockTimeoutRaiseFaults
  refine ⟨fun s a running => ?_, fun s a running => ⟨fun l blocked link own => ?_, fun other => ?_⟩,
    fun s a old count => ⟨rfl, fun x => related_iff⟩, fun s a old => ?_,
    fun s x => ⟨blockEntry_alone_clear, fun n b h => blockEntry_alone h⟩,
    fun s x l blocked link own => ⟨fun reach => ?_, fun apart => ?_⟩, fun s x => ?_, fun s p q ne => ?_, fun s a => rfl⟩
  · simp only [← watched_iff, ← backoffDue_iff]
    refine ⟨fun quiet => ?_, fun z watched due => ?_, fun watched none => ?_⟩
    · rw [exec_obstruction running, if_neg quiet]
    · rw [exec_obstruction running, if_pos watched, State.obstruct, due]
    · have undue : (s.ax a).backoffDue = Option.none := Option.eq_none_iff_forall_not_mem.mpr none
      rw [exec_obstruction running, if_pos watched, State.obstruct, undue]
  · rw [exec_blockTimeout running, blockExpires_own blocked link own]
  · rw [exec_blockTimeout running, blockExpires_none other]
  · refine ⟨fun h => breach_none (h.imp_left (mt canBreach_iff.mp)), fun n b able here below =>
      breach_least (canBreach_iff.mpr able) here below⟩
  · rw [searchDeadlock_own blocked link own, if_pos (chase_iff.mpr reach)]
  · rw [searchDeadlock_own blocked link own, if_neg (mt chase_iff.mp apart)]
  · exact ⟨reevaluate_unblocked, fun l alone blocked link => reevaluate_single alone blocked link,
      fun move => proceed_unmoved (List.mem_singleton_self x) (by simpa using move), fun m move => proceed_single move⟩
  · refine ⟨blockEntry_pair_clear, fun lp lq => blockEntry_pair ne, fun x lp lq gang blocked linkP linkQ =>
      ⟨fun clearP clearQ => ?_, fun kp kq => reevaluate_pair ne gang blocked linkP linkQ⟩,
      fun mp mq hp hq => proceed_gang ne hp hq, fun hp hq => proceed_unmoved (a := p) (by simp) (by simp [hp, hq])⟩
    rw [reevaluate_clear blocked (by rw [gang, askAll_pair, findSome_pair]; exact congrArg₂ Option.or clearP clearQ), gang,
      unblock_pair ne linkP linkQ]
    rfl

end Sys2Proof.Proofs

/-! ### Walks over the axes that change each axis by itself -/

namespace Sys2Proof.Laws

open Sys2Proof.Machine Sys2Proof.Safety

section Walk

variable {f : State → AxisNo → State} {s : State} {a : AxisNo}

/-- A walk whose steps change their own axis alone leaves the axes that it does not come to. -/
theorem ax_foldl_other (other : ∀ t b c, c ≠ b → (f t b).ax c = t.ax c) (l : List AxisNo) (out : a ∉ l) (s : State) :
    (l.foldl f s).ax a = s.ax a := by
  induction l generalizing s with
  | nil => rfl
  | cons b l ih =>
    rw [List.mem_cons, not_or] at out
    rw [List.foldl_cons, ih out.2, other s b a out.1]

/-- Such a walk does to an axis what its step for that axis does, in whatever state `P` the steps before it have left. -/
theorem ax_foldl_own {P : State → Prop} {y : Axis → Axis} (keep : ∀ t b, P t → P (f t b))
    (other : ∀ t b c, c ≠ b → (f t b).ax c = t.ax c) (own : ∀ t, P t → (f t a).ax a = y (t.ax a))
    {l : List AxisNo} (nodup : l.Nodup) (mem : a ∈ l) (start : P s) : (l.foldl f s).ax a = y (s.ax a) := by
  induction l generalizing s with
  | nil => cases mem
  | cons b l ih =>
    rw [List.nodup_cons] at nodup
    rw [List.foldl_cons]
    by_cases here : a = b
    · subst here
      rw [ax_foldl_other other l nodup.1, own s start]
    · rw [ih nodup.2 ((List.mem_cons.mp mem).resolve_left here) (keep s b start), other s b a here]

end Walk

/-! ### Requests of the profile store -/

/-- A part in RESETTING answers at once too. -/
theorem exec_resets {s t : State} (h : Resets s) {c : Instr} {f : Frame} {taken : State → State}
    (e : exec c s = .next (s.offer (some f) taken)) (r : taken s.frameHeard = t) : exec c s = .next t.settle := by
  rw [e, offer_resets h, r]

theorem bankOf_eq_some {b : Byte} {k : Bank} : bankOf b = some k ↔ (b = 0 ∧ k = .a ∨ b = 1 ∧ k = .b) := by
  unfold bankOf
  by_cases zero : b = 0
  · simp [zero, eq_comm]
  · by_cases one : b = 1
    · simp [one, eq_comm]
    · simp only [zero, one, if_false, reduceCtorEq, false_and, or_self]

theorem frameHeard_store (s : State) : s.frameHeard.store = s.store := by
  rw [frameHeard_eq]

theorem profileOf_eq_some (v : ProfileArgs) (p : Profile) : profileOf v = some p ↔
    (10 ≤ v.startDuty.toNat ∧ v.startDuty.toNat ≤ 100 ∧ 20 ≤ v.cruiseDuty.toNat ∧ v.cruiseDuty.toNat ≤ 100 ∧
      v.rampUp.toNat ≤ 500 ∧ 10 ≤ v.creepDuty.toNat ∧ v.creepDuty.toNat ≤ 60 ∧ v.creepZone.toNat ≤ 500 ∧
      v.coast.toNat ≤ 30 ∧ 1 ≤ v.tolerance.toNat ∧ v.tolerance.toNat ≤ 20 ∧ 5 ≤ v.minSpeed.toNat ∧
      v.minSpeed.toNat ≤ 500 ∧ 5 ≤ v.obstruction.toNat ∧ v.obstruction.toNat ≤ 200 ∧ 50 ≤ v.blanking.toNat ∧
      v.blanking.toNat ≤ 500) ∧
    p = ⟨v.startDuty.toNat, v.cruiseDuty.toNat, v.rampUp.toNat, v.creepDuty.toNat, v.creepZone.toNat, v.coast.toNat,
      v.tolerance.toNat, v.minSpeed.toNat, v.obstruction.toNat, v.blanking.toNat⟩ := by
  unfold profileOf
  simp only [Option.bind_eq_bind, Option.bind_eq_some_iff, inRange_eq_some, Option.some.injEq]
  constructor
  · rintro ⟨_, ⟨start, rfl⟩, _, ⟨cruise, rfl⟩, _, ⟨ramp, rfl⟩, _, ⟨creep, rfl⟩, _, ⟨zone, rfl⟩, _, ⟨coast, rfl⟩,
      _, ⟨tolerance, rfl⟩, _, ⟨speed, rfl⟩, _, ⟨current, rfl⟩, _, ⟨blanking, rfl⟩, rfl⟩
    exact ⟨by omega, rfl⟩
  · rintro ⟨range, rfl⟩
    exact ⟨_, ⟨by omega, rfl⟩, _, ⟨by omega, rfl⟩, _, ⟨by omega, rfl⟩, _, ⟨by omega, rfl⟩, _, ⟨by omega, rfl⟩,
      _, ⟨by omega, rfl⟩, _, ⟨by omega, rfl⟩, _, ⟨by omega, rfl⟩, _, ⟨by omega, rfl⟩, _, ⟨by omega, rfl⟩, rfl⟩

theorem profile_setProfile_self (s : State) (k : Bank) (i : Fin 8) (p : Profile) :
    (s.setProfile k i p).profile k i = p := by
  cases k <;> simp [State.setProfile, State.profile]

theorem profile_setProfile_ne (s : State) {k l : Bank} {i j : Fin 8} (p : Profile) (h : l ≠ k ∨ j ≠ i) :
    (s.setProfile k i p).profile l j = s.profile l j := by
  cases k <;> cases l
  case a.b => rfl
  case b.a => rfl
  all_goals
    have ne : i.val ≠ j.val := fun e => h.elim (fun n => n rfl) (fun n => n (Fin.ext e).symm)
    exact Vector.getElem_set_ne i.isLt j.isLt ne

theorem protectsBank_iff (m : Motion) : m.protectsBank = true ↔
    m = .queued ∨ m = .engaging ∨ m = .driving ∨ m = .stopping ∨ m = .backoff ∨ m = .blocked := by
  cases m <;> simp [Motion.protectsBank]

/-- The active bank is in use while an axis is in one of the six states of R25 or a runner is not FREE. -/
theorem bankInUse_iff (s : State) : s.bankInUse = true ↔
    (∃ a, (s.ax a).motion = .queued ∨ (s.ax a).motion = .engaging ∨ (s.ax a).motion = .driving ∨
      (s.ax a).motion = .stopping ∨ (s.ax a).motion = .backoff ∨ (s.ax a).motion = .blocked) ∨ ∃ r, s.run r ≠ none := by
  simp only [State.bankInUse, Bool.or_eq_true, List.any_eq_true, protectsBank_iff, Option.isSome_iff_ne_none]
  exact or_congr ⟨fun ⟨a, _, h⟩ => ⟨a, h⟩, fun ⟨a, h⟩ => ⟨a, mem_allAxes a, h⟩⟩
    ⟨fun ⟨r, _, h⟩ => ⟨r, h⟩, fun ⟨r, h⟩ => ⟨r, mem_allRunners r, h⟩⟩

/-! #### Scale groups -/

/-- The configuration of an axis or of its gang partner names a scale group (R28). -/
theorem inGroup_any_iff (s : State) (g : Fin 3) (a : AxisNo) :
    (s.members a).any (fun b => s.inGroup g b) = true ↔
      ∃ b ∈ s.members a, ∃ c, (s.ax b).config = some c ∧ c.scaleGroup = g := by
  simp [State.inGroup, List.any_eq_true]

/-- Escalation clears on the axes of a group and on their gang partners, and on no other (R28, R83). -/
theorem ax_clearEscalation (s : State) (g : Fin 3) (a : AxisNo) : (s.clearEscalation g).ax a =
    if (s.members a).any (fun b => s.inGroup g b) then { s.ax a with escalated := false } else s.ax a := by
  refine ax_foldl_own (P := fun _ => True)
    (y := fun x => if (s.members a).any (fun b => s.inGroup g b) then { x with escalated := false } else x)
    (fun _ _ _ => trivial) (fun t b c ne => ?_) (fun t _ => ?_) nodup_allAxes (mem_allAxes a) trivial
  · split
    · exact ax_modAx_ne t _ ne
    · rfl
  · split
    · exact ax_modAx_self t a _
    · rfl

/-- The clearing of escalation writes the axes alone. -/
theorem clearEscalation_only (s : State) (g : Fin 3) : OnlyAxes s (s.clearEscalation g) :=
  OnlyAxes.foldl s _ _ (fun t a => by
    split
    · exact OnlyAxes.modAx t a _
    · exact OnlyAxes.refl t)

end Sys2Proof.Laws

namespace Sys2Proof.Proofs

open Sys2Proof.Machine Sys2Proof.Laws Sys2Proof.Safety

/-- Settles O26: each answer is one branch of its request. -/
theorem profilesAreReadAndSwapped : Obligations.ProfilesAreReadAndSwapped := by
  unfold Obligations.ProfilesAreReadAndSwapped
  refine ⟨fun tag bank index s => ⟨fun k i h named number => ?_, fun h out => ?_, fun h => ?_⟩,
    fun tag s => ⟨fun h => ?_, fun h => ?_⟩, fun s i => ⟨rfl, rfl⟩⟩
  · refine exec_answers h rfl ?_
    simp only [profileReadTaken, resetting_listens h, bankOf_eq_some.mpr named, finOf_eq_some.mpr number]
    rfl
  · rw [← bankOf_eq_none, ← finOf_eq_none (k := 8)] at out
    refine exec_answers h rfl ?_
    rcases out with none | none <;> simp [profileReadTaken, State.refuse, resetting_listens h, none]
  · exact exec_resets h rfl (by simp [profileReadTaken, State.refuse, resetting_resets h])
  · refine exec_answers h rfl ?_
    simp only [profileSwapTaken, resetting_listens h, frameHeard_store]
    cases s.store.active <;> rfl
  · exact exec_resets h rfl (by simp [profileSwapTaken, State.refuse, resetting_resets h])

/-- Settles O27: the ranges by the table of section 2.2, the protection by the states of R25, the clearing of escalation axis by
axis. -/
theorem profileWriteAndScaleSet : Obligations.ProfileWriteAndScaleSet := by
  unfold Obligations.ProfileWriteAndScaleSet
  refine ⟨⟨profileOf_eq_some, fun tag bank index v s k i h bank_k index_i => ?_⟩,
    fun tag group factor s g h group_g lo hi => ?_, fun s a => ⟨fun none => ?_, fun c config => ?_⟩⟩
  · have awake := resetting_listens h
    dsimp only
    rw [← bankInUse_iff]
    refine ⟨fun bad => ?_, fun p good active inUse => ?_, fun p good free =>
      ⟨?_, profile_setProfile_self _ k i p, fun l j other => profile_setProfile_ne _ p other⟩⟩
    · exact exec_answers h rfl (by simp [profileWriteTaken, State.refuse, awake, bank_k, index_i, bad])
    · exact exec_answers h rfl (by simp [profileWriteTaken, State.refuse, awake, bank_k, index_i, good, ← active, inUse])
    · refine exec_answers h rfl ?_
      have unprotected : ¬ (k = s.frameHeard.store.active ∧ s.frameHeard.bankInUse = true) :=
        fun p => free.elim (fun n => n p.1) (fun n => n p.2)
      simp only [profileWriteTaken, awake, bank_k, index_i, good, if_neg unprotected]
      rfl
  · dsimp only
    refine ⟨State.clearEscalation { s.frameHeard with
        store := { s.frameHeard.store with scales := s.frameHeard.store.scales.set g factor.toNat } } g, ?_, ?_, fun a => ?_⟩
    · refine exec_answers h rfl ?_
      simp only [scaleSetTaken, resetting_listens h, finOf_eq_some.mpr group_g, inRange_eq_some.mpr ⟨⟨lo, hi⟩, rfl⟩]
      rfl
    · exact clearEscalation_only _ g
    · rw [ax_clearEscalation, ← inGroup_any_iff]
      exact ⟨fun named => if_pos named, fun other => if_neg other⟩
  · simp only [State.scale, none]
  · simp only [State.scale, config]

end Sys2Proof.Proofs

/-! ### The effective duty (R36) -/

namespace Sys2Proof.Laws

open Sys2Proof.Machine Sys2Proof.Safety

/-! #### The steps of R36 over the rationals -/

/-- The base duty of a phase in percent (R35): linear in the ramp counts in RAMP. -/
def baseRate (p : Profile) (ph : Phase) (n : Nat) : ℚ :=
  match ph with
  | .ramp => if p.rampUp = 0 then (p.cruiseDuty : ℚ)
      else (p.startDuty : ℚ) + ((p.cruiseDuty : ℚ) - (p.startDuty : ℚ)) * (n : ℚ) / (p.rampUp : ℚ)
  | .cruise => (p.cruiseDuty : ℚ)
  | .creep | .correct => (p.creepDuty : ℚ)

theorem rampScale_pos (p : Profile) : 0 < rampScale p := Nat.lt_of_lt_of_le Nat.one_pos (le_max_right _ _)

/-- `baseDuty` is the base duty as a numerator over `rampScale`. -/
theorem baseDuty_eq {p : Profile} {ph : Phase} {n : Nat} (h : ph = .ramp → n ≤ p.rampUp) :
    (baseDuty p ph n : ℚ) = baseRate p ph n * rampScale p := by
  cases ph with
  | ramp =>
    by_cases zero : p.rampUp = 0
    · simp [baseDuty, baseRate, rampScale, zero]
    · have n_le := h rfl
      have scale : rampScale p = p.rampUp := max_eq_left (by omega)
      have nonzero : (p.rampUp : ℚ) ≠ 0 := Nat.cast_ne_zero.mpr zero
      simp only [baseDuty, baseRate, scale, if_neg zero, min_eq_left n_le]
      push_cast [Nat.cast_sub n_le]
      field_simp
      ring
  | cruise => simp [baseDuty, baseRate, rampScale]
  | creep => simp [baseDuty, baseRate, rampScale]
  | correct => simp [baseDuty, baseRate, rampScale]

/-- The reduction of a leader's duty by the skew, not below the creep duty, over a denominator. -/
theorem led_over (v skew creep : Nat) {den : Nat} (pos : 0 < den) :
    ((if v ≤ creep * den then v else max (v - skew * den) (creep * den) : Nat) : ℚ) / den =
      if (v : ℚ) / den ≤ creep then (v : ℚ) / den else max ((v : ℚ) / den - skew) creep := by
  have den_pos : (0 : ℚ) < den := Nat.cast_pos.mpr pos
  have same : (v : ℚ) / den ≤ creep ↔ v ≤ creep * den := by
    rw [div_le_iff₀ den_pos]
    exact_mod_cast Iff.rfl
  by_cases low : v ≤ creep * den
  · rw [if_pos low, if_pos (same.mpr low)]
  · rw [if_neg low, if_neg (mt same.mp low)]
    have whole (k : Nat) : ((k * den : Nat) : ℚ) / den = k := by
      rw [Nat.cast_mul, mul_div_cancel_right₀ _ den_pos.ne']
    rcases le_total (skew * den) v with room | small
    · rw [Nat.cast_max, ← max_div_div_right den_pos.le, Nat.cast_sub room, sub_div, whole, whole]
    · have gone : v - skew * den = 0 := Nat.sub_eq_zero_of_le small
      have below : (v : ℚ) / den - skew ≤ creep := by
        have : (v : ℚ) / den ≤ skew := by
          rw [div_le_iff₀ den_pos]
          exact_mod_cast small
        linarith [(Nat.cast_nonneg creep : (0 : ℚ) ≤ creep)]
      rw [gone, Nat.zero_max, whole, max_eq_right below]

/-- The effective duty is the whole percents of the duty that R36 computes step by step, and at least 1 %. -/
theorem effectiveDuty_eq {p : Profile} {ph : Phase} {n : Nat} (scale skew : Nat) (escalated forced : Bool)
    (h : ph = .ramp → n ≤ p.rampUp) :
    let scaled : ℚ := baseRate p ph n * (if escalated = true ∧ forced = false then 100 else (scale : ℚ)) / 100
    let limited : ℚ := if forced = true then min scaled ((p.creepDuty : ℚ) * (scale : ℚ) / 100) else scaled
    let led : ℚ := if limited ≤ (p.creepDuty : ℚ) then limited else max (limited - (skew : ℚ)) (p.creepDuty : ℚ)
    effectiveDuty p ph n scale escalated forced skew = max 1 (Nat.floor led) := by
  intro scaled limited led
  let factor := if escalated && !forced then 100 else scale
  let v := baseDuty p ph n * factor
  let w := if forced then min v (p.creepDuty * rampScale p * scale) else v
  have scale_pos := rampScale_pos p
  have rate_ne : (rampScale p : ℚ) ≠ 0 := Nat.cast_ne_zero.mpr scale_pos.ne'
  have den_pos : 0 < rampScale p * 100 := Nat.mul_pos scale_pos (by decide)
  have by_factor : (v : ℚ) / (rampScale p * 100 : Nat) = scaled := by
    have cast : (factor : ℚ) = if escalated = true ∧ forced = false then 100 else (scale : ℚ) := by
      cases escalated <;> cases forced <;> simp [factor]
    simp only [v, scaled, ← cast]
    push_cast [baseDuty_eq h]
    field_simp
  have by_creep : (w : ℚ) / (rampScale p * 100 : Nat) = limited := by
    cases forced with
    | false => exact by_factor
    | true =>
      simp only [w, limited, if_true]
      rw [Nat.cast_min, ← min_div_div_right (Nat.cast_nonneg _), by_factor]
      congr 1
      push_cast
      field_simp
  have by_skew := led_over w skew p.creepDuty den_pos
  rw [by_creep] at by_skew
  change max 1 (_ / (rampScale p * 100)) = _
  rw [← Nat.floor_div_eq_div (K := ℚ)]
  exact congrArg (fun q => max 1 (Nat.floor q)) by_skew

/-! #### The skew of a leader (R73) -/

/-- An axis drives in RAMP, CRUISE or CREEP. -/
def Steady (z : Axis) : Prop := z.motion = .driving ∧ z.phase ≠ some .correct

/-- An axis is in the REVERSE step of a backoff. -/
def Turning (z : Axis) : Prop := z.motion = .backoff ∧ ∃ k, z.backoff = some k ∧ k.step = .reverse

/-- Both axes of a gang move in one direction, in no HOME and no CHECK: the gang may have a leader. -/
def Together (x y : Axis) : Prop :=
  x.homing = false ∧ x.check = none ∧ x.driveDir = y.driveDir ∧ ((Steady x ∧ Steady y) ∨ (Turning x ∧ Turning y))

section Lead

variable {s : State} {a b : AxisNo}

theorem leadSkew_alone (alone : s.partner a = none) : s.leadSkew a = 0 := by
  simp only [State.leadSkew, alone]

/-- What holds the reduction back (R73), as the model decides it. -/
theorem leadSkew_gang (gang : s.partner a = some b) : ∃ none : Bool,
    (none = false ↔ Together (s.ax a) (s.ax b)) ∧
    s.leadSkew a = if none then 0 else
      match (s.ax a).pos, (s.ax b).pos with
      | some p, some q => (match (s.ax a).driveDir with
        | .high => if q < p then p - q else 0
        | .low => if p < q then q - p else 0)
      | _, _ => 0 := by
  unfold State.leadSkew
  rw [gang]
  refine ⟨_, ?_, rfl⟩
  cases hx : (s.ax a).backoff <;> cases hy : (s.ax b).backoff <;>
    simp [Together, Steady, Turning, Axis.testing, hx, hy, and_assoc]
  tauto

theorem leadSkew_apart (gang : s.partner a = some b) (h : ¬ Together (s.ax a) (s.ax b)) : s.leadSkew a = 0 := by
  obtain ⟨none, iff, eq⟩ := leadSkew_gang gang
  rw [eq, if_pos (Bool.of_not_eq_false (mt iff.mp h))]

theorem leadSkew_unplaced (gang : s.partner a = some b) (h : (s.ax a).pos = none ∨ (s.ax b).pos = none) :
    s.leadSkew a = 0 := by
  obtain ⟨none, -, eq⟩ := leadSkew_gang gang
  rw [eq]
  rcases h with h | h
  · rw [h, ite_self]
  · rw [h]
    cases (s.ax a).pos <;> exact ite_self 0

theorem leadSkew_placed (gang : s.partner a = some b) (h : Together (s.ax a) (s.ax b)) {p q : Nat}
    (hp : (s.ax a).pos = some p) (hq : (s.ax b).pos = some q) :
    s.leadSkew a = match (s.ax a).driveDir with
      | .high => p - q
      | .low => q - p := by
  obtain ⟨none, iff, eq⟩ := leadSkew_gang gang
  rw [eq, iff.mpr h, hp, hq]
  cases (s.ax a).driveDir
  · change (if p < q then q - p else 0) = q - p
    split <;> omega
  · change (if q < p then p - q else 0) = p - q
    split <;> omega

end Lead

/-! #### The duty at the output, by the motion state -/

section Duty

variable {s : State} {a : AxisNo}

theorem scale_config {c : AxisConfig} (config : (s.ax a).config = some c) : s.scale a = s.store.scales[c.scaleGroup] := by
  simp only [State.scale, config]

theorem driveDuty_eq {m : MoveRec} {c : AxisConfig} (move : (s.ax a).move = some m) (config : (s.ax a).config = some c) :
    s.driveDuty a = effectiveDuty m.profile ((s.ax a).phase.getD .creep) (s.ax a).rampCounts
      s.store.scales[c.scaleGroup] (s.ax a).escalated m.forcedCreep (s.leadSkew a) := by
  simp only [State.driveDuty, move, scale_config config]

theorem dutyNow_driving (h : (s.ax a).motion = .driving) : s.dutyNow a = s.driveDuty a := by
  simp only [State.dutyNow, h]

theorem dutyNow_reverse {k : Backoff} (h : (s.ax a).motion = .backoff) (backoff : (s.ax a).backoff = some k)
    (reverse : k.step = .reverse) : s.dutyNow a = s.driveDuty a := by
  simp only [State.dutyNow, h, backoff, reverse, if_true]

theorem dutyNow_backoff (h : (s.ax a).motion = .backoff) (rest : ∀ k, (s.ax a).backoff = some k → k.step ≠ .reverse) :
    s.dutyNow a = 0 := by
  simp only [State.dutyNow, h]
  split
  · next k backoff => exact if_neg (rest k backoff)
  · rfl

theorem dutyNow_pulse {k : CheckRec} {d : Dir} (h : (s.ax a).motion = .checking) (check : (s.ax a).check = some k)
    (pulse : k.pulse = some d) : s.dutyNow a = 25 := by
  simp [State.dutyNow, h, check, pulse, Config.checkDuty]

theorem dutyNow_unpulsed (h : (s.ax a).motion = .checking) (rest : ∀ k, (s.ax a).check = some k → k.pulse = none) :
    s.dutyNow a = 0 := by
  have none : (s.ax a).check.bind CheckRec.pulse = none :=
    Option.bind_eq_none_iff.mpr rest
  simp [State.dutyNow, h, none]

theorem dutyNow_stopping {st : Stop} (h : (s.ax a).motion = .stopping) (stop : (s.ax a).stop = some st) :
    s.dutyNow a = if st.ramping = true then st.rampFrom * (10 - st.rampTicks) / 10 else 0 := by
  simp only [State.dutyNow, h, stop, rampDuty]

theorem dutyNow_unstopped (h : (s.ax a).motion = .stopping) (stop : (s.ax a).stop = none) : s.dutyNow a = 0 := by
  simp only [State.dutyNow, h, stop]

theorem dutyNow_still (h : (s.ax a).motion = .idle ∨ (s.ax a).motion = .queued ∨ (s.ax a).motion = .engaging ∨
    (s.ax a).motion = .blocked ∨ (s.ax a).motion = .fault) : s.dutyNow a = 0 := by
  rcases h with h | h | h | h | h <;> simp only [State.dutyNow, h]

end Duty

/-! #### What the duty does not depend on -/

/-- Two axes agree on everything that the drive of an axis or of its gang partner looks at. -/
structure SameDrive (x y : Axis) : Prop where
  config : y.config = x.config
  motion : y.motion = x.motion
  phase : y.phase = x.phase
  pos : y.pos = x.pos
  owner : y.owner = x.owner
  move : y.move = x.move
  driveDir : y.driveDir = x.driveDir
  rampCounts : y.rampCounts = x.rampCounts
  backoff : y.backoff = x.backoff
  check : y.check = x.check
  escalated : y.escalated = x.escalated

theorem SameAxis.sameDrive {x y : Axis} (h : SameAxis x y) : SameDrive x y := by
  rw [h]
  exact ⟨rfl, rfl, rfl, rfl, rfl, rfl, rfl, rfl, rfl, rfl, rfl⟩

theorem SameAxis.stop {x y : Axis} (h : SameAxis x y) : y.stop = x.stop := by rw [h]

section Congr

variable {s t : State} (same : ∀ b, SameDrive (s.ax b) (t.ax b))
include same

theorem leadSkew_congr (a : AxisNo) : t.leadSkew a = s.leadSkew a := by
  have homing (b : AxisNo) : (t.ax b).homing = (s.ax b).homing := by simp only [Axis.homing, (same b).owner]
  simp only [State.leadSkew, partner_congr (fun b => (same b).config), homing, Axis.testing, (same _).check,
    (same _).driveDir, (same _).motion, (same _).phase, (same _).backoff, (same _).pos]
  rfl

theorem driveDuty_congr (store : t.store = s.store) (a : AxisNo) : t.driveDuty a = s.driveDuty a := by
  simp only [State.driveDuty, State.scale, leadSkew_congr same, (same a).move, (same a).phase, (same a).rampCounts,
    (same a).config, (same a).escalated, store]

theorem dutyNow_congr (store : t.store = s.store) {a : AxisNo} (stop : (t.ax a).stop = (s.ax a).stop) :
    t.dutyNow a = s.dutyNow a := by
  simp only [State.dutyNow, (same a).motion, (same a).backoff, (same a).check, stop, driveDuty_congr same store]

end Congr

/-! #### The duties of the present interval -/

/-- The least and greatest duty of the interval take up the duty applied now (R47). -/
theorem ax_sampleDuty (s : State) (a : AxisNo) : s.sampleDuty.ax a =
    { s.ax a with dutyLo := min (s.ax a).dutyLo (s.dutyNow a), dutyHi := max (s.ax a).dutyHi (s.dutyNow a) } := by
  let sample (d : Nat) (x : Axis) : Axis := { x with dutyLo := min x.dutyLo d, dutyHi := max x.dutyHi d }
  refine ax_foldl_own (f := fun t b => t.modAx b (sample (t.dutyNow b))) (y := sample (s.dutyNow a))
    (P := fun t => (∀ b, SameAxis (s.ax b) (t.ax b)) ∧ t.store = s.store)
    (fun t b h => ⟨fun c => ?_, h.2⟩) (fun t b c ne => ax_modAx_ne t _ ne) (fun t h => ?_) nodup_allAxes (mem_allAxes a)
    ⟨fun b => SameAxis.refl _, rfl⟩
  · refine SameAxis.trans (h.1 c) ?_
    rw [ax_modAx]
    split
    · next e => exact e ▸ rfl
    · rfl
  · obtain ⟨axes, store⟩ := h
    rw [ax_modAx_self, dutyNow_congr (fun b => SameAxis.sameDrive (axes b)) store (SameAxis.stop (axes a))]

end Sys2Proof.Laws

namespace Sys2Proof.Proofs

open Sys2Proof.Machine Sys2Proof.Laws Sys2Proof.Safety

/-- Settles O50: the model's numerators over the common denominator of R36 are the rationals of its steps, and the duty at the
output is that of the motion state. -/
theorem effectiveDutyFollowsItsSteps : Obligations.EffectiveDutyFollowsItsSteps := by
  unfold Obligations.EffectiveDutyFollowsItsSteps
  refine ⟨fun p ph n scale skew escalated forced ramp => ?_, fun s a m c ph move config => ⟨fun driving phase => ?_,
    fun k backoff phase step reverse => ?_⟩, fun s a dest => ⟨?_, ?_, ?_⟩, fun s a => ⟨leadSkew_alone,
      fun b gang => ⟨leadSkew_apart gang, fun _ => leadSkew_unplaced gang,
        fun p q together hp hq => leadSkew_placed gang together hp hq⟩⟩⟩
  · have steps := effectiveDuty_eq scale skew escalated forced ramp
    cases ph <;> exact steps
  · rw [dutyNow_driving driving, driveDuty_eq move config, phase]
    rfl
  · rw [dutyNow_reverse backoff step reverse, driveDuty_eq move config, phase]
    rfl
  · rw [startStop_eq, ax_setAx_self]
    rfl
  · rw [ax_sampleDuty]
  · rw [ax_sampleDuty]

end Sys2Proof.Proofs

/-! ### The clocks of the settling -/

namespace Sys2Proof.Laws

open Sys2Proof.Machine Sys2Proof.Safety

/-! #### The transmitter (R181) -/

section Transmit

variable {s : State}

theorem startTx_reply {r : Reply} (slot : s.link.slot = some r) (idle : s.link.tx = none) (runs : s.power.state.runs = true) :
    s.startTx = { s with link := { s.link with slot := none, tx := some ⟨r.frame.bytes, s.power.sleepOpts.isSome⟩ } } := by
  simp only [State.startTx, slot, idle, runs]
  rfl

theorem startTx_report {r : Report} {rs : List Report} (slot : s.link.slot = none) (reports : s.link.reports = r :: rs)
    (idle : s.link.tx = none) (runs : s.power.state.runs = true) :
    s.startTx = { s with link := { s.link with reports := rs, tx := some ⟨r.frame.bytes, false⟩ } } := by
  simp only [State.startTx, slot, reports, idle, runs]
  rfl

theorem startTx_busy {f : TxFrame} (busy : s.link.tx = some f) : s.startTx = s := by
  simp only [State.startTx, busy]
  rfl

theorem startTx_silent (h : s.power.state.runs = false ∨ (s.link.slot = none ∧ s.link.reports = [])) : s.startTx = s := by
  rcases h with off | ⟨slot, reports⟩
  · simp only [State.startTx, off, Bool.and_false]
    rfl
  · simp only [State.startTx, slot, reports, ite_self]

end Transmit

/-! #### The state before the transmitter -/

/-- The timers and the duties without the transmitter. -/
def timed (s : State) : State := s.updateIdle.updateSupervision.updateCadence.sampleDuty.clearSkew

theorem clocks_eq (s : State) : s.clocks = (timed s).startTx := rfl

theorem timed_link (s : State) : (timed s).link = s.updateIdle.updateSupervision.updateCadence.link := by
  rw [timed, clearSkew_link, sampleDuty_link]

theorem updateSupervision_link (s : State) : s.updateSupervision.link =
    { s.link with supervision := if s.supervisionDue then
        (if s.link.supervision = .off then .watching 0 s.link.setup.window else s.link.supervision) else .off } := by
  unfold State.updateSupervision
  split
  · split <;> rfl
  · rfl

theorem timed_slot (s : State) : (timed s).link.slot = s.link.slot := by
  rw [timed_link]
  exact (congrArg Link.slot (updateSupervision_link _)).trans (show s.updateIdle.link.slot = _ by rw [updateIdle_link])

theorem timed_tx (s : State) : (timed s).link.tx = s.link.tx := by
  rw [timed_link]
  exact (congrArg Link.tx (updateSupervision_link _)).trans (show s.updateIdle.link.tx = _ by rw [updateIdle_link])

theorem timed_reports (s : State) : (timed s).link.reports = s.link.reports := by
  rw [timed_link]
  exact (congrArg Link.reports (updateSupervision_link _)).trans (show s.updateIdle.link.reports = _ by rw [updateIdle_link])

theorem timed_power (s : State) : (timed s).power = s.updateIdle.power := by
  rw [timed, clearSkew_power, sampleDuty_power]
  exact updateSupervision_power _

theorem updateIdle_kept_power (s : State) : s.updateIdle.power.sleepOpts = s.power.sleepOpts :=
  (updateIdle_kept s).sleepOpts

/-! #### Idleness (R195, R196) -/

section Idle

variable {s : State}

theorem updateIdle_active (h : s.power.state = .active) :
    s.updateIdle.power = { s.power with dwell := if s.idle then some (s.power.dwell.getD 0) else none } := by
  simp only [State.updateIdle, h]
  split <;> rfl

theorem updateIdle_doze (h : s.power.state = .doze) :
    s.updateIdle.power = if s.idle then s.power else { s.power with state := .active, dwell := none } := by
  simp only [State.updateIdle, h]
  split
  · rfl
  · simp only [State.notIdle, h, if_true]

theorem updateIdle_off (h : s.power.state = .init ∨ s.power.state = .sleep ∨ s.power.state = .resetting) :
    s.updateIdle.power = { s.power with dwell := none } := by
  rcases h with h | h | h <;> simp only [State.updateIdle, h]

/-- Idleness moves the power state from DOZE to ACTIVE alone. -/
theorem updateIdle_state (s : State) : s.updateIdle.power.state = s.power.state ∨
    (s.power.state = .doze ∧ s.updateIdle.power.state = .active) := by
  have clocks := clocks_state s
  rwa [clocks_power] at clocks

theorem updateIdle_runs (s : State) : s.updateIdle.power.state.runs = s.power.state.runs := by
  rcases updateIdle_state s with same | ⟨doze, active⟩
  · rw [same]
  · rw [doze, active]
    rfl

theorem updateIdle_awake (s : State) : Awake s.updateIdle ↔ Awake s := by
  unfold Awake
  rcases updateIdle_state s with same | ⟨doze, active⟩
  · rw [same]
  · simp [doze, active]

end Idle

/-! #### Supervision (R185) and the cadence (R184) -/

theorem resting_iff (m : Motion) : m.resting = true ↔ m = .idle ∨ m = .fault := by
  cases m <;> simp [Motion.resting]

theorem listed_iff (m : Motion) : m.listed = true ↔ m = .driving ∨ m = .stopping ∨ m = .backoff := by
  cases m <;> simp [Motion.listed]

/-- Supervision is due while the part is awake and some runner or axis is at work (R185). -/
def AtWork (s : State) : Prop :=
  Awake s ∧ ((∃ r run, s.run r = some run ∧ (run.state = .running ∨ run.state = .pausing)) ∨
    ∃ a, (s.ax a).motion ≠ .idle ∧ (s.ax a).motion ≠ .fault)

theorem supervisionDue_iff (s : State) : s.supervisionDue = true ↔ AtWork s := by
  have axis : (allAxes.any fun a => !(s.ax a).motion.resting) = true ↔
      ∃ a, (s.ax a).motion ≠ .idle ∧ (s.ax a).motion ≠ .fault := by
    simp [List.any_eq_true, mem_allAxes, ← Bool.not_eq_true, resting_iff]
  unfold State.supervisionDue AtWork Awake
  rw [Bool.and_eq_true, Bool.or_eq_true, Bool.or_eq_true, axis, decide_eq_true_eq, decide_eq_true_eq, List.any_eq_true]
  refine and_congr Iff.rfl (or_congr ⟨fun ⟨r, _, h⟩ => ⟨r, ?_⟩, fun ⟨r, run, h, k⟩ => ⟨r, mem_allRunners r, ?_⟩⟩ Iff.rfl)
  · cases e : s.run r with
    | none => simp [e] at h
    | some run => exact ⟨run, rfl, by simpa [e] using h⟩
  · simpa [h] using k

theorem someListed_iff (s : State) : s.someListed = true ↔
    ∃ a, (s.ax a).motion = .driving ∨ (s.ax a).motion = .stopping ∨ (s.ax a).motion = .backoff := by
  simp [State.someListed, List.any_eq_true, mem_allAxes, listed_iff]

theorem updateIdle_runners (s : State) : s.updateIdle.runners = s.runners := (updateIdle_kept s).runners

theorem updateIdle_atWork (s : State) : AtWork s.updateIdle ↔ AtWork s := by
  unfold AtWork
  rw [updateIdle_awake]
  simp only [ax_congr (updateIdle_axes s), run_congr (updateIdle_runners s)]

open Classical in
theorem clocks_supervision (s : State) : s.clocks.link.supervision = if AtWork s then
    (if s.link.supervision = .off then .watching 0 s.link.setup.window else s.link.supervision) else .off := by
  have tx (t : State) : t.startTx.link.supervision = t.link.supervision := by
    unfold State.startTx
    repeat' split
    all_goals rfl
  rw [clocks_eq, tx, timed_link]
  change s.updateIdle.updateSupervision.link.supervision = _
  rw [updateSupervision_link, updateIdle_link]
  exact if_congr ((supervisionDue_iff _).trans (updateIdle_atWork s)) rfl rfl

theorem clocks_cadence (s : State) : s.clocks.link.cadence =
    if s.someListed && decide (s.link.setup.cadence ≠ 0) then some (s.link.cadence.getD 0) else none := by
  have tx (t : State) : t.startTx.link.cadence = t.link.cadence := by
    unfold State.startTx
    repeat' split
    all_goals rfl
  have link := updateSupervision_link s.updateIdle
  rw [updateIdle_link] at link
  rw [clocks_eq, tx, timed_link]
  unfold State.updateCadence State.someListed
  simp only [ax_congr ((updateSupervision_axes _).trans (updateIdle_axes s)), link]

/-! #### The marks of the axes -/

/-- The gang of an axis is in motion: some axis of it moves, in no HOME and no CHECK (R74). -/
def gangMoves (s : State) (a : AxisNo) : Bool := (s.members a).any (fun b => (s.ax b).inGangMotion)

theorem inGangMotion_congr {x y : Axis} (h : SameAxis x y) : y.inGangMotion = x.inGangMotion := by rw [h]; rfl

theorem gangMoves_congr {s t : State} (h : ∀ b, SameAxis (s.ax b) (t.ax b)) (a : AxisNo) : gangMoves t a = gangMoves s a := by
  simp only [gangMoves, members_congr (fun b => (SameAxis.sameDrive (h b)).config), inGangMotion_congr (h _)]

/-- The motion of a gang over, its axes lose the skew mark (R74). -/
theorem ax_clearSkew (s : State) (a : AxisNo) : s.clearSkew.ax a =
    if gangMoves s a then s.ax a else { s.ax a with skewRaised := false } := by
  refine ax_foldl_own (f := fun t b => if gangMoves t b then t else t.modAx b (fun x => { x with skewRaised := false }))
    (y := fun x => if gangMoves s a then x else { x with skewRaised := false })
    (P := fun t => ∀ b, SameAxis (s.ax b) (t.ax b)) (fun t b h c => SameAxis.trans (h c) ?_) (fun t b c ne => ?_)
    (fun t h => ?_) nodup_allAxes (mem_allAxes a) (fun b => SameAxis.refl _)
  · split
    · rfl
    · rw [ax_modAx]
      split
      · next e => exact e ▸ rfl
      · rfl
  · split
    · rfl
    · exact ax_modAx_ne t _ ne
  · rw [gangMoves_congr h]
    split
    · rfl
    · exact ax_modAx_self t a _

theorem inGangMotion_iff (x : Axis) : x.inGangMotion = true ↔ x.homing = false ∧ x.check = none ∧
    (x.motion = .engaging ∨ x.motion = .driving ∨ x.motion = .stopping ∨ x.motion = .backoff) := by
  cases h : x.motion <;> simp [Axis.inGangMotion, Axis.testing, h]

/-- What the clocks leave of an axis: the duty applied now is taken up, and the skew mark stays while its gang moves. -/
theorem ax_clocks (s : State) (a : AxisNo) : s.clocks.ax a =
    { s.ax a with
      dutyLo := min (s.ax a).dutyLo (s.dutyNow a), dutyHi := max (s.ax a).dutyHi (s.dutyNow a)
      skewRaised := gangMoves s a && (s.ax a).skewRaised } := by
  have axes : s.updateIdle.updateSupervision.updateCadence.axes = s.axes :=
    (updateSupervision_axes _).trans (updateIdle_axes s)
  have store : s.updateIdle.updateSupervision.updateCadence.store = s.store :=
    (updateSupervision_kept _).store.trans (updateIdle_kept s).store
  have same (b : AxisNo) : SameAxis (s.ax b) (s.updateIdle.updateSupervision.updateCadence.ax b) := by
    rw [ax_congr axes]
    exact SameAxis.refl _
  have duty : s.updateIdle.updateSupervision.updateCadence.dutyNow a = s.dutyNow a :=
    dutyNow_congr (fun b => SameAxis.sameDrive (same b)) store (SameAxis.stop (same a))
  rw [clocks_eq, ax_congr (startTx_axes _), timed, ax_clearSkew,
    gangMoves_congr (fun b => SameAxis.trans (same b) (sampleDuty_same _ b)), ax_sampleDuty, ax_congr axes, duty]
  cases gangMoves s a <;> rfl

end Sys2Proof.Laws

namespace Sys2Proof.Proofs

open Sys2Proof.Machine Sys2Proof.Laws Sys2Proof.Safety

/-- Settles O4: the clocks field by field, each timer by the condition that starts and stops it. -/
theorem calmSettleIsTheClocks : Obligations.CalmSettleIsTheClocks := by
  unfold Obligations.CalmSettleIsTheClocks
  refine ⟨fun s => settle_calm, fun s => ⟨clocks_ax s, ?_⟩, fun s => ?idle, fun s => ?timers,
    fun s => ⟨settle_held, fun running => ?_, rfl, rfl⟩, fun s a => ?axis, fun s idle silent => ?_⟩
  · refine ⟨by simp, by simp, by simp, by simp, by simp, by simp, by simp, by simp, by simp, by simp, by simp, by simp,
      by simp, by simp, by simp, by simp, fun r slot idle runs => ?_, fun r rs slot reports idle runs => ?_, fun f busy => ?_⟩
    · rw [clocks_eq, startTx_reply ((timed_slot s).trans slot) ((timed_tx s).trans idle)
        (by rw [timed_power, updateIdle_runs, runs])]
      dsimp only
      exact ⟨by rw [timed_power, updateIdle_kept_power], rfl, timed_reports s⟩
    · rw [clocks_eq, startTx_report ((timed_slot s).trans slot) ((timed_reports s).trans reports) ((timed_tx s).trans idle)
        (by rw [timed_power, updateIdle_runs, runs])]
      exact ⟨rfl, rfl⟩
    · rw [clocks_eq, startTx_busy ((timed_tx s).trans busy)]
      exact ⟨(timed_tx s).trans busy, timed_slot s, timed_reports s⟩
  case idle =>
    dsimp only
    rw [clocks_power]
    refine ⟨fun h i => ?_, fun h i => ?_, fun h i => ?_, fun h i => ?_, updateIdle_off⟩
    · rw [updateIdle_active h, if_pos i]
    · rw [updateIdle_active h, if_neg (Bool.not_eq_true _ ▸ i)]
    · rw [updateIdle_doze h, if_pos i]
    · rw [updateIdle_doze h, if_neg (Bool.not_eq_true _ ▸ i)]
  case timers =>
    intro due listed
    have at_work : due ↔ AtWork s := Iff.rfl
    have some_listed : s.someListed = true ↔ listed := someListed_iff s
    rw [clocks_supervision, clocks_cadence, at_work]
    refine ⟨fun h off => ?_, fun h on => ?_, fun h => if_neg h, fun h on => ?_, fun h => ?_⟩
    · rw [if_pos h, if_pos off]
    · rw [if_pos h, if_neg on]
    · rw [some_listed.mpr h, decide_eq_true on]
      rfl
    · refine if_neg fun k => ?_
      rw [Bool.and_eq_true, some_listed, decide_eq_true_eq] at k
      exact h.elim (fun n => n k.1) k.2
  · exact if_neg (running ▸ Bool.false_ne_true)
  case axis =>
    dsimp only
    simp only [← inGangMotion_iff]
    rw [ax_clocks]
    refine ⟨rfl, rfl, fun moves => ?_, fun still => ?_⟩
    · have moving : gangMoves s a = true := List.any_eq_true.mpr moves
      simp only [moving, Bool.true_and]
    · have out : gangMoves s a = false := List.any_eq_false.mpr still
      simp only [out, Bool.false_and]
  · have silent' : (timed s).power.state.runs = false ∨ ((timed s).link.slot = none ∧ (timed s).link.reports = []) := by
      rwa [timed_power, updateIdle_runs, timed_slot, timed_reports]
    rw [clocks_eq, startTx_silent silent']
    exact ⟨(timed_tx s).trans idle, timed_slot s, timed_reports s⟩

end Sys2Proof.Proofs

/-! ### Stops leave the move of an axis that drives on -/

namespace Sys2Proof.Safety

open Sys2Proof.Machine Sys2Proof.Laws

/-- An axis that drives drove before, with the same move record from the same position. -/
def Braked (x y : Axis) : Prop := y.motion = .driving → x.motion = .driving ∧ y.move = x.move ∧ y.pos = x.pos

theorem Braked.refl (x : Axis) : Braked x x := fun h => ⟨h, rfl, rfl⟩

theorem Braked.trans {x y z : Axis} (h : Braked x y) (k : Braked y z) : Braked x z := fun drives => by
  obtain ⟨driving, move, pos⟩ := k drives
  obtain ⟨driving', move', pos'⟩ := h driving
  exact ⟨driving', move.trans move', pos.trans pos'⟩

theorem Braked.into {x y : Axis} (h : y.motion ≠ .driving) : Braked x y := fun k => absurd k h

/-- No axis is set in motion, and one that still drives has its move as it was. -/
def Braking (s t : State) : Prop := ∀ a, Braked (s.ax a) (t.ax a)

section

variable {s t u : State}

theorem Braking.refl (s : State) : Braking s s := fun _ => .refl _

theorem Braking.of_axes (h : Braking s t) (e : u.axes = t.axes) : Braking s u := fun a => by
  rw [ax_congr e]
  exact h a

theorem Braking.ite {p : Prop} [Decidable p] (h : Braking s t) (k : Braking s u) : Braking s (if p then t else u) := by
  split
  · exact h
  · exact k

theorem Braking.modAx (h : Braking s t) (a : AxisNo) (f : Axis → Axis) (hf : Braked (t.ax a) (f (t.ax a))) :
    Braking s (t.modAx a f) := fun b => by
  rw [ax_modAx]
  split
  · next e => exact e ▸ (h a).trans hf
  · exact h b

theorem Braking.foldl {α : Type} (h : Braking s t) (l : List α) (f : State → α → State)
    (hf : ∀ v a, Braking s v → Braking s (f v a)) : Braking s (l.foldl f t) := by
  induction l generalizing t with
  | nil => exact h
  | cons a l ih => exact ih (hf t a h)

theorem Braking.report (h : Braking s t) (r : Report) : Braking s (t.report r) := h.of_axes (report_axes t r)

theorem Braking.setRun (h : Braking s t) (r : RunnerNo) (run : Option Run) : Braking s (t.setRun r run) :=
  h.of_axes (setRun_axes t r run)

theorem Braking.startStopFrom (h : Braking s t) (n : Nat) (a : AxisNo) (d : Dest) (m : StopMode) :
    Braking s (t.startStopFrom n a d m) := h.modAx a _ (.into (by simp))

theorem Braking.stopAxisFrom (h : Braking s t) (n : Nat) (a : AxisNo) (r : StopReq) : Braking s (t.stopAxisFrom n a r) := by
  have queue : Braking s (t.leaveQueue a) := h.of_axes rfl
  unfold State.stopAxisFrom
  dsimp only
  split
  · exact h.startStopFrom _ _ _ _
  · exact h.modAx a _ (fun k => ⟨k, rfl, rfl⟩)
  · exact .ite (h.modAx a _ (fun k => ⟨k, rfl, rfl⟩)) (h.modAx a _ (fun k => ⟨k, rfl, rfl⟩))
  · split
    · exact h
    · exact queue.modAx a _ (.into (by simp [Axis.toIdle]))
    · exact queue.modAx a _ (.into (by simp [Axis.toIdle]))
    · exact queue.modAx a _ (.into (by simp))
  · split
    · exact h.modAx a _ (.into (by simp [Axis.toIdle]))
    · exact h.modAx a _ (.into (by simp [Axis.toIdle]))
    · exact h
    · exact h
  · split
    · exact h.startStopFrom _ _ _ _
    · exact h
    · exact h
    · exact h
  · next idle =>
    split
    · exact h.modAx a _ (.into (by simp [idle]))
    · exact h
    · exact h
    · exact h
  · exact h
  · exact h

theorem Braking.pauseFor (h : Braking s t) (r : RunnerNo) (why : Reason) : Braking s (t.pauseFor r why) := by
  unfold State.pauseFor
  split
  · exact h
  · dsimp only
    split
    · exact (h.setRun r _).foldl _ _ (fun _ a hv => hv.stopAxisFrom _ a _)
    · exact h.setRun r _
    · exact .ite h ((h.setRun r _).report _)
    · exact h

theorem Braking.tellOwnerFault (h : Braking s t) (a : AxisNo) (k : FaultKind) : Braking s (t.tellOwnerFault a k) := by
  unfold State.tellOwnerFault
  split
  · exact h
  · refine h.foldl _ _ (fun v b hv => hv.modAx b _ ?_)
    split <;> exact fun k => ⟨k, rfl, rfl⟩
  · unfold State.tellRunnerFault
    split
    · exact h
    · exact .ite h ((h.setRun _ _).pauseFor _ _)

theorem Braking.partnerStop (h : Braking s t) (p : AxisNo) : Braking s (t.partnerStop p) := by
  have queue : Braking s (t.leaveQueue p) := h.of_axes rfl
  have bound (m : (t.ax p).motion ≠ .driving) : Braking s (t.modAx p Axis.partnerStopped) := by
    refine h.modAx p _ (.into ?_)
    unfold Axis.partnerStopped
    repeat' split
    all_goals exact m
  unfold State.partnerStop
  split
  · exact (h.startStopFrom _ _ _ _).modAx p _ (.into (by simp [State.startStopFrom, Axis.dropMove]))
  · next m => exact bound (by simp [m])
  · next m => exact bound (by simp [m])
  · exact queue.modAx p _ (.into (by simp [Axis.toIdle]))
  · exact h.modAx p _ (.into (by simp [Axis.toIdle]))
  · exact (h.startStopFrom _ _ _ _).modAx p _ (.into (by simp [State.startStopFrom, Axis.dropMove]))
  · next m => exact h.modAx p _ (.into (by simp [Axis.dropMove, m]))
  · exact h
  · exact h

/-- What follows the motion of a fault: its owner is told, and a gang partner stops. -/
theorem Braking.faultHandedOn (h : Braking s t) (a : AxisNo) (k : FaultKind) (first stops : Bool) :
    Braking s (if first then
      let v := t.tellOwnerFault a k
      if stops then
        match v.partner a with
        | none => v
        | some p => v.partnerStop p
      else v
    else t) := by
  have told := h.tellOwnerFault a k
  refine .ite (.ite ?_ told) h
  split
  · exact told
  · exact told.partnerStop _

/-- A fault of a driving axis for which no backoff is due sets nothing in motion, and changes no move that goes on. -/
theorem raiseFault_brakes {a : AxisNo} (driving : (s.ax a).motion = .driving) (k : FaultKind) (c : Cause)
    (e : Option EntryNo) : Braking s (s.raiseFault a k c e none) := by
  unfold State.raiseFault
  dsimp only
  rw [faultMotion_driving (by rw [report_ax, ax_modAx_self]; exact driving)]
  refine Braking.faultHandedOn (Braking.startStopFrom (Braking.report ?_ _) _ a _ _) a k _ _
  exact (Braking.refl s).modAx a _ (fun k => ⟨k, rfl, rfl⟩)

end

end Sys2Proof.Safety

/-! ### Ten milliseconds (R47, R48) -/

namespace Sys2Proof.Laws

open Sys2Proof.Machine Sys2Proof.Safety

/-! #### A walk in which one step alone is due -/

section Once

variable {p : State → AxisNo → Bool} {f : State → AxisNo → State} {s : State}

theorem foldl_undue {l : List AxisNo} (h : ∀ b ∈ l, p s b = false) :
    l.foldl (fun t b => if p t b then f t b else t) s = s := by
  induction l with
  | nil => rfl
  | cons b l ih =>
    rw [List.foldl_cons, h b List.mem_cons_self]
    exact ih (fun c mem => h c (List.mem_cons_of_mem b mem))

/-- Where the step of one axis is due and makes no other due, the walk is that step. -/
theorem foldl_once {l : List AxisNo} (nodup : l.Nodup) {a : AxisNo} (mem : a ∈ l) (due : p s a = true)
    (before : ∀ b, b ≠ a → p s b = false) (after : ∀ b, b ≠ a → p (f s a) b = false) :
    l.foldl (fun t b => if p t b then f t b else t) s = f s a := by
  obtain ⟨l₁, l₂, rfl⟩ := List.append_of_mem mem
  have apart := List.nodup_append.mp nodup
  have first : ∀ b ∈ l₁, b ≠ a := fun b h e => apart.2.2 b h a List.mem_cons_self e
  have last : ∀ b ∈ l₂, b ≠ a := fun b h e => (List.nodup_cons.mp apart.2.1).1 (e ▸ h)
  rw [List.foldl_append, foldl_undue (fun b h => before b (first b h)), List.foldl_cons, if_pos due,
    foldl_undue (fun b h => after b (last b h))]

end Once

/-! #### Heat and lockout of one axis -/

theorem heatUnits_eq (n : Nat) : heatUnits n = n * 10000 := rfl

theorem rampTick_eq (x : Axis) : x.rampTick = { x with stop := x.stop.map (fun st =>
    if st.ramping = true then { st with rampTicks := min 10 (st.rampTicks + 1) } else st) } := rfl

/-- No stop ramps: the interval moves no ramp on. -/
theorem rampTick_still {x : Axis} (h : ∀ st, x.stop = some st → st.ramping = false) : x.rampTick = x := by
  have same : x.stop.map (fun st =>
      if st.ramping = true then { st with rampTicks := min 10 (st.rampTicks + 1) } else st) = x.stop := by
    cases stop : x.stop with
    | none => rfl
    | some st => rw [Option.map_some, h st stop, if_neg Bool.false_ne_true]
  rw [rampTick_eq, same]

/-- The axis as its interval ends: its ramp moved on, the duty applied then taken up. -/
def intervalEnd (s : State) (a : AxisNo) : Axis :=
  let z := (s.ax a).rampTick
  let d := (s.setAx a z).dutyNow a
  { z with dutyLo := min z.dutyLo d, dutyHi := max z.dutyHi d }

theorem closeInterval_eq (s : State) (a : AxisNo) : s.closeInterval a = s.setAx a (intervalEnd s a) := by
  simp only [State.closeInterval, intervalEnd, modAx_eq, ax_setAx_self, setAx_setAx]

section Heat

variable {s : State} {a : AxisNo} {c : AxisConfig}

/-- The heat and the lockout of an axis follow from the interval that ends. -/
theorem heatAxis_eq (config : (s.ax a).config = some c) :
    let y := intervalEnd s a
    let h := heatAfter (c.heatLimit * 10000) s.freeIndex y
    s.heatAxis a = { s.setAx a { y with heat := h, lockout := lockoutAt c.heatLimit h y } with
      freeIndex := if y.dutyLo = y.dutyHi then s.freeIndex else s.freeIndex + 1 } := by
  simp only [State.heatAxis, config, closeInterval_eq, ax_setAx_self, setAx_freeIndex, heatUnits_eq]
  split
  · rw [modAx_eq, setAx_setAx, ax_setAx_self]
    rfl
  · simp only [State.modAx, State.ax, State.setAx, Vector.set_set]
    simp

theorem ax_heatAxis (config : (s.ax a).config = some c) :
    let y := intervalEnd s a
    let h := heatAfter (c.heatLimit * 10000) s.freeIndex y
    (s.heatAxis a).ax a = { y with heat := h, lockout := lockoutAt c.heatLimit h y } := by
  intro y h
  rw [heatAxis_eq config]
  exact ax_setAx_self s a _

theorem ax_heatAxis_ne {b : AxisNo} (config : (s.ax a).config = some c) (ne : b ≠ a) : (s.heatAxis a).ax b = s.ax b := by
  rw [heatAxis_eq config]
  exact ax_setAx_ne s _ ne

theorem heatAxis_unconfigured (h : (s.ax a).config = none) : s.heatAxis a = s := by
  simp only [State.heatAxis, h]

end Heat

theorem lockoutAt_eq (limit h : Nat) (x : Axis) : lockoutAt limit h x =
    if limit * 10000 ≤ h ∧ x.dutyHi ≠ 0 then true else x.lockout && !decide (h * 100 ≤ limit * 10000 * 60) := by
  simp only [lockoutAt, lockoutAfter, Nat.pos_iff_ne_zero]
  rfl

theorem heatAfter_cools (cap free : Nat) {x : Axis} (h : x.dutyHi = 0) : heatAfter cap free x = x.heat - 20 := by
  simp [heatAfter, h, Config.cooling]

theorem heatAfter_constant (cap free : Nat) {x : Axis} (h : 0 < x.dutyHi) (same : x.dutyLo = x.dutyHi) :
    heatAfter cap free x = min cap (x.heat + x.dutyHi) := by
  rw [heatAfter, if_pos h, intervalHeat, if_pos same, same]

/-- The heat of an interval lies between its least and its greatest duty. -/
theorem intervalHeat_range (free : Nat) {lo hi : Nat} (le : lo ≤ hi) :
    lo ≤ intervalHeat free lo hi ∧ intervalHeat free lo hi ≤ hi := by
  unfold intervalHeat
  split
  · omega
  · have := Nat.mod_lt (Config.intervalDuty free lo hi) (show 0 < hi - lo + 1 by omega)
    omega

/-! #### OVERHEAT -/

theorem limitReached_iff {s before : State} {a : AxisNo} : s.limitReached before a = true ↔ ∃ c, (s.ax a).config = some c ∧
    (before.ax a).heat < c.heatLimit * 10000 ∧ (s.ax a).heat = c.heatLimit * 10000 := by
  unfold State.limitReached
  cases h : (s.ax a).config with
  | none => simp
  | some c =>
    simp only [Bool.and_eq_true, decide_eq_true_eq, Option.some.injEq, exists_eq_left']
    exact Iff.rfl

theorem overheats_iff (x : Axis) : x.overheats = true ↔ x.motion = .driving ∧
    ∀ m p, x.move = some m → x.pos = some p → 200 ≤ apart m.target p := by
  unfold Axis.overheats Axis.remaining
  rw [Bool.and_eq_true, decide_eq_true_eq]
  refine and_congr Iff.rfl ?_
  cases h : x.move with
  | none => simp
  | some m => cases k : x.pos with
    | none => simp
    | some p =>
      simp only [decide_eq_true_eq, Option.some.injEq]
      exact ⟨fun far n q e f => e ▸ f ▸ far, fun far => far m p rfl rfl⟩

/-- An axis takes OVERHEAT: it has reached its limit in this interval and drives too far from its target to go on (R48). -/
def overheatDue (s before t : State) (a : AxisNo) : Bool := s.limitReached before a && (t.ax a).overheats

theorem overheatDue_iff {s before : State} {a : AxisNo} : overheatDue s before s a = true ↔ (s.ax a).motion = .driving ∧
    (∀ m p, (s.ax a).move = some m → (s.ax a).pos = some p → 200 ≤ apart m.target p) ∧
    ∃ c, (s.ax a).config = some c ∧ (before.ax a).heat < c.heatLimit * 10000 ∧ (s.ax a).heat = c.heatLimit * 10000 := by
  rw [overheatDue, Bool.and_eq_true, limitReached_iff, overheats_iff, and_comm, and_assoc]

/-- Where no axis can be set in motion, none begins to overheat. -/
theorem overheatDue_braked {s before t : State} (h : Braking s t) {a : AxisNo} (quiet : overheatDue s before s a = false) :
    overheatDue s before t a = false := by
  cases limit : s.limitReached before a
  · rw [overheatDue, limit, Bool.false_and]
  · rw [overheatDue, limit, Bool.true_and] at quiet ⊢
    rw [← Bool.not_eq_true, overheats_iff] at quiet ⊢
    rintro ⟨driving, far⟩
    obtain ⟨drove, move, pos⟩ := h a driving
    exact quiet ⟨drove, by rwa [← move, ← pos]⟩

theorem raiseOverheats_eq (s before : State) : s.raiseOverheats before = (allAxes.foldl (fun t a =>
    if overheatDue s before t a then t.raiseFault a .overheat (.remaining (t.ax a).remaining) none none else t) s).passSince
      s := rfl

theorem raiseOverheats_none {s before : State} (h : ∀ a, overheatDue s before s a = false) :
    s.raiseOverheats before = s := by
  rw [raiseOverheats_eq, foldl_undue (fun b _ => h b), passSince_self]

theorem raiseOverheats_one {s before : State} {a : AxisNo} (due : overheatDue s before s a = true)
    (others : ∀ b, b ≠ a → overheatDue s before s b = false) : s.raiseOverheats before =
      (s.raiseFault a .overheat (.remaining (s.ax a).remaining) none none).passSince s := by
  have braking := raiseFault_brakes (overheatDue_iff.mp due).1 .overheat (.remaining (s.ax a).remaining) none
  have once := foldl_once (p := overheatDue s before)
    (f := fun t b => t.raiseFault b .overheat (.remaining (t.ax b).remaining) none none) nodup_allAxes (mem_allAxes a) due
    others (fun b ne => overheatDue_braked braking (others b ne))
  rw [raiseOverheats_eq, once]

/-! #### The next interval and the timers -/

theorem ax_openIntervals (s : State) (a : AxisNo) :
    s.openIntervals.ax a = { s.ax a with dutyLo := s.dutyNow a, dutyHi := s.dutyNow a } := by
  refine ax_foldl_own (f := fun t b => t.modAx b (fun x => { x with dutyLo := t.dutyNow b, dutyHi := t.dutyNow b }))
    (y := fun x => { x with dutyLo := s.dutyNow a, dutyHi := s.dutyNow a })
    (P := fun t => (∀ b, SameAxis (s.ax b) (t.ax b)) ∧ t.store = s.store)
    (fun t b h => ⟨fun c => SameAxis.trans (h.1 c) ?_, h.2⟩) (fun t b c ne => ax_modAx_ne t _ ne) (fun t h => ?_)
    nodup_allAxes (mem_allAxes a) ⟨fun b => SameAxis.refl _, rfl⟩
  · rw [ax_modAx]
    split
    · next e => exact e ▸ rfl
    · rfl
  · obtain ⟨axes, store⟩ := h
    rw [ax_modAx_self, dutyNow_congr (fun b => SameAxis.sameDrive (axes b)) store (SameAxis.stop (axes a))]

/-- The state whose runners, jog windows and times in BLOCKED have advanced. -/
def tickedAxes (s : State) : State :=
  let s := (s.modRuns Run.tick).modAll allAxes (fun x => { x with owner := x.owner.tick })
  if s.power.state = .active then
    s.modAll allAxes (fun x => { x with link := x.link.map (BlockLink.tick (s.link.setup.blockTimeout * 1000)) })
  else s

theorem tickedAxes_kept (s : State) : ∃ axes runners, tickedAxes s = { s with axes := axes, runners := runners } := by
  obtain ⟨runners, h⟩ := modRuns_only s Run.tick
  unfold tickedAxes
  rw [h]
  dsimp only
  split
  · have k := (OnlyAxes.modAll { s with runners := runners } allAxes (fun x => { x with owner := x.owner.tick })).trans
      (OnlyAxes.modAll _ allAxes (fun x => { x with link := x.link.map (BlockLink.tick (s.link.setup.blockTimeout * 1000)) }))
    exact ⟨_, runners, k⟩
  · exact ⟨_, runners, OnlyAxes.modAll { s with runners := runners } allAxes _⟩

theorem tickTimers_eq (s : State) : s.tickTimers =
    { (tickedAxes s).modChans (fun c => { c with cooldown := c.cooldown.map (fun t => t - 10) }) with
      link := { s.link with cadence := s.link.cadence.map (fun t => min s.link.setup.cadence (t + 10)),
                            supervision := s.link.supervision.tick },
      power := { s.power with dwell := s.power.dwell.map (fun t => min (s.link.setup.dwell * 100) (t + 10)) } } := by
  obtain ⟨axes, runners, h⟩ := tickedAxes_kept s
  have link : ((tickedAxes s).modChans (fun c => { c with cooldown := c.cooldown.map (fun t => t - 10) })).link = s.link := by
    rw [h]
    rfl
  have power : ((tickedAxes s).modChans (fun c => { c with cooldown := c.cooldown.map (fun t => t - 10) })).power =
      s.power := by
    rw [h]
    rfl
  rw [← link, ← power]
  rfl

theorem ax_tickedAxes (s : State) (a : AxisNo) : (tickedAxes s).ax a = { s.ax a with
    owner := (s.ax a).owner.tick
    link := if s.power.state = .active then (s.ax a).link.map (BlockLink.tick (s.link.setup.blockTimeout * 1000))
      else (s.ax a).link } := by
  unfold tickedAxes
  have runs : (s.modRuns Run.tick).ax a = s.ax a := by
    obtain ⟨runners, h⟩ := modRuns_only s Run.tick
    rw [h]
    rfl
  have power : (s.modRuns Run.tick).power = s.power := rfl
  have link : (s.modRuns Run.tick).link = s.link := rfl
  simp only [modAll_power, modAll_link, power, link]
  split <;> simp only [ax_modAll_allAxes, runs]

theorem run_tickedAxes (s : State) (r : RunnerNo) : (tickedAxes s).run r = (s.run r).map Run.tick := by
  rw [← run_modRuns]
  refine run_congr ?_ r
  unfold tickedAxes
  dsimp only
  split <;> simp only [modAll_runners]

section Timers

variable (s : State)

theorem run_tickTimers (r : RunnerNo) : s.tickTimers.run r = (s.run r).map Run.tick := by
  obtain ⟨chans, h⟩ := modChans_only (tickedAxes s) (fun c => { c with cooldown := c.cooldown.map (fun t => t - 10) })
  rw [← run_tickedAxes, tickTimers_eq, h]
  rfl

theorem ax_tickTimers (a : AxisNo) : s.tickTimers.ax a = { s.ax a with
    owner := (s.ax a).owner.tick
    link := if s.power.state = .active then (s.ax a).link.map (BlockLink.tick (s.link.setup.blockTimeout * 1000))
      else (s.ax a).link } := by
  obtain ⟨chans, h⟩ := modChans_only (tickedAxes s) (fun c => { c with cooldown := c.cooldown.map (fun t => t - 10) })
  rw [← ax_tickedAxes, tickTimers_eq, h]
  rfl

theorem ch_tickTimers (c : ChanNo) :
    s.tickTimers.ch c = { s.ch c with cooldown := (s.ch c).cooldown.map (fun t => t - 10) } := by
  have same : (tickedAxes s).ch c = s.ch c := by
    obtain ⟨axes, runners, h⟩ := tickedAxes_kept s
    rw [h]
    rfl
  have ticked := ch_modChans (tickedAxes s) (fun c => { c with cooldown := c.cooldown.map (fun t => t - 10) }) c
  rw [same] at ticked
  rw [tickTimers_eq]
  exact ticked

/-- The timers move the axes, the channels, the runners, the link's timers and the dwell timer, and nothing else. -/
theorem tickTimers_only : s.tickTimers = { s with
    axes := s.tickTimers.axes, chans := s.tickTimers.chans, runners := s.tickTimers.runners
    link := { s.link with cadence := s.link.cadence.map (fun t => min s.link.setup.cadence (t + 10)),
                          supervision := s.link.supervision.tick },
    power := { s.power with dwell := s.power.dwell.map (fun t => min (s.link.setup.dwell * 100) (t + 10)) } } := by
  obtain ⟨axes, runners, h⟩ := tickedAxes_kept s
  obtain ⟨chans, k⟩ := modChans_only (tickedAxes s) (fun c => { c with cooldown := c.cooldown.map (fun t => t - 10) })
  have e : s.tickTimers = { s with
      axes := axes, chans := chans, runners := runners
      link := { s.link with cadence := s.link.cadence.map (fun t => min s.link.setup.cadence (t + 10)),
                            supervision := s.link.supervision.tick },
      power := { s.power with dwell := s.power.dwell.map (fun t => min (s.link.setup.dwell * 100) (t + 10)) } } := by
    rw [tickTimers_eq, k, h]
  rw [e]

end Timers

theorem runTick_eq (run : Run) : run.tick = if run.state = .running then
    { run with elapsed := min (if run.timeout = 0 then 4294967295 else run.timeout * 100) (run.elapsed + 1),
               moves := run.moves.map (fun m => { m with gates := m.gates.map GateState.tick }) }
  else run := rfl

end Sys2Proof.Laws

namespace Sys2Proof.Proofs

open Sys2Proof.Machine Sys2Proof.Laws Sys2Proof.Safety

theorem exec_heatTick {s : State} (running : s.power.inReset = false) :
    exec .heatTick s = .next (heatTickEffect s).settle := event_runs running _

theorem heatTickEffect_runs {s : State} (runs : s.power.state.runs = true) :
    heatTickEffect s = (((allAxes.foldl State.heatAxis s).raiseOverheats s).openIntervals).tickTimers := by
  rcases runs_cases runs with h | h | h <;> simp only [heatTickEffect, h]

theorem heatTickEffect_asleep {s : State} (asleep : s.power.state = .sleep) : heatTickEffect s = s.tickSleep := by
  simp only [heatTickEffect, asleep]

/-- An interval at one duty throughout, in which no stop ramps. -/
theorem intervalEnd_constant {s : State} {a : AxisNo} {d : Nat} (lo : (s.ax a).dutyLo = d) (hi : (s.ax a).dutyHi = d)
    (now : s.dutyNow a = d) (still : ∀ st, (s.ax a).stop = some st → st.ramping = false) : intervalEnd s a = s.ax a := by
  simp only [intervalEnd, rampTick_still still, setAx_self, now, lo, hi, min_self, max_self]
  exact congrArg₂ (fun l h => { s.ax a with dutyLo := l, dutyHi := h }) lo.symm hi.symm

/-- Settles O56: the interval of each axis, the heat it makes, and every timer. -/
theorem heatTickHeatsAndCools : Obligations.HeatTickHeatsAndCools := by
  unfold Obligations.HeatTickHeatsAndCools
  refine ⟨fun s running runs => ?_, fun s running init => ?_, fun s running asleep => ⟨fun woken => ?_, fun none low => ?_,
    fun none full => ?_⟩, fun s a c d config lo hi now still => ?constant, fun x cap free le driven => ?between,
    fun s before => ?overheat, ax_openIntervals, fun s a c config => ?_, fun s => ?timers, fun s a => ?duty,
    fun s a c config => ?interval, fun x cap free => ⟨heatAfter_cools cap free, heatAfter_constant cap free⟩,
    fun s a => heatAxis_unconfigured⟩
  · rw [exec_heatTick running, heatTickEffect_runs runs]
  · rw [exec_heatTick running, heatTickEffect, init]
  · rw [exec_heatTick running, heatTickEffect_asleep asleep, State.tickSleep, if_pos (Option.isSome_iff_ne_none.mpr woken)]
  · rw [exec_heatTick running, heatTickEffect_asleep asleep, State.tickSleep, none, if_neg (by decide), if_pos (by omega)]
  · rw [exec_heatTick running, heatTickEffect_asleep asleep, State.tickSleep, none, if_neg (by decide), if_neg (by omega)]
    rfl
  case constant =>
    dsimp only
    have heated := ax_heatAxis config
    rw [intervalEnd_constant lo hi now still] at heated
    have heat : heatAfter (c.heatLimit * 10000) s.freeIndex (s.ax a) =
        if d = 0 then (s.ax a).heat - 20 else min (c.heatLimit * 10000) ((s.ax a).heat + d) := by
      split
      · next zero => exact heatAfter_cools _ _ (hi.trans zero)
      · next driven => rw [heatAfter_constant _ _ (hi ▸ Nat.pos_of_ne_zero driven) (lo.trans hi.symm), hi]
    refine ⟨by rw [heated]; exact heat, ?_, fun b ne => by rw [ax_heatAxis_ne config ne]; exact ⟨rfl, rfl⟩⟩
    rw [heated]
    dsimp only
    rw [lockoutAt_eq, heat, hi]
  case between =>
    have range := intervalHeat_range free le
    simp only [heatAfter, if_pos driven]
    omega
  case overheat =>
    dsimp only
    simp only [← overheatDue_iff]
    refine ⟨fun quiet => raiseOverheats_none fun b => Bool.of_not_eq_true (quiet b), fun a due others => ?_⟩
    rw [raiseOverheats_one due (fun b ne => Bool.of_not_eq_true (others b ne))]
    rfl
  · rw [ax_heatAxis config]
    rfl
  case timers =>
    dsimp only
    refine ⟨fun r => ?_, fun a => ?_, ch_tickTimers s, ?_⟩
    · rw [run_tickTimers]
      cases s.run r with
      | none => rfl
      | some run => exact congrArg some (runTick_eq run)
    · exact ax_tickTimers s a
    · exact tickTimers_only s
  case duty =>
    dsimp only
    refine ⟨fun m ph c driving move phase config => ?_, fun m c k backoff move phase config step reverse => ?_,
      dutyNow_backoff, fun k d => dutyNow_pulse, dutyNow_unpulsed, fun st => dutyNow_stopping, dutyNow_unstopped,
      dutyNow_still⟩
    · rw [dutyNow_driving driving, driveDuty_eq move config, phase]
      rfl
    · rw [dutyNow_reverse backoff step reverse, driveDuty_eq move config, phase]
      rfl
  case interval =>
    dsimp only
    refine ⟨by rw [ax_heatAxis config]; rfl, ?_, by rw [heatAxis_eq config]; rfl⟩
    rw [ax_heatAxis config]
    exact lockoutAt_eq _ _ _

end Sys2Proof.Proofs

/-! ### Stop requests and the reversal of a jog -/

namespace Sys2Proof.Laws

open Sys2Proof.Machine Sys2Proof.Safety

section Meet

variable {s : State} {a : AxisNo} {n : Nat} {r : StopReq} {st : Stop}

/-- A request that meets a stop under way, or a recorded destination, changes the destination alone; an axis at its noted outcome
gives that outcome up for held or BLOCKED (R43, R79). -/
theorem meet_eq {x : Axis} (stop : x.stop = some st) (r : StopReq) : x.meet r = { x with
    stop := some { st with dest := st.dest.meet (st.arrived && x.noted.isSome) r, revoked := st.revoked || decide (r = .revoke) }
    noted := if (st.arrived && x.noted.isSome) = true ∧ r ≠ .pause ∧ r ≠ .halt then none else x.noted } := by
  cases r <;> simp [Axis.meet, Axis.waiting, stop, Stop.meet]

theorem stopAxisFrom_bound (h : (s.ax a).motion = .stopping ∨ (s.ax a).motion = .engaging) (stop : (s.ax a).stop = some st) :
    s.stopAxisFrom n a r = s.setAx a ((s.ax a).meet r) := by
  rcases h with h | h
  · exact stopAxisFrom_stopping h
  · rw [stopAxisFrom_engaging h, stop]
    rfl

theorem stopAxisFrom_bare (h : (s.ax a).motion = .engaging) (stop : (s.ax a).stop = none) : s.stopAxisFrom n a r =
    s.setAx a { s.ax a with stop := some ⟨r.dest, .coast, 0, false, 0, false, false⟩ } := by
  rw [stopAxisFrom_engaging h, stop]
  rfl

theorem startStopFrom_eq (s : State) (n : Nat) (a : AxisNo) (dest : Dest) (mode : StopMode) :
    s.startStopFrom n a dest mode = s.setAx a { s.ax a with
      motion := .stopping, phase := none, blanking := false, backoff := none,
      check := (s.ax a).check.map (fun k => { k with pulse := none }),
      stop := some ⟨dest, mode, n, decide (mode = .controlled), 0, false, false⟩ } := rfl

theorem stopAxisFrom_checking_block (h : (s.ax a).motion = .checking) (e : EntryNo) (p : AxisNo) :
    s.stopAxisFrom n a (.block e p) = s.startStopFrom n a (.blocked e p) .coast := by
  simp only [State.stopAxisFrom, h]

/-- A winding test in its pulses takes a keep-out block and nothing else (R69). -/
theorem stopAxisFrom_checking (h : (s.ax a).motion = .checking) (other : ∀ e p, r ≠ .block e p) :
    s.stopAxisFrom n a r = s := by
  cases r with
  | block e p => exact absurd rfl (other e p)
  | pause => simp only [State.stopAxisFrom, h]
  | halt => simp only [State.stopAxisFrom, h]
  | revoke => simp only [State.stopAxisFrom, h]

theorem pause_queued (h : (s.ax a).motion = .queued) :
    s.stopAxisFrom n a .pause = (s.leaveQueue a).modAx a (Axis.toIdle true) := by
  simp only [State.stopAxisFrom, h]

theorem revoke_queued (h : (s.ax a).motion = .queued) : s.stopAxisFrom n a .revoke = s := by
  simp only [State.stopAxisFrom, h]

theorem block_queued (h : (s.ax a).motion = .queued) (e : EntryNo) (p : AxisNo) : s.stopAxisFrom n a (.block e p) =
    (s.leaveQueue a).modAx a (fun x => { x with motion := .idle, held := false }) := by
  simp only [State.stopAxisFrom, h]

theorem pause_blocked (h : (s.ax a).motion = .blocked) : s.stopAxisFrom n a .pause = s.modAx a (Axis.toIdle true) := by
  simp only [State.stopAxisFrom, h]

theorem stopAxisFrom_blocked (h : (s.ax a).motion = .blocked) (halt : r ≠ .halt) (pause : r ≠ .pause) :
    s.stopAxisFrom n a r = s := by
  cases r with
  | halt => exact absurd rfl halt
  | pause => exact absurd rfl pause
  | revoke => simp only [State.stopAxisFrom, h]
  | block e p => simp only [State.stopAxisFrom, h]

theorem stopAxisFrom_idle (h : (s.ax a).motion = .idle) (halt : r ≠ .halt) : s.stopAxisFrom n a r = s := by
  cases r with
  | halt => exact absurd rfl halt
  | pause => simp only [State.stopAxisFrom, h]
  | revoke => simp only [State.stopAxisFrom, h]
  | block e p => simp only [State.stopAxisFrom, h]

theorem leaveQueue_ax (s : State) (a b : AxisNo) : (s.leaveQueue a).ax b = s.ax b := rfl

/-- The duty at the request enters a stop in the duty that its ramp begins from alone. -/
theorem startStopFrom_from (s : State) (n k : Nat) (a : AxisNo) (dest : Dest) (mode : StopMode) :
    s.startStopFrom k a dest mode =
      (s.startStopFrom n a dest mode).modAx a (fun y => { y with stop := y.stop.map (fun st => { st with rampFrom := k }) }) := by
  rw [startStopFrom_eq, startStopFrom_eq, modAx_eq, setAx_setAx, ax_setAx_self]
  rfl

/-- Where no stop begins, the duty at the request makes no difference. -/
theorem stopAxisFrom_duty (n k : Nat) (driving : (s.ax a).motion ≠ .driving)
    (test : (s.ax a).motion = .checking → ∀ e p, r ≠ .block e p) : s.stopAxisFrom n a r = s.stopAxisFrom k a r := by
  cases h : (s.ax a).motion with
  | driving => exact absurd h driving
  | checking => rw [stopAxisFrom_checking h (test h), stopAxisFrom_checking h (test h)]
  | stopping => simp only [State.stopAxisFrom, h]
  | engaging => simp only [State.stopAxisFrom, h]
  | queued => simp only [State.stopAxisFrom, h]
  | blocked => simp only [State.stopAxisFrom, h]
  | idle => simp only [State.stopAxisFrom, h]
  | backoff => simp only [State.stopAxisFrom, h]
  | fault => simp only [State.stopAxisFrom, h]

theorem modAx_id (s : State) (a : AxisNo) : s.modAx a (fun x => x) = s := setAx_self s a

end Meet

end Sys2Proof.Laws

namespace Sys2Proof.Proofs

open Sys2Proof.Machine Sys2Proof.Laws Sys2Proof.Safety

/-- Settles O25: the motion states one by one, the table of R43 by destination and request. -/
theorem stopRequestsActByMotionState : Obligations.StopRequestsActByMotionState := by
  unfold Obligations.StopRequestsActByMotionState
  refine ⟨fun s a r => ⟨stopAxisFrom_driving, stopAxisFrom_bare, fun st bound stop => ?table, fun st c stopping stop arrived noted dest =>
    ⟨fun revoke => ?_, fun e p block => ?_⟩, fun checking => ⟨fun e p block => ?_, stopAxisFrom_checking checking⟩,
    fun keep => rfl, fun queued halt => ?_, fun queued pause => ?_, fun blocked halt => ?_, fun blocked pause => ?_,
    fun idle halt => ?_, fun e p queued block => ?_, fun queued revoke => ?_, stopAxisFrom_blocked, stopAxisFrom_idle,
    fun rest => stopAxisFrom_resting rest.symm, fun b ne driving drivingB => ?pair⟩, fun s duty a r => ?duty,
    fun s as r => rfl⟩
  case table =>
    intro waits d
    have table : st.dest.meet waits r = d := by
      simp only [d]
      cases st.dest with
      | completion c => cases c <;> cases r <;> rfl
      | idle k => cases k <;> cases r <;> rfl
      | held => cases r <;> rfl
      | blocked e p => cases r <;> rfl
      | fault => cases r <;> rfl
      | reversal => cases r <;> rfl
      | checkDone => cases r <;> rfl
    rw [← table]
    exact (stopAxisFrom_bound bound stop).trans (congrArg (s.setAx a) (meet_eq stop r))
  · subst revoke
    have met := meet_eq stop .revoke
    have waits : (st.arrived && (s.ax a).noted.isSome) = true := by simp [arrived, Option.isSome_iff_ne_none, noted]
    rw [waits, dest] at met
    refine (stopAxisFrom_bound (.inl stopping) stop).trans (congrArg (s.setAx a) (met.trans ?_))
    simp [Dest.meet]
  · subst block
    have met := meet_eq stop (.block e p)
    have waits : (st.arrived && (s.ax a).noted.isSome) = true := by simp [arrived, Option.isSome_iff_ne_none, noted]
    rw [waits, dest] at met
    refine (stopAxisFrom_bound (.inl stopping) stop).trans (congrArg (s.setAx a) (met.trans ?_))
    simp [Dest.meet]
  · exact block ▸ stopAxisFrom_checking_block checking e p
  · exact halt ▸ halt_queued queued
  · exact pause ▸ pause_queued queued
  · exact halt ▸ halt_blocked blocked
  · exact pause ▸ pause_blocked blocked
  · exact halt ▸ halt_idle idle
  · exact block ▸ block_queued queued e p
  · exact revoke ▸ revoke_queued queued
  case pair =>
    have second : ((s.stopAxisFrom (s.dutyNow a) a r).ax b).motion = .driving := by
      rw [stopAxisFrom_driving driving, startStopFrom_eq, ax_setAx_ne _ _ ne, drivingB]
    have both : s.stopAll [a, b] r = (s.startStopFrom (s.dutyNow a) a r.dest .controlled).startStopFrom
        (s.dutyNow b) b r.dest .controlled := by
      simp only [State.stopAll, List.foldl_cons, List.foldl_nil]
      rw [stopAxisFrom_driving second, stopAxisFrom_driving driving]
    rw [both, startStopFrom_eq, ax_setAx_self, ax_setAx_ne _ _ ne.symm, startStopFrom_eq, ax_setAx_self]
    exact ⟨rfl, rfl⟩
  case duty =>
    unfold State.stopAxis
    have same (driving : (s.ax a).motion ≠ .driving) (test : (s.ax a).motion = .checking → ∀ e p, r ≠ .block e p) :
        s.stopAxisFrom duty a r = (s.stopAxisFrom (s.dutyNow a) a r).modAx a (fun y => y) :=
      (stopAxisFrom_duty duty _ driving test).trans (modAx_id _ a).symm
    cases m : (s.ax a).motion with
    | driving =>
      rw [stopAxisFrom_driving m, stopAxisFrom_driving m]
      exact startStopFrom_from s _ duty a _ _
    | checking =>
      cases r with
      | block e p =>
        rw [stopAxisFrom_checking_block m, stopAxisFrom_checking_block m]
        exact startStopFrom_from s _ duty a _ _
      | pause => exact same (by simp [m]) (by simp)
      | halt => exact same (by simp [m]) (by simp)
      | revoke => exact same (by simp [m]) (by simp)
    | stopping => exact same (by simp [m]) (by simp [m])
    | engaging => exact same (by simp [m]) (by simp [m])
    | queued => exact same (by simp [m]) (by simp [m])
    | blocked => exact same (by simp [m]) (by simp [m])
    | idle => exact same (by simp [m]) (by simp [m])
    | backoff => exact same (by simp [m]) (by simp [m])
    | fault => exact same (by simp [m]) (by simp [m])

end Sys2Proof.Proofs

/-! ### JOG on an axis that the link jogs already -/

namespace Sys2Proof.Laws

open Sys2Proof.Machine Sys2Proof.Safety

theorem jogMode_of {mode : Byte} {n : Half} {counts : Option Nat}
    (h : mode = 0 ∧ 1 ≤ n.toNat ∧ n.toNat ≤ 2000 ∧ counts = some n.toNat ∨ mode = 1 ∧ counts = none) :
    jogMode mode n = some counts := jogMode_eq_some.mpr h

section Again

variable {tag axis dir mode : Byte} {n : Half} {u : State} {a : AxisNo} {d : Dir} {counts : Option Nat} {op : LinkOp}

theorem jogChecks_pass (config : (u.ax a).config ≠ none) (formed : u.gangPending a = false) (free : u.inhibit = false)
    (placed : counts ≠ none → ∀ b ∈ u.members a, (u.ax b).ref ≠ .unknown) : jogChecks u a counts = none := by
  rw [jogChecks_eq, if_pos ⟨config, formed⟩, if_neg (fun ⟨counted, b, mem, unknown⟩ => placed counted b mem unknown),
    if_neg (by simp [free])]

/-- A JOG that passes the early checks and finds the link jogging its axis is judged by R50 and R51. -/
theorem jogTaken_again (awake : u.resetting = false) (named : finOf 12 axis = some a) (toward : dirOf dir = some d)
    (by_mode : jogMode mode n = some counts) (early : jogChecks u a counts = none) (jogs : (u.ax a).jogOp = some op) :
    jogTaken tag axis dir mode n u = u.jogAgain tag a op d counts := by
  unfold jogChecks at early
  simp only [jogTaken, awake, named, toward, by_mode, early, jogs]
  simp

theorem jogAgain_over (h : op.result ≠ none ∨ ∃ b ∈ u.members a, (u.ax b).fault ≠ none) :
    u.jogAgain tag a op d counts = u.reply 0x13 tag .busy [] := by
  refine if_pos ?_
  simpa [Option.isSome_iff_ne_none, List.any_eq_true] using h

section Open

variable (result : op.result = none) (sound : ∀ b ∈ u.members a, (u.ax b).fault = none)
include result sound

theorem jogAgain_open : u.jogAgain tag a op d counts =
    if d = op.dir then
      if counts.isNone && op.hold then (u.modOp a (fun op => { op with window := some 0 })).reply 0x13 tag .ok []
      else u.reply 0x13 tag .busy []
    else (u.reverseJog a d counts).reply 0x13 tag .ok [] := by
  refine if_neg ?_
  simp [result, List.any_eq_true]
  exact sound

end Open

end Again

/-! #### The end of the jog window (R50) -/

section Window

variable {s : State} {a : AxisNo} {op : LinkOp}

theorem windowExpiry_open (owner : (s.ax a).owner = .link op) (jog : op.kind = .jog) (window : op.window ≠ none) :
    windowExpiry a s = (s.endLinkOp a .released).passSince s := by
  simp only [windowExpiry, jogOp_eq_some.mpr ⟨owner, jog⟩, Option.isSome_iff_ne_none.mpr window, if_true]

theorem windowExpiry_closed (h : ∀ op, (s.ax a).owner = .link op → op.kind = .jog → op.window = none) :
    windowExpiry a s = s := by
  unfold windowExpiry
  split
  · next op jogs =>
    obtain ⟨owner, jog⟩ := jogOp_eq_some.mp jogs
    rw [h op owner jog]
    rfl
  · rfl

end Window

/-! #### The reversal (R51) -/

/-- The state of a jog whose new mode, direction and target are noted, before its motion follows. -/
def renamed (s : State) (a : AxisNo) (dir : Dir) (counts : Option Nat) : State :=
  let w := s.modOp a (fun op => { op with hold := counts.isNone, dir := dir, window := jogWindowOf counts })
  (if counts.isNone then w.notIdle else w).retarget (s.members a) a (s.jogTarget a dir counts)

theorem motion_modOp (s : State) (a : AxisNo) (f : LinkOp → LinkOp) (b : AxisNo) :
    ((s.modOp a f).ax b).motion = (s.ax b).motion := by
  rw [modOp_eq]
  exact modAll_keeps Axis.motion s _ (withOp f) (fun _ => rfl) b

theorem motion_renamed (s : State) (a : AxisNo) (dir : Dir) (counts : Option Nat) (b : AxisNo) :
    ((renamed s a dir counts).ax b).motion = (s.ax b).motion := by
  unfold renamed State.retarget
  refine (modAll_keeps Axis.motion _ _ _ ?_ b).trans ?_
  · exact fun _ => rfl
  · cases counts <;> exact motion_modOp s a _ b

/-- An axis that holds a channel as a reversal reaches it, its output applying `duty`. -/
def turnedAxis (duty : Nat) (x : Axis) : Axis :=
  match x.motion with
  | .driving => { x with
      motion := .stopping, phase := none, blanking := false, backoff := none,
      check := x.check.map (fun k => { k with pulse := none }),
      stop := some ⟨.reversal, .controlled, duty, true, 0, false, false⟩ }
  | .stopping => { x with stop := x.stop.map Stop.reverse, noted := none }
  | .engaging => { x with move := x.move.map (fun m => { m with reversed := true }) }
  | .idle | .queued | .backoff | .blocked | .fault | .checking => x

section Turned

variable {duty : Nat} {x : Axis}

theorem turnedAxis_driving (h : x.motion = .driving) : turnedAxis duty x = { x with
    motion := .stopping, phase := none, blanking := false, backoff := none,
    check := x.check.map (fun k => { k with pulse := none }),
    stop := some ⟨.reversal, .controlled, duty, true, 0, false, false⟩ } := by
  simp only [turnedAxis, h]

theorem turnedAxis_stopping (h : x.motion = .stopping) :
    turnedAxis duty x = { x with stop := x.stop.map Stop.reverse, noted := none } := by
  simp only [turnedAxis, h]

theorem turnedAxis_engaging (h : x.motion = .engaging) :
    turnedAxis duty x = { x with move := x.move.map (fun m => { m with reversed := true }) } := by
  simp only [turnedAxis, h]

theorem turnedAxis_other (driving : x.motion ≠ .driving) (stopping : x.motion ≠ .stopping) (engaging : x.motion ≠ .engaging) :
    turnedAxis duty x = x := by
  cases h : x.motion <;> simp_all [turnedAxis]

end Turned

theorem reverseAxis_eq (s : State) (duty : Nat) (a : AxisNo) : s.reverseAxis duty a = s.modAx a (turnedAxis duty) := by
  have other (driving : (s.ax a).motion ≠ .driving) (stopping : (s.ax a).motion ≠ .stopping)
      (engaging : (s.ax a).motion ≠ .engaging) : s = s.modAx a (turnedAxis duty) := by
    rw [modAx_eq, turnedAxis_other driving stopping engaging, setAx_self]
  unfold State.reverseAxis
  cases h : (s.ax a).motion with
  | driving => exact (startStopFrom_eq s duty a .reversal .controlled).trans (congrArg (s.setAx a) (turnedAxis_driving h).symm)
  | stopping => exact congrArg (s.setAx a) (turnedAxis_stopping h).symm
  | engaging => exact congrArg (s.setAx a) (turnedAxis_engaging h).symm
  | idle => exact other (by simp [h]) (by simp [h]) (by simp [h])
  | queued => exact other (by simp [h]) (by simp [h]) (by simp [h])
  | backoff => exact other (by simp [h]) (by simp [h]) (by simp [h])
  | blocked => exact other (by simp [h]) (by simp [h]) (by simp [h])
  | fault => exact other (by simp [h]) (by simp [h]) (by simp [h])
  | checking => exact other (by simp [h]) (by simp [h]) (by simp [h])

section Reverse

variable {s : State} {a : AxisNo} {dir : Dir} {counts : Option Nat}

theorem reverseJog_queued (h : (s.ax a).motion = .queued) : s.reverseJog a dir counts =
    let v := renamed s a dir counts
    if v.anyBlocked (s.members a) then
      ((((s.members a).foldl State.leaveQueue v).modAll (s.members a)
        (fun x => { x with motion := .idle, held := false })).blockEntry (s.members a)).passSince v
    else v := by
  have motion := (motion_renamed s a dir counts a).trans h
  unfold renamed at motion
  simp only [State.reverseJog, motion]
  rfl

theorem reverseJog_blocked (h : (s.ax a).motion = .blocked) :
    s.reverseJog a dir counts = (renamed s a dir counts).reevaluate a := by
  have motion := (motion_renamed s a dir counts a).trans h
  unfold renamed at motion
  simp only [State.reverseJog, motion]
  rfl

/-- The state of a jog whose axes hold their channels, each turned by its motion. -/
def turned (s : State) (as : List AxisNo) : State := as.foldl (fun t b => t.reverseAxis (s.dutyNow b) b) s

theorem reverseJog_moving (queued : (s.ax a).motion ≠ .queued) (blocked : (s.ax a).motion ≠ .blocked) :
    s.reverseJog a dir counts = turned (renamed s a dir counts) (s.members a) := by
  have motion := motion_renamed s a dir counts a
  unfold renamed at motion
  cases h : (s.ax a).motion
  case queued => exact absurd h queued
  case blocked => exact absurd h blocked
  all_goals
    rw [h] at motion
    simp only [State.reverseJog, motion]
    rfl

theorem turned_only (s : State) (as : List AxisNo) : OnlyAxes s (turned s as) :=
  OnlyAxes.foldl s as _ (fun t b => by rw [reverseAxis_eq]; exact OnlyAxes.modAx t b _)

theorem reverseAxis_other (v : State) (t : State) (b c : AxisNo) (ne : c ≠ b) :
    (t.reverseAxis (v.dutyNow b) b).ax c = t.ax c := by
  rw [reverseAxis_eq, ax_modAx_ne t _ ne]

theorem ax_turned_other {as : List AxisNo} {b : AxisNo} (out : b ∉ as) : (turned s as).ax b = s.ax b :=
  ax_foldl_other (reverseAxis_other s) as out s

theorem ax_turned {as : List AxisNo} (nodup : as.Nodup) {b : AxisNo} (mem : b ∈ as) :
    (turned s as).ax b = turnedAxis (s.dutyNow b) (s.ax b) :=
  ax_foldl_own (P := fun _ => True) (fun _ _ _ => trivial) (reverseAxis_other s)
    (fun t _ => by rw [reverseAxis_eq, ax_modAx_self]) nodup mem trivial

end Reverse

theorem nodup_members {s : State} {a : AxisNo} (h : s.partner a ≠ some a) : (s.members a).Nodup := by
  cases p : s.partner a with
  | none => rw [members_alone p]; exact List.nodup_singleton a
  | some b =>
    have ne : b ≠ a := fun e => h (e ▸ p)
    rw [members_gang p]
    split <;> simp [ne, ne.symm]

end Sys2Proof.Laws

namespace Sys2Proof.Proofs

open Sys2Proof.Machine Sys2Proof.Laws Sys2Proof.Safety

/-- Settles O24: the checks of R50 and R51 in their order, then the reversal by the motion of the axis. -/
theorem jogWindowRestartsAndExpires : Obligations.JogWindowRestartsAndExpires := by
  unfold Obligations.JogWindowRestartsAndExpires
  refine ⟨fun tag axis dir mode n s a op h named => ?again, fun tag axis dir mode n s a op d h named => ?ended,
    fun s a running => ⟨fun op owner jog window result quiet => ?_, fun closed => ?_⟩,
    fun tag axis dir mode n s a op d counts h named => ?reverse, fun s a f => rfl⟩
  case again =>
    intro u owner jog result sound config formed free toward
    have jogs := jogOp_eq_some.mpr ⟨owner, jog⟩
    have taken {counts : Option Nat} (by_mode : jogMode mode n = some counts)
        (placed : counts ≠ none → ∀ b ∈ u.members a, (u.ax b).ref ≠ .unknown) :
        jogTaken tag axis dir mode n u = _ :=
      (jogTaken_again (resetting_listens h) named toward by_mode (jogChecks_pass config formed free placed) jogs).trans
        ((jogAgain_open result sound).trans (if_pos rfl))
    refine ⟨fun hold held => ?_, fun hold counted => ?_, fun count lo hi placed => ?_⟩
    · exact exec_answers h rfl ((taken (jogMode_of (.inr ⟨hold, rfl⟩)) (absurd rfl)).trans (if_pos (by simp [held])))
    · exact exec_answers h rfl ((taken (jogMode_of (.inr ⟨hold, rfl⟩)) (absurd rfl)).trans (if_neg (by simp [counted])))
    · exact exec_answers h rfl ((taken (jogMode_of (.inl ⟨count, lo, hi, rfl⟩)) (fun _ => placed)).trans (if_neg (by simp)))
  case ended =>
    intro u owner jog ends config formed free toward by_mode
    have jogs := jogOp_eq_some.mpr ⟨owner, jog⟩
    obtain ⟨counts, by_mode, placed⟩ : ∃ counts, jogMode mode n = some counts ∧
        (counts ≠ none → ∀ b ∈ u.members a, (u.ax b).ref ≠ .unknown) := by
      rcases by_mode with ⟨count, lo, hi, placed⟩ | hold
      · exact ⟨_, jogMode_of (.inl ⟨count, lo, hi, rfl⟩), fun _ => placed⟩
      · exact ⟨_, jogMode_of (.inr ⟨hold, rfl⟩), absurd rfl⟩
    exact exec_answers h rfl ((jogTaken_again (resetting_listens h) named toward by_mode
      (jogChecks_pass config formed free placed) jogs).trans (jogAgain_over ends))
  · have quiet' : ∀ b ∈ s.members a, ¬ inPulses s b = true := fun b mem pulses => by
      obtain ⟨checking, going⟩ := quiet b mem
      rcases inPulses_iff.mp pulses with k | ⟨-, st, stop, dest⟩
      · exact checking k
      · exact going st stop dest
    exact (event_runs running _).trans (by rw [windowExpiry_open owner jog window, endLinkOp_open owner result quiet'])
  · exact (event_runs running _).trans (by rw [windowExpiry_closed closed])
  case reverse =>
    intro u as owner jog result sound config formed free two toward other by_mode p target w v answers
    have jogs := jogOp_eq_some.mpr ⟨owner, jog⟩
    have mode_counts : jogMode mode n = some counts := by
      rcases by_mode with ⟨count, lo, hi, eq, -⟩ | hold
      · exact jogMode_of (.inl ⟨count, lo, hi, eq⟩)
      · exact jogMode_of (.inr hold)
    have placed (some : counts ≠ none) : ∀ b ∈ u.members a, (u.ax b).ref ≠ .unknown := by
      rcases by_mode with ⟨-, -, -, -, placed⟩ | ⟨-, none⟩
      · exact placed
      · exact absurd none some
    have v_eq : renamed u a d counts = v := by
      cases counts <;> cases d <;> rfl
    have reversed {t : State} (e : u.reverseJog a d counts = t) : answers t := by
      refine exec_answers h rfl ?_
      rw [jogTaken_again (resetting_listens h) named toward mode_counts (jogChecks_pass config formed free placed) jogs,
        jogAgain_open result sound, if_neg other, e]
    refine ⟨fun queued clear => ?_, fun queued blocked => ?_, fun blocked => ?_, fun queued blocked => ?_⟩
    · exact reversed (by rw [reverseJog_queued queued, v_eq]; exact if_neg (Bool.eq_false_iff.mp clear))
    · exact reversed (by rw [reverseJog_queued queued, v_eq]; exact if_pos blocked)
    · exact reversed (by rw [reverseJog_blocked blocked, v_eq])
    · refine ⟨turned v as, reversed (by rw [reverseJog_moving queued blocked, v_eq]), turned_only v as,
        fun b out => ax_turned_other out, fun b mem => ?_⟩
      have axis := ax_turned (s := v) (nodup_members two) mem
      refine ⟨fun driving => axis.trans (turnedAxis_driving driving), fun st stopping stop => ?_,
        fun engaging => axis.trans (turnedAxis_engaging engaging),
        fun driving stopping engaging => axis.trans (turnedAxis_other driving stopping engaging)⟩
      rw [axis, turnedAxis_stopping stopping, stop, Option.map_some, Stop.reverse]
      cases st with
      | mk dest mode rampFrom ramping rampTicks revoked arrived => cases dest <;> rfl

end Sys2Proof.Proofs

/-! ### The requests of a runner -/

namespace Sys2Proof.Laws

open Sys2Proof.Machine Sys2Proof.Safety

/-- Nothing departs where no axis changes and the grant queue stays (R91). -/
theorem passSince_kept {s t : State} (axes : t.axes = s.axes) (queue : t.queue = s.queue) : t.passSince s = t := by
  refine passSince_none ?_
  rw [← departed_self s]
  unfold State.departed
  rw [queue]
  exact congrArg₂ or (congrArg (List.any s.queue) (funext fun q => by rw [show t.ax q.axis = s.ax q.axis by
    unfold State.ax; rw [axes]])) (congrArg (List.any allAxes) (funext fun a => by rw [show t.ax a = s.ax a by
    unfold State.ax; rw [axes]]))

/-! #### PAUSE, RESUME and HALT (R166 to R168) -/

section Requests

variable {u : State} {tag n : Byte} {r : RunnerNo} {run : Run}

theorem pauseTaken_pauses (awake : u.resetting = false) (named : finOf 3 n = some r) (is : u.run r = some run)
    (state : run.state ≠ .halting) :
    pauseTaken tag n u = ((u.pauseFor r .host).passSince u).reply 0x31 tag .ok [] := by
  cases k : run.state <;> simp_all [pauseTaken]

theorem pauseTaken_refuses (awake : u.resetting = false) (named : finOf 3 n = some r)
    (is : u.run r = none ∨ ∃ run, u.run r = some run ∧ run.state = .halting) :
    pauseTaken tag n u = u.reply 0x31 tag .badState [] := by
  rcases is with free | ⟨run, is, state⟩
  · simp only [pauseTaken, awake, named, free]
    rfl
  · simp only [pauseTaken, awake, named, is, state, Option.map_some]
    rfl

theorem haltTaken_halts (awake : u.resetting = false) (named : finOf 3 n = some r) (is : u.run r = some run)
    (state : run.state ≠ .halting) :
    haltTaken tag n u = (u.haltRunner r .aborted).notIdle.reply 0x33 tag .ok [] := by
  cases k : run.state <;> simp_all [haltTaken]

theorem haltTaken_halting (awake : u.resetting = false) (named : finOf 3 n = some r) (is : u.run r = some run)
    (state : run.state = .halting) : haltTaken tag n u = u.reply 0x33 tag .ok [] := by
  simp [haltTaken, awake, named, is, state]

theorem haltTaken_free (awake : u.resetting = false) (named : finOf 3 n = some r) (is : u.run r = none) :
    haltTaken tag n u = u.reply 0x33 tag .badState [] := by
  simp only [haltTaken, awake, named, is]
  rfl

theorem haltRunner_eq (is : u.run r = some run) (kind : EndKind) : u.haltRunner r kind =
    ((u.setRun r (some { run with state := .halting, endKind := some kind })).stopAll run.claim .halt).passSince u := by
  simp only [State.haltRunner, is]

/-- The checks of RESUME on the run of a runner (R167). -/
def resumeChecks (u : State) (run : Run) : Option Result := firstFailure [
  (decide (run.state ≠ .paused), .badState),
  (u.inhibit, .inhibited),
  (run.claim.any (fun a => decide ((u.ax a).motion = .fault)), .faultPending),
  (run.reasons.planError, .badPlan)]

theorem resumeTaken_free (awake : u.resetting = false) (named : finOf 3 n = some r) (is : u.run r = none) :
    resumeTaken tag n u = u.reply 0x32 tag .badState [] := by
  simp only [resumeTaken, awake, named, is]
  rfl

theorem resumeTaken_fails (awake : u.resetting = false) (named : finOf 3 n = some r) (is : u.run r = some run)
    {e : Result} (fails : resumeChecks u run = some e) (plain : e ≠ .badPlan) :
    resumeTaken tag n u = u.reply 0x32 tag e [] := by
  unfold resumeChecks at fails
  simp only [resumeTaken, awake, named, is, fails]
  cases e
  case badPlan => exact absurd rfl plain
  all_goals rfl

theorem resumeTaken_badPlan (awake : u.resetting = false) (named : finOf 3 n = some r) (is : u.run r = some run)
    (fails : resumeChecks u run = some .badPlan) {i : Nat} {c : PlanCause} (error : run.planError = some (i, c)) :
    resumeTaken tag n u = u.reply 0x32 tag .badPlan [BitVec.ofNat 8 i, BitVec.ofNat 8 c.code] := by
  unfold resumeChecks at fails
  simp only [resumeTaken, awake, named, is, fails, error]
  rfl

theorem resumeTaken_resumes (awake : u.resetting = false) (named : finOf 3 n = some r) (is : u.run r = some run)
    (passes : resumeChecks u run = none) :
    resumeTaken tag n u = (u.setRun r (some run.resumed)).notIdle.reply 0x32 tag .ok [] := by
  unfold resumeChecks at passes
  simp only [resumeTaken, awake, named, is, passes]
  rfl

/-- The checks of RESUME in their order (R167). -/
theorem resumeChecks_eq (u : State) (run : Run) : resumeChecks u run =
    if run.state = .paused then
      if u.inhibit = true then some .inhibited
      else if ∀ a ∈ run.claim, (u.ax a).motion ≠ .fault then
        if run.reasons.planError = true then some .badPlan else none
      else some .faultPending
    else some .badState := by
  unfold resumeChecks
  by_cases paused : run.state = .paused
  · rw [if_pos paused, firstFailure_cons, firstFailure_cons,
      firstFailure_any (good := fun a => (u.ax a).motion ≠ .fault) (h := fun a => by simp)]
    simp [paused]
  · simp [paused]

end Requests

/-! #### The activation pass (R158) -/

/-- The least of an ascending list that has an answer gives it, and only that. -/
theorem findSome_eq_some_iff_least {α β : Type} [LinearOrder α] {l : List α} (sorted : l.Pairwise (· < ·))
    (all : ∀ n, n ∈ l) {f : α → Option β} {v : β} :
    l.findSome? f = some v ↔ ∃ n, f n = some v ∧ ∀ m < n, f m = none := by
  refine ⟨fun found => ?_, fun ⟨n, here, below⟩ => findSome_least sorted (all n) here below⟩
  obtain ⟨before, n, after, eq, here, none⟩ := List.findSome?_eq_some_iff.mp found
  refine ⟨n, here, fun m less => none m ?_⟩
  have mem := all m
  rw [eq] at mem sorted
  rcases List.mem_append.mp mem with early | late
  · exact early
  · rcases List.mem_cons.mp late with rfl | late
    · exact absurd less (lt_irrefl _)
    · have := List.rel_of_pairwise_cons (List.pairwise_append.mp sorted).2.1 late
      exact absurd less this.asymm

theorem moveOn_eq_true_iff {s : State} {run : Run} {i : Nat} {a : AxisNo} :
    s.moveOn run i a = true ↔ ∃ e, s.moveEntry run i = some e ∧ a ∈ s.members e.axis := by
  unfold State.moveOn
  cases s.moveEntry run i <;> simp

theorem activeOn_eq_none_iff {s : State} {run : Run} {a : AxisNo} :
    s.activeOn run a = none ↔ ∀ j m e, run.moves[j]? = some m → m.state = .active → s.moveEntry run j = some e →
      a ∉ s.members e.axis := by
  simp only [State.activeOn, List.find?_eq_none, List.mem_range, Bool.and_eq_true, decide_eq_true_eq,
    Option.map_eq_some_iff, moveOn_eq_true_iff]
  constructor
  · intro none j m e is active entry mem
    obtain ⟨less, -⟩ := List.getElem?_eq_some_iff.mp is
    exact none j less ⟨⟨m, is, active⟩, e, entry, mem⟩
  · rintro none j - ⟨⟨m, is, active⟩, e, entry, mem⟩
    exact none j m e is active entry mem

/-- A move that the activation pass takes up, as the statements write it (R158, R159). -/
def TakesUp (s : State) (run : Run) (i : Nat) : Prop :=
  ∃ e m, s.moveEntry run i = some e ∧ run.moves[i]? = some m ∧
    (∀ a ∈ s.members e.axis, (s.ax a).motion = .idle ∧ (s.ax a).lockout = false) ∧
    (m.state = .active ∨ m.state = .ready ∧ ∀ a ∈ s.members e.axis, ∀ j n f, run.moves[j]? = some n → n.state = .active →
      s.moveEntry run j = some f → a ∉ s.members f.axis)

theorem eligible_iff {s : State} {run : Run} {i : Nat} : s.eligible run i = true ↔ TakesUp s run i := by
  unfold State.eligible TakesUp
  cases entry : s.moveEntry run i with
  | none => simp
  | some e =>
    cases is : run.moves[i]? with
    | none => simp
    | some m =>
      have free : ((s.members e.axis).all (fun a => (s.activeOn run a).isNone)) = true ↔ ∀ a ∈ s.members e.axis,
          ∀ j n f, run.moves[j]? = some n → n.state = .active → s.moveEntry run j = some f → a ∉ s.members f.axis := by
        simp only [List.all_eq_true, Option.isNone_iff_eq_none, activeOn_eq_none_iff]
      have still : ((s.members e.axis).all (fun a => decide ((s.ax a).motion = .idle) && !(s.ax a).lockout)) = true ↔
          ∀ a ∈ s.members e.axis, (s.ax a).motion = .idle ∧ (s.ax a).lockout = false := by
        simp
      simp only [Bool.and_eq_true, still, Option.some.injEq, exists_and_left, exists_eq_left']
      cases state : m.state <;> simp [free]

theorem takesUp_lt {s : State} {run : Run} {i : Nat} (h : TakesUp s run i) : i < run.moves.length := by
  obtain ⟨e, m, -, is, -⟩ := h
  exact (List.getElem?_eq_some_iff.mp is).1

/-- What the activation pass finds on one runner (R158). -/
def taken (s : State) (r : RunnerNo) : Option (RunnerNo × Run × Nat) :=
  match s.run r with
  | none => none
  | some run =>
    if run.state = .running then
      ((List.range run.moves.length).find? (fun i => s.eligible run i)).map (fun i => (r, run, i))
    else none

theorem nextMove_eq_taken (s : State) : s.nextMove = allRunners.findSome? (taken s) := rfl

theorem taken_eq_some_iff {s : State} {q r : RunnerNo} {run : Run} {i : Nat} : taken s q = some (r, run, i) ↔
    q = r ∧ s.run q = some run ∧ run.state = .running ∧ TakesUp s run i ∧ ∀ j < i, ¬ TakesUp s run j := by
  unfold taken
  cases is : s.run q with
  | none => simp
  | some own =>
    by_cases running : own.state = .running
    · simp only [running, if_true, Option.map_eq_some_iff, List.find?_range_eq_some, eligible_iff, List.mem_range,
        Bool.not_eq_true', ← Bool.not_eq_true, Prod.mk.injEq, Option.some.injEq]
      constructor
      · rintro ⟨j, ⟨up, -, first⟩, rfl, rfl, rfl⟩
        exact ⟨rfl, rfl, running, up, fun j less later => first j less later⟩
      · rintro ⟨rfl, rfl, -, up, first⟩
        exact ⟨i, ⟨up, takesUp_lt up, fun j less => first j less⟩, rfl, rfl, rfl⟩
    · simp only [running, if_false, reduceCtorEq, Option.some.injEq, false_iff]
      rintro ⟨-, rfl, runs, -⟩
      exact running runs

theorem taken_eq_none_iff {s : State} {q : RunnerNo} : taken s q = none ↔
    ∀ run, s.run q = some run → run.state = .running → ∀ j, ¬ TakesUp s run j := by
  unfold taken
  cases is : s.run q with
  | none => simp
  | some own =>
    by_cases running : own.state = .running
    · simp only [running, if_true, Option.map_eq_none_iff, List.find?_eq_none, List.mem_range, eligible_iff,
        Option.some.injEq, forall_eq', forall_const]
      exact ⟨fun none j up => none j (takesUp_lt up) up, fun none j _ => none j⟩
    · simp [running]

theorem nextMove_eq_some_iff {s : State} {r : RunnerNo} {run : Run} {i : Nat} : s.nextMove = some (r, run, i) ↔
    s.run r = some run ∧ run.state = .running ∧ TakesUp s run i ∧ (∀ j < i, ¬ TakesUp s run j) ∧
      ∀ q < r, ∀ other, s.run q = some other → other.state = .running → ∀ j, ¬ TakesUp s other j := by
  have sorted : allRunners.Pairwise (· < ·) := by decide
  rw [nextMove_eq_taken, findSome_eq_some_iff_least sorted mem_allRunners]
  simp only [taken_eq_some_iff, taken_eq_none_iff]
  constructor
  · rintro ⟨q, ⟨rfl, is, running, up, first⟩, below⟩
    exact ⟨is, running, up, first, below⟩
  · rintro ⟨is, running, up, first, below⟩
    exact ⟨r, ⟨rfl, is, running, up, first⟩, below⟩

section TakeUp

variable {s : State} {r : RunnerNo} {run : Run} {i : Nat} {e : PlanEntry} {m : RunMove}

theorem takeUp_ready (entry : s.moveEntry run i = some e) (is : run.moves[i]? = some m) (state : m.state ≠ .active) :
    s.takeUp r run i = s.activate r run i e := by
  simp only [State.takeUp, entry, is, if_neg state]

theorem takeUp_suspended (entry : s.moveEntry run i = some e) (is : run.moves[i]? = some m) (state : m.state = .active) :
    s.takeUp r run i = s.restart e := by
  simp only [State.takeUp, entry, is, if_pos state]

theorem restart_there (h : (s.reevaluateCreep (s.members e.axis)).standsAtTarget (s.members e.axis) = true) :
    s.restart e = (s.reevaluateCreep (s.members e.axis)).finish (s.members e.axis) .done := if_pos h

theorem restart_away (h : ¬ (s.reevaluateCreep (s.members e.axis)).standsAtTarget (s.members e.axis) = true) :
    s.restart e = (s.reevaluateCreep (s.members e.axis)).startOrBlock (s.members e.axis) := if_neg h

end TakeUp

end Sys2Proof.Laws

/-! ### The runner's requests and the activation pass (R166 to R168, R158) -/

namespace Sys2Proof.Proofs

open Sys2Proof.Machine Sys2Proof.Safety Sys2Proof.Laws

section Requests

variable {u : State} {tag n : Byte} {r : RunnerNo} {run : Run}

theorem pauseTaken_pausing (awake : u.resetting = false) (named : finOf 3 n = some r) (is : u.run r = some run)
    (state : run.state = .pausing) : pauseTaken tag n u =
      (u.setRun r (some { run with reasons := run.reasons.add .host })).reply 0x31 tag .ok [] := by
  rw [pauseTaken_pauses awake named is (by rw [state]; decide), pauseFor_pausing is state]
  exact congrArg (fun t => State.reply t 0x31 tag .ok []) (passSince_kept rfl rfl)

theorem pauseTaken_paused (awake : u.resetting = false) (named : finOf 3 n = some r) (is : u.run r = some run)
    (state : run.state = .paused) : pauseTaken tag n u = (if run.reasons.host = true then u else
      (u.setRun r (some { run with reasons := run.reasons.add .host })).runPaused r
        { run with reasons := run.reasons.add .host }).reply 0x31 tag .ok [] := by
  rw [pauseTaken_pauses awake named is (by rw [state]; decide), pauseFor_paused is state]
  change State.reply (State.passSince (if run.reasons.host = true then _ else _) u) _ _ _ _ = _
  split
  · rw [passSince_self]
  · exact congrArg (fun t => State.reply t 0x31 tag .ok []) (passSince_kept (report_axes _ _) (report_queue _ _))

end Requests

theorem runnerRequests (tag n : Byte) (s : State) (r : RunnerNo) (h : Listens s) (number : n.toNat = r.val) :
    let u := s.frameHeard
    let answers (c : Instr) (k : Byte) (e : Result) := exec c s = .next (State.settle (u.reply k tag e []))
    (u.run r = none → answers (.pause tag n) 0x31 .badState ∧ answers (.resume tag n) 0x32 .badState ∧
      answers (.halt tag n) 0x33 .badState) ∧
    (∀ run, u.run r = some run →
      let asked : Run := { run with reasons := { run.reasons with host := true } }
      let halting : Run := { run with state := .halting, endKind := some .aborted }
      let faulted := ∃ a ∈ run.claim, (u.ax a).motion = .fault
      (run.state = .running → exec (.pause tag n) s = .next (State.settle
        ((((u.setRun r (some { asked with state := .pausing })).stopAll (u.busyAxes run) .pause).passSince u).reply
          0x31 tag .ok []))) ∧
      (run.state = .pausing → exec (.pause tag n) s = .next (State.settle
        ((u.setRun r (some asked)).reply 0x31 tag .ok []))) ∧
      (run.state = .paused → run.reasons.host = true → exec (.pause tag n) s = .next (State.settle
        (u.reply 0x31 tag .ok []))) ∧
      (run.state = .paused → run.reasons.host = false → exec (.pause tag n) s = .next (State.settle
        (((u.setRun r (some asked)).report (.runPaused r run.slot asked.reasons run.firstFault run.planError run.doneCount
          run.elapsed)).reply 0x31 tag .ok []))) ∧
      (run.state = .halting → answers (.pause tag n) 0x31 .badState) ∧
      (run.state ≠ .paused → answers (.resume tag n) 0x32 .badState) ∧
      (run.state = .paused → u.inhibit = true → answers (.resume tag n) 0x32 .inhibited) ∧
      (run.state = .paused → u.inhibit = false → faulted → answers (.resume tag n) 0x32 .faultPending) ∧
      (∀ i c, run.state = .paused → u.inhibit = false → ¬ faulted → run.reasons.planError = true →
        run.planError = some (i, c) → exec (.resume tag n) s = .next (State.settle
          (u.reply 0x32 tag .badPlan [BitVec.ofNat 8 i, BitVec.ofNat 8 c.code]))) ∧
      (run.state = .paused → u.inhibit = false → ¬ faulted → run.reasons.planError = false →
        exec (.resume tag n) s = .next (State.settle ((u.setRun r (some { run with
          state := .running, reasons := ⟨false, false, false, false, false⟩, firstFault := none })).notIdle.reply
            0x32 tag .ok []))) ∧
      (run.state ≠ .halting → exec (.halt tag n) s = .next (State.settle
        (((((u.setRun r (some halting)).stopAll run.claim .halt).passSince u).notIdle).reply 0x33 tag .ok []))) ∧
      (run.state = .halting → answers (.halt tag n) 0x33 .ok)) := by
  have awake := resetting_listens h
  have named : finOf 3 n = some r := finOf_eq_some.mpr number
  intro u answers
  refine ⟨fun free => ⟨exec_answers h rfl (pauseTaken_refuses awake named (.inl free)),
    exec_answers h rfl (resumeTaken_free awake named free), exec_answers h rfl (haltTaken_free awake named free)⟩,
    fun run is => ?_⟩
  intro asked halting faulted
  have checks := resumeChecks_eq u run
  have clear : ¬ faulted → ∀ a ∈ run.claim, (u.ax a).motion ≠ .fault := fun no a mem fault => no ⟨a, mem, fault⟩
  refine ⟨fun state => ?_, fun state => ?_, fun state host => ?_, fun state host => ?_, fun state => ?_, fun state => ?_,
    fun state inhibit => ?_, fun state inhibit fault => ?_, fun i c state inhibit no plan error => ?_,
    fun state inhibit no plan => ?_, fun state => ?_, fun state => ?_⟩
  case refine_1 =>
    refine exec_answers h rfl ?_
    rw [pauseTaken_pauses awake named is (by rw [state]; decide), pauseFor_running is state]
    rfl
  case refine_2 => exact exec_answers h rfl (pauseTaken_pausing awake named is state)
  case refine_3 =>
    refine exec_answers h rfl ((pauseTaken_paused awake named is state).trans ?_)
    rw [if_pos host]
  case refine_4 =>
    refine exec_answers h rfl ((pauseTaken_paused awake named is state).trans ?_)
    rw [if_neg (by rw [host]; decide)]
    rfl
  case refine_5 => exact exec_answers h rfl (pauseTaken_refuses awake named (.inr ⟨run, is, state⟩))
  case refine_6 =>
    rw [if_neg state] at checks
    exact exec_answers h rfl (resumeTaken_fails awake named is checks (by decide))
  case refine_7 =>
    rw [if_pos state, if_pos inhibit] at checks
    exact exec_answers h rfl (resumeTaken_fails awake named is checks (by decide))
  case refine_8 =>
    obtain ⟨a, mem, fault⟩ := fault
    rw [if_pos state, if_neg (by rw [inhibit]; decide), if_neg (fun none => none a mem fault)] at checks
    exact exec_answers h rfl (resumeTaken_fails awake named is checks (by decide))
  case refine_9 =>
    rw [if_pos state, if_neg (by rw [inhibit]; decide), if_pos (clear no), if_pos plan] at checks
    exact exec_answers h rfl (resumeTaken_badPlan awake named is checks error)
  case refine_10 =>
    rw [if_pos state, if_neg (by rw [inhibit]; decide), if_pos (clear no), if_neg (by rw [plan]; decide)] at checks
    exact exec_answers h rfl (resumeTaken_resumes awake named is checks)
  case refine_11 =>
    refine exec_answers h rfl ?_
    rw [haltTaken_halts awake named is state, haltRunner_eq is]
  case refine_12 => exact exec_answers h rfl (haltTaken_halting awake named is state)

/-- Settles O36: each answer is the taken request's equation for the runner's state; the moves that a pass takes up are those
of `TakesUp`, and the first of them goes. -/
theorem pauseResumeHaltActOnTheRunner : Obligations.PauseResumeHaltActOnTheRunner := by
  refine ⟨runnerRequests, fun n s => ⟨rfl, rfl, fun none => passes_none none _, fun r run i next => ?_⟩,
    fun s r run i => ?_, fun s r run i e m entry is => ?_, fun s run => rfl⟩
  · rw [State.passes, next]
  · exact nextMove_eq_some_iff.trans (and_congr Iff.rfl (and_congr Iff.rfl (and_congr Iff.rfl (and_congr Iff.rfl
      ⟨fun h q other less => h q less other, fun h q less other => h q other less⟩))))
  · intro as creep there
    have crept : creep s = s.reevaluateCreep as := (reevaluateCreep_eq s as).symm
    have stands : there ↔ (s.reevaluateCreep as).standsAtTarget as = true := by
      rw [standsAtTarget_iff, ← crept]
      refine forall₂_congr fun a _ => ⟨?_, ?_⟩
      · rintro ⟨v, p, move, pos, flag, homing, near⟩
        exact ⟨v, move, flag, homing, p, pos, near⟩
      · rintro ⟨v, move, flag, homing, p, pos, near⟩
        exact ⟨v, p, move, pos, flag, homing, near⟩
    rw [crept]
    exact ⟨takeUp_ready entry is,
      fun active at_target => (takeUp_suspended entry is active).trans (restart_there (stands.mp at_target)),
      fun active away => (takeUp_suspended entry is active).trans (restart_away (fun h => away (stands.mpr h)))⟩

end Sys2Proof.Proofs

/-! ### Gates, marks and the completion of a move -/

namespace Sys2Proof.Laws

open Sys2Proof.Machine Sys2Proof.Safety

/-! #### Judging (R142, R157) -/

/-- A move of a run after its gates are judged: `i` is its index. -/
def judgeMove (s : State) (run : Run) (f : Gate → GateState → GateState) (i : Nat) (m : RunMove) : RunMove :=
  match m.state with
  | .pending =>
    let gates := List.zipWith f (((s.moveEntry run i).map PlanEntry.gates).getD []) m.gates
    { state := if gates.all (fun g => decide (g = .opened)) then .ready else .pending, gates := gates }
  | .ready | .active | .done _ => m

theorem judgeMove_of_not_pending {s : State} {run : Run} {f : Gate → GateState → GateState} {i : Nat} {m : RunMove}
    (h : m.state ≠ .pending) : judgeMove s run f i m = m := by
  unfold judgeMove
  cases k : m.state
  case pending => exact absurd k h
  all_goals rfl

theorem judgeMove_pending {s : State} {run : Run} {f : Gate → GateState → GateState} {i : Nat} {m : RunMove}
    (h : m.state = .pending) :
    let m' := judgeMove s run f i m
    m'.gates = List.zipWith f (((s.moveEntry run i).map PlanEntry.gates).getD []) m.gates ∧
      (m'.state = .ready ↔ ∀ g ∈ m'.gates, g = .opened) ∧ (m'.state = .ready ∨ m'.state = .pending) := by
  unfold judgeMove
  rw [h]
  refine ⟨rfl, ?_, ?_⟩
  · simp
  · dsimp only
    split
    · exact .inl rfl
    · exact .inr rfl

theorem judgeMoves_getElem? (s : State) (run : Run) (f : Gate → GateState → GateState) (ms : List RunMove) (k i : Nat) :
    (s.judgeMoves run f k ms)[i]? = ms[i]?.map (judgeMove s run f (k + i)) := by
  induction ms generalizing k i with
  | nil => rfl
  | cons m ms ih =>
    cases i with
    | zero => rfl
    | succ i => exact (ih (k + 1) i).trans (by rw [Nat.add_right_comm]; rfl)

theorem judgeMoves_congr {s t : State} (places : t.places = s.places) (slots : t.slots = s.slots) (run : Run)
    (f : Gate → GateState → GateState) (k : Nat) (ms : List RunMove) :
    t.judgeMoves run f k ms = s.judgeMoves run f k ms := by
  refine List.ext_getElem? fun i => ?_
  rw [judgeMoves_getElem?, judgeMoves_getElem?]
  have entry : t.moveEntry run = s.moveEntry run := by
    funext j
    unfold State.moveEntry
    rw [places, slots]
  exact congrArg (Option.map · ms[i]?) (funext fun m => by unfold judgeMove; rw [entry])

section JudgeRun

variable {s : State} {r : RunnerNo} {f : Gate → GateState → GateState}

theorem judgeRun_free (h : s.run r = none) : s.judgeRun r f = s := by
  simp only [State.judgeRun, h]

theorem judgeRun_eq {run : Run} (h : s.run r = some run) : s.judgeRun r f =
    if run.state = .halting then s else s.setRun r (some { run with moves := s.judgeMoves run f 0 run.moves }) := by
  simp only [State.judgeRun, h]

theorem setRun_self (s : State) (r : RunnerNo) : s.setRun r (s.run r) = s :=
  congrArg (fun v => { s with runners := v }) (Vector.set_getElem_self r.isLt)

/-- Judging changes the record of one runner and nothing else. -/
theorem judgeRun_runners (s : State) (r : RunnerNo) (f : Gate → GateState → GateState) :
    ∃ o, s.judgeRun r f = s.setRun r o := by
  cases is : s.run r with
  | none =>
    refine ⟨none, ?_⟩
    rw [judgeRun_free is, ← is]
    exact (setRun_self s r).symm
  | some run =>
    rw [judgeRun_eq is]
    split
    · exact ⟨some run, by rw [← is]; exact (setRun_self s r).symm⟩
    · exact ⟨_, rfl⟩

theorem judgeRun_run_ne {q : RunnerNo} (h : r ≠ q) : (s.judgeRun q f).run r = s.run r := by
  obtain ⟨o, eq⟩ := judgeRun_runners s q f
  rw [eq, run_setRun_ne s o h]

theorem judgeRun_run_congr {t : State} (run : t.run r = s.run r) (places : t.places = s.places) (slots : t.slots = s.slots) :
    (t.judgeRun r f).run r = (s.judgeRun r f).run r := by
  cases is : s.run r with
  | none => rw [judgeRun_free is, judgeRun_free (run.trans is), run]
  | some own =>
    rw [judgeRun_eq is, judgeRun_eq (run.trans is), judgeMoves_congr places slots]
    split
    · exact run
    · rw [run_setRun_self, run_setRun_self]

theorem judgeRun_places (s : State) (r : RunnerNo) (f : Gate → GateState → GateState) :
    (s.judgeRun r f).places = s.places := by
  obtain ⟨o, eq⟩ := judgeRun_runners s r f
  rw [eq, setRun_places]

theorem judgeRun_slots (s : State) (r : RunnerNo) (f : Gate → GateState → GateState) :
    (s.judgeRun r f).slots = s.slots := by
  obtain ⟨o, eq⟩ := judgeRun_runners s r f
  rw [eq, setRun_slots]

end JudgeRun

theorem judgeAll_eq (s : State) (f : Gate → GateState → GateState) :
    s.judgeAll f = ((s.judgeRun 0 f).judgeRun 1 f).judgeRun 2 f := rfl

/-- Each runner judges its own gates alone (log 59). -/
theorem judgeAll_run (s : State) (f : Gate → GateState → GateState) (r : RunnerNo) :
    (s.judgeAll f).run r = (s.judgeRun r f).run r := by
  rw [judgeAll_eq]
  fin_cases r
  · exact (judgeRun_run_ne (by decide)).trans (judgeRun_run_ne (by decide))
  · exact (judgeRun_run_ne (by decide)).trans
      (judgeRun_run_congr (judgeRun_run_ne (by decide)) (judgeRun_places s 0 f) (judgeRun_slots s 0 f))
  · exact judgeRun_run_congr ((judgeRun_run_ne (by decide)).trans (judgeRun_run_ne (by decide)))
      ((judgeRun_places _ 1 f).trans (judgeRun_places s 0 f)) ((judgeRun_slots _ 1 f).trans (judgeRun_slots s 0 f))

/-! #### The gates (R142 to R145) -/

theorem afterDone_closed_after (k j d : Nat) :
    afterDone k (.after j d) .closed = if j = k then (if d = 0 then .opened else .timing d) else .closed := rfl

theorem afterDone_closed_other {k : Nat} {g : Gate} (h : ∀ j d, g ≠ .after j d) : afterDone k g .closed = .closed := by
  cases g
  case after j d => exact absurd rfl (h j d)
  all_goals rfl

theorem afterDone_decided (k n : Nat) (g : Gate) :
    afterDone k g .opened = .opened ∧ afterDone k g (.timing n) = .timing n := by
  cases g <;> exact ⟨rfl, rfl⟩

theorem whenHolds_whenGe {a b : AxisNo} {p : Nat} {pos : Option Nat} :
    whenHolds a pos (.whenGe b p) = true ↔ b = a ∧ ∃ q, pos = some q ∧ p ≤ q := by
  cases pos <;> simp [whenHolds]

theorem whenHolds_whenLe {a b : AxisNo} {p : Nat} {pos : Option Nat} :
    whenHolds a pos (.whenLe b p) = true ↔ b = a ∧ ∃ q, pos = some q ∧ q ≤ p := by
  cases pos <;> simp [whenHolds]

theorem whenHolds_other {a : AxisNo} {pos : Option Nat} {g : Gate} (ge : ∀ c q, g ≠ .whenGe c q)
    (le : ∀ c q, g ≠ .whenLe c q) : whenHolds a pos g = false := by
  cases g
  case whenGe c q => exact absurd rfl (ge c q)
  case whenLe c q => exact absurd rfl (le c q)
  all_goals rfl

/-! #### The completion of a move (R160, R161) -/

section Completion

variable {s : State} {r : RunnerNo} {run : Run} {i : Nat} {o : MoveOutcome} {fins : List FinalPos}

theorem doneCount_eq_countP (run : Run) : run.doneCount = run.moves.countP (fun m => match m.state with
    | .done _ => true
    | .pending | .ready | .active => false) :=
  List.countP_eq_length_filter.symm

theorem allDone_iff {run : Run} : run.allDone = true ↔ ∀ m ∈ run.moves, ∃ e, m.state = .done e := by
  rw [Run.allDone, decide_eq_true_eq, doneCount_eq_countP, List.countP_eq_length]
  refine forall₂_congr fun m _ => ?_
  cases m.state <;> simp

/-- A move is DONE, its mark is set and its MOVE_END is sent: the steps that a HALTING runner takes too (R160). -/
def moveTold (s : State) (r : RunnerNo) (run : Run) (i : Nat) (o : MoveOutcome) (fins : List FinalPos) : State :=
  State.report ((s.setRun r (some (run.setMove i (.done o)))).setDoneMark run i) (.moveEnd r run.slot i o fins run.elapsed)

theorem completeMove_halting (is : s.run r = some run) (halts : run.state = .halting) :
    s.completeMove r i o fins = moveTold s r run i o fins := by
  simp only [State.completeMove, is, if_pos halts]
  rfl

theorem completeMove_last (is : s.run r = some run) (goes : run.state ≠ .halting) {now : Run}
    (judged : ((moveTold s r run i o fins).judgeRun r (afterDone i)).run r = some now) (last : now.allDone = true) :
    s.completeMove r i o fins = ((moveTold s r run i o fins).judgeRun r (afterDone i)).endRun r .complete := by
  unfold moveTold at judged ⊢
  simp only [State.completeMove, is, if_neg goes, judged, last, if_true]

theorem completeMove_more (is : s.run r = some run) (goes : run.state ≠ .halting) {now : Run}
    (judged : ((moveTold s r run i o fins).judgeRun r (afterDone i)).run r = some now) (more : now.allDone ≠ true) :
    s.completeMove r i o fins = (moveTold s r run i o fins).judgeRun r (afterDone i) := by
  unfold moveTold at judged ⊢
  simp only [State.completeMove, is, if_neg goes, judged, more]
  rfl

theorem setDoneMark_none (h : (s.moveEntry run i).bind PlanEntry.setMark = none) : s.setDoneMark run i = s := by
  simp only [State.setDoneMark, h]

theorem setDoneMark_some {m : MarkNo} (h : (s.moveEntry run i).bind PlanEntry.setMark = some m) :
    s.setDoneMark run i = s.setMark m := by
  simp only [State.setDoneMark, h]

theorem endRun_free (is : s.run r = none) (kind : EndKind) : s.endRun r kind = s := by
  simp only [State.endRun, is]

theorem endRun_eq (is : s.run r = some run) (kind : EndKind) : s.endRun r kind =
    ((s.report (.runEnd r run.slot kind run.elapsed run.doneCount run.moves.length run.firstFault)).modAll run.claim
      (fun x => { x with owner := .none, escalated := false })).setRun r none := by
  simp only [State.endRun, is]

end Completion

/-! #### The owner told of an outcome (R46, R79) -/

section Told

variable {s : State} {a : AxisNo} {o : MoveOutcome} {fins : List FinalPos}

theorem tellOutcome_unowned (owner : (s.ax a).owner = .none) : s.tellOutcome a o fins = s := by
  simp only [State.tellOutcome, owner]

theorem tellOutcome_link {op : LinkOp} (owner : (s.ax a).owner = .link op) : s.tellOutcome a o fins =
    s.modOp a (fun op => if op.result.isSome then op else { op with result := some (o, none), window := none }) := by
  simp only [State.tellOutcome, owner]

theorem tellOutcome_free {r : RunnerNo} (owner : (s.ax a).owner = .runner r) (is : s.run r = none) :
    s.tellOutcome a o fins = s := by
  simp only [State.tellOutcome, owner, is, Option.bind_none]

theorem tellOutcome_idle {r : RunnerNo} {run : Run} (owner : (s.ax a).owner = .runner r) (is : s.run r = some run)
    (none : s.activeOn run a = none) : s.tellOutcome a o fins = s := by
  simp only [State.tellOutcome, owner, is, Option.bind_some, none]

theorem tellOutcome_active {r : RunnerNo} {run : Run} {i : Nat} (owner : (s.ax a).owner = .runner r) (is : s.run r = some run)
    (active : s.activeOn run a = some i) : s.tellOutcome a o fins = s.completeMove r i o fins := by
  simp only [State.tellOutcome, owner, is, Option.bind_some, active]

end Told

theorem activeOn_eq_some_iff {s : State} {run : Run} {a : AxisNo} {i : Nat} :
    let active (i : Nat) := ∃ m e, run.moves[i]? = some m ∧ m.state = .active ∧ s.moveEntry run i = some e ∧
      a ∈ s.members e.axis
    s.activeOn run a = some i ↔ active i ∧ ∀ j < i, ¬ active j := by
  intro active
  have holds (j : Nat) : (decide ((run.moves[j]?.map RunMove.state) = some .active) && s.moveOn run j a) = true ↔
      active j := by
    simp only [Bool.and_eq_true, decide_eq_true_eq, Option.map_eq_some_iff, moveOn_eq_true_iff, active]
    exact ⟨fun ⟨⟨m, is, state⟩, e, entry, mem⟩ => ⟨m, e, is, state, entry, mem⟩,
      fun ⟨m, e, is, state, entry, mem⟩ => ⟨⟨m, is, state⟩, e, entry, mem⟩⟩
  have less (h : active i) : i < run.moves.length := by
    obtain ⟨m, e, is, -⟩ := h
    exact (List.getElem?_eq_some_iff.mp is).1
  simp only [State.activeOn, List.find?_range_eq_some, List.mem_range, holds, Bool.not_eq_true', ← Bool.not_eq_true]
  exact ⟨fun ⟨h, _, first⟩ => ⟨h, first⟩, fun ⟨h, first⟩ => ⟨h, less h, first⟩⟩

/-- A move at its end: the outcome goes to the owner with the final positions of the axes that the named one moves (R46,
R79). -/
theorem finish_cons (s : State) (a : AxisNo) (rest : List AxisNo) (o : MoveOutcome) : s.finish (a :: rest) o =
    ((s.modAll (a :: rest) (Axis.toIdle false)).passSince s).tellOutcome a o (s.finals (s.namedOf a)) := rfl

theorem finals_eq (s : State) (named : AxisNo) : s.finals named = (named :: (s.partner named).toList).map
    (fun b => ⟨b, (s.ax b).pos, match (s.ax b).move with
      | some m => m.corrections
      | none => 0⟩) := by
  refine congrArg (List.map · (named :: (s.partner named).toList)) (funext fun b => ?_)
  cases (s.ax b).move <;> rfl

/-! #### MARK (R149, R150) -/

section Mark

variable {u : State} {tag mark action : Byte} {m : MarkNo}

theorem markTaken_clears (awake : u.resetting = false) (named : finOf 8 mark = some m) (clears : flagOf action = some true) :
    markTaken tag mark action u = (u.clearMark m).reply 0x34 tag .ok [(u.clearMark m).marks] := by
  simp only [markTaken, awake, named, clears]
  rfl

theorem markTaken_sets (awake : u.resetting = false) (named : finOf 8 mark = some m) (sets : flagOf action = some false) :
    markTaken tag mark action u = (u.setMark m).engine.reply 0x34 tag .ok [(u.setMark m).engine.marks] := by
  simp only [markTaken, awake, named, sets]
  rfl

theorem markTaken_badArg (awake : u.resetting = false) (out : flagOf action = none) :
    markTaken tag mark action u = u.reply 0x34 tag .badArg [] := by
  cases named : finOf 8 mark <;> simp [markTaken, State.refuse, awake, named, out]

theorem setMark_set (h : u.marks.getLsbD m.val = true) : u.setMark m = u := if_pos h

theorem setMark_clear (h : u.marks.getLsbD m.val = false) : u.setMark m =
    ({ u with marks := u.marks ||| BitVec.ofNat 8 (1 <<< m.val) } : State).judgeAll (openIf (namesMark m)) :=
  if_neg (by rw [State.markSet, h]; decide)

end Mark

end Sys2Proof.Laws

/-! ### Gates, marks and the completion of a move (R142 to R161) -/

namespace Sys2Proof.Proofs

open Sys2Proof.Machine Sys2Proof.Safety Sys2Proof.Laws

theorem markAnswers (tag mark action : Byte) (s : State) (m : MarkNo) (h : Listens s) (number : mark.toNat = m.val) :
    let u := s.frameHeard
    let one : BitVec 8 := BitVec.ofNat 8 (1 <<< m.val)
    (action = 1 → exec (.mark tag mark action) s = .next (State.settle
      (State.reply { u with marks := u.marks &&& ~~~one } 0x34 tag .ok [u.marks &&& ~~~one]))) ∧
    (action = 0 → u.marks.getLsbD m.val = true →
      exec (.mark tag mark action) s = .next (State.settle (u.engine.reply 0x34 tag .ok [u.engine.marks]))) ∧
    (action = 0 → u.marks.getLsbD m.val = false →
      let v := State.engine (({ u with marks := u.marks ||| one } : State).judgeAll (openIf (namesMark m)))
      exec (.mark tag mark action) s = .next (State.settle (v.reply 0x34 tag .ok [v.marks]))) ∧
    (2 ≤ action.toNat → exec (.mark tag mark action) s = .next (State.settle (u.reply 0x34 tag .badArg []))) := by
  have awake := resetting_listens h
  have named : finOf 8 mark = some m := finOf_eq_some.mpr number
  intro u one
  refine ⟨?_, ?_, ?_, fun out => exec_answers h rfl (markTaken_badArg awake (flagOf_eq_none.mpr out))⟩
  · rintro rfl
    exact exec_answers h rfl (markTaken_clears awake named (by decide))
  · rintro rfl set
    refine exec_answers h rfl ((markTaken_sets awake named (by decide)).trans ?_)
    rw [setMark_set set]
  · rintro rfl clear
    refine exec_answers h rfl ((markTaken_sets awake named (by decide)).trans ?_)
    rw [setMark_clear clear]

theorem completionOfMove (s : State) (r : RunnerNo) (run : Run) (i : Nat) (o : MoveOutcome) (fins : List FinalPos)
    (is : s.run r = some run) (told : State) (steps : told = moveTold s r run i o fins) :
    let judged := told.judgeRun r (afterDone i)
    (run.state = .halting → s.completeMove r i o fins = told) ∧
    (run.state ≠ .halting → ∀ now, judged.run r = some now →
      ((∀ m ∈ now.moves, ∃ e, m.state = .done e) → s.completeMove r i o fins = judged.endRun r .complete) ∧
      ((∃ m ∈ now.moves, ∀ e, m.state ≠ .done e) → s.completeMove r i o fins = judged)) := by
  subst steps
  intro judged
  refine ⟨completeMove_halting is, fun goes now runs => ⟨fun last => completeMove_last is goes runs (allDone_iff.mpr last),
    fun ⟨m, mem, more⟩ => completeMove_more is goes runs fun all => ?_⟩⟩
  obtain ⟨e, done⟩ := allDone_iff.mp all m mem
  exact more e done

theorem tellOutcome_told (s : State) (a : AxisNo) (o : MoveOutcome) (fins : List FinalPos) :
    ((s.ax a).owner = .none → s.tellOutcome a o fins = s) ∧
    (∀ op, (s.ax a).owner = .link op → s.tellOutcome a o fins = s.modAll (s.members a) (fun x => match x.owner with
      | .link p => if p.result = none then { x with owner := .link { p with result := some (o, none), window := none } } else x
      | .none | .runner _ => x)) ∧
    (∀ r, (s.ax a).owner = .runner r →
      (s.run r = none → s.tellOutcome a o fins = s) ∧
      (∀ run, s.run r = some run →
        (s.activeOn run a = none → s.tellOutcome a o fins = s) ∧
        (∀ i, s.activeOn run a = some i → s.tellOutcome a o fins = s.completeMove r i o fins))) := by
  refine ⟨tellOutcome_unowned, fun op owner => (tellOutcome_link owner).trans ?_, fun r owner => ⟨tellOutcome_free owner,
    fun run is => ⟨tellOutcome_idle owner is, fun i => tellOutcome_active owner is⟩⟩⟩
  refine congrArg (s.modAll (s.members a)) (funext fun x => ?_)
  cases w : x.owner with
  | none => rfl
  | runner r => rfl
  | link p =>
    dsimp only
    cases result : p.result
    · rw [if_neg (by decide), if_pos rfl]
    · simp only [Option.isSome_some, if_true, reduceCtorEq, if_false, ← w]

/-- Settles O35: judging walks the moves of one run, and each clause is the equation of its function on one case. -/
theorem gatesAndMarks : Obligations.GatesAndMarks := by
  refine ⟨fun s run cond i m is => ?_, ⟨fun cond g n => ⟨rfl, rfl, rfl⟩,
    fun k j d n g => ⟨afterDone_closed_after k j d, afterDone_closed_other, afterDone_decided k n g⟩,
    fun a b p pos => ⟨whenHolds_whenGe, whenHolds_whenLe, fun g => whenHolds_other⟩⟩,
    fun s r f => ⟨judgeRun_free, fun run is => judgeRun_eq is⟩, fun s r run i o fins is => ?_, fun s m => rfl,
    markAnswers, fun s run a i => activeOn_eq_some_iff, tellOutcome_told, fun s a rest o => ?_,
    fun s f => ⟨judgeAll_eq s f, judgeAll_run s f⟩, fun s r kind => ⟨fun is => endRun_free is kind,
      fun run is => endRun_eq is kind⟩, fun s run i a => ⟨doneCount_eq_countP run, fun k at_k => ?_, moveOn_eq_true_iff⟩⟩
  · refine ⟨judgeMove s run (openIf cond) i m, ?_, judgeMove_of_not_pending, judgeMove_pending⟩
    rw [judgeMoves_getElem?, is, Nat.zero_add]
    rfl
  · cases mark : (s.moveEntry run i).bind PlanEntry.setMark with
    | none =>
      exact completionOfMove s r run i o fins is _ (congrArg (fun t => State.report t _)
        (setDoneMark_none (s := s.setRun r _) mark).symm)
    | some m =>
      exact completionOfMove s r run i o fins is _ (congrArg (fun t => State.report t _)
        (setDoneMark_some (s := s.setRun r _) mark).symm)
  · rw [finish_cons, finals_eq]
    rfl
  · rw [State.moveEntry, ← at_k, Vector.getElem?_eq_getElem k.isLt]
    rfl

end Sys2Proof.Proofs

/-! ### RUN and the activation of a move -/

namespace Sys2Proof.Laws

open Sys2Proof.Machine Sys2Proof.Safety

/-! #### The claims (R155) -/

theorem mem_members_iff {s : State} {a b : AxisNo} : b ∈ s.members a ↔ a = b ∨ s.partner a = some b := by
  cases partner : s.partner a with
  | none => simp [members_alone partner, eq_comm]
  | some c =>
    rw [members_gang partner]
    split <;> simp [eq_comm, or_comm]

theorem mem_claimSet {s : State} {d : Slot} {a : AxisNo} : a ∈ s.claimSet d ↔
    ∃ i e, i < d.length ∧ s.slotEntry d i = some e ∧ (e.axis = a ∨ s.partner e.axis = some a) := by
  simp only [State.claimSet, List.mem_filter, mem_allAxes, true_and, List.any_eq_true, List.mem_range]
  refine exists_congr fun i => ?_
  cases s.slotEntry d i <;> simp [mem_members_iff]

theorem claimSet_sorted (s : State) (d : Slot) : (s.claimSet d).Pairwise (· < ·) :=
  List.Pairwise.filter _ (by decide)

theorem claimSet_nodup (s : State) (d : Slot) : (s.claimSet d).Nodup := nodup_allAxes.filter _

theorem freeRunner_eq_some {s : State} {r : RunnerNo} :
    s.freeRunner = some r ↔ s.run r = none ∧ ∀ q < r, s.run q ≠ none := by
  have e : allRunners = List.finRange 3 := by decide
  rw [State.freeRunner, e, ← Fin.find?_eq_find?_finRange, Fin.find?_eq_some_iff]
  simp only [Option.isNone_iff_eq_none, ← Bool.not_eq_true, ne_eq]

theorem freeRunner_eq_none {s : State} : s.freeRunner = none ↔ ∀ r, s.run r ≠ none := by
  simp [State.freeRunner, List.find?_eq_none, mem_allRunners]

/-! #### The start of a run (R142, R156) -/

theorem setRun_modAll (s : State) (r : RunnerNo) (x : Option Run) (as : List AxisNo) (f : Axis → Axis) :
    (s.setRun r x).modAll as f = (s.modAll as f).setRun r x := by
  induction as generalizing s with
  | nil => rfl
  | cons a as ih => exact ih (s.modAx a f)

/-- What the first judging opens: a MARK gate whose mark is set, a WHEN gate whose condition holds (R142). -/
def opensFirst (s : State) (g : Gate) : Bool := match g with
  | .mark m => s.markSet m
  | .whenGe a _ | .whenLe a _ => whenHolds a (s.ax a).pos g
  | .after _ _ => false

/-- A move after the first judging, its gates all CLOSED before. -/
def firstMove (s : State) (d : Slot) (opens : Gate → Bool) (i : Nat) : RunMove :=
  match s.slotEntry d i with
  | some e => ⟨if e.gates.all opens then .ready else .pending, e.gates.map (fun g => if opens g then .opened else .closed)⟩
  | none => ⟨.ready, []⟩

theorem zipWith_map_closed (opens : Gate → Bool) (gs : List Gate) :
    List.zipWith (openIf opens) gs (gs.map (fun _ => .closed)) = gs.map (fun g => if opens g then .opened else .closed) := by
  induction gs with
  | nil => rfl
  | cons g gs ih => exact congrArg (_ :: ·) ih

theorem judgeMove_first (s : State) (run : Run) (opens : Gate → Bool) (i : Nat) :
    judgeMove s run (openIf opens) i ⟨.pending, (((s.moveEntry run i).map PlanEntry.gates).getD []).map (fun _ => .closed)⟩ =
      firstMove s s.slots[run.slot] opens i := by
  have entry : s.moveEntry run i = s.slotEntry s.slots[run.slot] i := rfl
  unfold judgeMove firstMove
  rw [entry]
  cases s.slotEntry s.slots[run.slot] i with
  | none => rfl
  | some e =>
    dsimp only [Option.map_some, Option.getD_some]
    rw [zipWith_map_closed]
    have all : (e.gates.map (fun g => if opens g then GateState.opened else .closed)).all (fun g => decide (g = .opened)) =
        e.gates.all opens := by
      rw [List.all_map]
      refine congrArg e.gates.all (funext fun g => ?_)
      cases h : opens g <;> simp [h]
    rw [all]

theorem judgeMoves_first (s : State) (run : Run) (opens : Gate → Bool) (n : Nat) :
    s.judgeMoves run (openIf opens) 0 ((List.range n).map (fun i =>
      ⟨.pending, (((s.moveEntry run i).map PlanEntry.gates).getD []).map (fun _ => .closed)⟩)) =
      (List.range n).map (firstMove s s.slots[run.slot] opens) := by
  refine List.ext_getElem? fun i => ?_
  rw [judgeMoves_getElem?, List.getElem?_map, List.getElem?_map, Option.map_map, Nat.zero_add]
  cases is : (List.range n)[i]? with
  | none => rfl
  | some j =>
    obtain ⟨less, eq⟩ := List.getElem?_eq_some_iff.mp is
    rw [List.getElem_range] at eq
    subst eq
    exact congrArg some (judgeMove_first s run opens i)

/-- The state of a run that starts, its moves given. -/
def startedRun (u : State) (r : RunnerNo) (n : SlotNo) (moves : List RunMove) : State :=
  { u.modAll (u.claimSet u.slots[n]) (fun x => { x with owner := .runner r }) with
    marks := u.marks &&& ~~~u.slots[n].clearMarks
    runners := u.runners.set r (some { u.newRun n with moves := moves })
    power := { u.power with dwell := none, state := if u.power.state = .doze then .active else u.power.state } }

theorem startedRun_run (u : State) (r : RunnerNo) (n : SlotNo) (moves : List RunMove) :
    (startedRun u r n moves).run r = some { u.newRun n with moves := moves } := by
  simp [startedRun, State.run]

theorem startedRun_setRun (u : State) (r : RunnerNo) (n : SlotNo) (before moves : List RunMove) :
    (startedRun u r n before).setRun r (some { u.newRun n with moves := moves }) = startedRun u r n moves := by
  simp [startedRun, State.setRun]

theorem startedRun_slotEntry (u : State) (r : RunnerNo) (n : SlotNo) (moves : List RunMove) :
    (startedRun u r n moves).slotEntry = u.slotEntry := by
  funext d i
  exact congrArg (fun places : Vector (Option PlanEntry) 64 => (places[d.start + i]?).join) (modAll_places _ _ _)

theorem startedRun_slots (u : State) (r : RunnerNo) (n : SlotNo) (moves : List RunMove) :
    (startedRun u r n moves).slots = u.slots := modAll_slots _ _ _

/-- The state that a run starts from, before the first judging. -/
theorem startRun_unjudged (u : State) (r : RunnerNo) (n : SlotNo) :
    u.startRun r n = (startedRun u r n (u.newRun n).moves).firstJudging r := by
  refine congrArg (fun t => State.firstJudging t r) ?_
  simp only [setRun_modAll, setRun_marks, setRun_slots, modAll_marks, modAll_slots]
  simp only [State.notIdle, startedRun, State.setRun, modAll_runners, modAll_power, modAll_slots]
  rfl

theorem startRun_eq (u : State) (r : RunnerNo) (n : SlotNo) : u.startRun r n = startedRun u r n
    ((List.range u.slots[n].length).map (firstMove u u.slots[n] (opensFirst (startedRun u r n (u.newRun n).moves)))) := by
  have judging (w : State) : w.firstJudging r = w.judgeRun r (openIf (opensFirst w)) := rfl
  have running : (u.newRun n).state ≠ .halting := RunState.noConfusion
  rw [startRun_unjudged, judging]
  generalize opens : opensFirst (startedRun u r n (u.newRun n).moves) = f
  have entries := startedRun_slotEntry u r n (u.newRun n).moves
  have slots := startedRun_slots u r n (u.newRun n).moves
  have first := judgeMoves_first (startedRun u r n (u.newRun n).moves) (u.newRun n) f u.slots[n].length
  have entry : (startedRun u r n (u.newRun n).moves).moveEntry (u.newRun n) = u.slotEntry u.slots[n] := by
    rw [← entries]
    exact congrArg (fun d : Vector Slot 8 => (startedRun u r n (u.newRun n).moves).slotEntry d[n]) slots
  have same : firstMove (startedRun u r n (u.newRun n).moves) (startedRun u r n (u.newRun n).moves).slots[n] f =
      firstMove u u.slots[n] f := by
    rw [slots]
    funext i
    unfold firstMove
    rw [entries]
  refine (judgeRun_eq (startedRun_run u r n _)).trans ((if_neg running).trans
    ((startedRun_setRun u r n _ _).trans (congrArg (startedRun u r n) ?_)))
  rw [← same]
  rw [entry] at first
  exact first

/-! #### The answers of RUN (R154) -/

section Answers

variable {u : State} {tag slot : Byte} {n : SlotNo}

theorem runTaken_undefined (awake : u.resetting = false) (named : finOf 8 slot = some n) (empty : u.slots[n].length = 0) :
    runTaken tag slot u = u.reply 0x30 tag .badArg [] := by
  simp only [runTaken, awake, named, if_pos empty]
  rfl

theorem runTaken_badPlan (awake : u.resetting = false) (named : finOf 8 slot = some n) (defined : u.slots[n].length ≠ 0)
    {i : Nat} {c : BadPlan} (fails : u.validate u.slots[n] = some (i, c)) :
    runTaken tag slot u = u.reply 0x30 tag .badPlan [BitVec.ofNat 8 i, BitVec.ofNat 8 c.code] := by
  simp only [runTaken, awake, named, if_neg defined, fails]
  rfl

/-- The checks of RUN on the claimed axes (R154). -/
def runChecks (u : State) (claim : List AxisNo) : Option Result := firstFailure [
  (u.inhibit, .inhibited),
  (claim.any (fun a => decide ((u.ax a).owner ≠ .none)), .claimed),
  (claim.any (fun a => decide ((u.ax a).motion = .fault)), .faultPending)]

theorem runChecks_eq (u : State) (claim : List AxisNo) : runChecks u claim =
    if u.inhibit = true then some .inhibited
    else if ∀ a ∈ claim, (u.ax a).owner = .none then
      if ∀ a ∈ claim, (u.ax a).motion ≠ .fault then none else some .faultPending
    else some .claimed := by
  unfold runChecks
  rw [firstFailure_cons, firstFailure_any (good := fun a => (u.ax a).owner = .none) (h := fun a => by simp),
    firstFailure_any (good := fun a => (u.ax a).motion ≠ .fault) (h := fun a => by simp), firstFailure_nil]

variable (awake : u.resetting = false) (named : finOf 8 slot = some n)
  (valid : u.slots[n].length ≠ 0 ∧ u.validate u.slots[n] = none)

include awake named valid

theorem runTaken_fails {e : Result} (fails : runChecks u (u.claimSet u.slots[n]) = some e) :
    runTaken tag slot u = u.reply 0x30 tag e [] := by
  unfold runChecks at fails
  simp only [runTaken, awake, named, if_neg valid.1, valid.2, fails]
  rfl

theorem runTaken_noRunner (passes : runChecks u (u.claimSet u.slots[n]) = none) (full : u.freeRunner = none) :
    runTaken tag slot u = u.reply 0x30 tag .noRunner [] := by
  unfold runChecks at passes
  simp only [runTaken, awake, named, if_neg valid.1, valid.2, passes, full]
  rfl

theorem runTaken_starts (passes : runChecks u (u.claimSet u.slots[n]) = none) {r : RunnerNo} (free : u.freeRunner = some r) :
    runTaken tag slot u = (u.startRun r n).reply 0x30 tag .ok [BitVec.ofNat 8 r.val] := by
  unfold runChecks at passes
  simp only [runTaken, awake, named, if_neg valid.1, valid.2, passes, free]
  rfl

end Answers

/-! #### What a target resolves to (R31, R71) -/

section Resolve

variable {s : State} {a : AxisNo} {g : Target}

theorem resolve_unreferenced (low : g ≠ .endLow) (high : g ≠ .endHigh)
    (unknown : ∃ b ∈ s.members a, (s.ax b).ref = .unknown) : s.resolve a g = .error .unreferenced := by
  have any : (s.members a).any (fun b => decide ((s.ax b).ref = .unknown)) = true := by simpa using unknown
  cases g
  case endLow => exact absurd rfl low
  case endHigh => exact absurd rfl high
  all_goals exact if_pos any

/-- A target resolves to a position (R31), as the statements write it. -/
def Resolves (s : State) (a : AxisNo) (g : Target) (t : Nat) (endFlag : Bool) : Prop :=
  let unreferenced := ∃ b ∈ s.members a, (s.ax b).ref = .unknown
  match g with
  | .endLow => t = 0 ∧ endFlag = true
  | .endHigh => t = s.travel a ∧ endFlag = true
  | .abs p => ¬ unreferenced ∧ p ≤ s.travel a ∧ t = p ∧ endFlag = false
  | .stop k => ¬ unreferenced ∧ (∃ c, (s.ax a).config = some c ∧ c.stops[k] = some t) ∧ endFlag = false
  | .rel d => ¬ unreferenced ∧ (∃ p, (s.ax a).pos = some p ∧ (t : Int) = p + d) ∧ t ≤ s.travel a ∧ endFlag = false

theorem resolve_eq_target_iff {t : Nat} {endFlag : Bool} :
    s.resolve a g = .target t endFlag ↔ Resolves s a g t endFlag := by
  have any : (s.members a).any (fun b => decide ((s.ax b).ref = .unknown)) = true ↔
      ∃ b ∈ s.members a, (s.ax b).ref = .unknown := by simp
  unfold Resolves
  cases g with
  | endLow => simp [State.resolve, eq_comm]
  | endHigh => simp [State.resolve, eq_comm]
  | abs p =>
    simp only [State.resolve, any]
    split
    · next unknown => simp [unknown]
    · next known =>
      simp only [known, not_false_eq_true, true_and]
      split
      · next fits => simp only [Resolved.target.injEq, fits, true_and, eq_comm]
      · next beyond => simp only [reduceCtorEq, beyond, false_and]
  | stop k =>
    simp only [State.resolve, any]
    split
    · next unknown => simp [unknown]
    · next known =>
      simp only [known, not_false_eq_true, true_and]
      cases config : (s.ax a).config with
      | none => simp
      | some c =>
        simp only [Option.some.injEq, exists_eq_left']
        cases stop : c.stops[k] with
        | none => simp
        | some p => simp only [Resolved.target.injEq, Option.some.injEq, eq_comm]
  | rel d =>
    simp only [State.resolve, any]
    split
    · next unknown => simp [unknown]
    · next known =>
      simp only [known, not_false_eq_true, true_and]
      cases pos : (s.ax a).pos with
      | none => simp
      | some p =>
        simp only [Option.some.injEq, exists_eq_left']
        split
        · next fits =>
          rw [Resolved.target.injEq]
          exact ⟨fun ⟨at_t, flag⟩ => ⟨by omega, by omega, flag.symm⟩, fun ⟨at_t, _, flag⟩ => ⟨by omega, flag.symm⟩⟩
        · next beyond =>
          simp only [reduceCtorEq, false_iff]
          rintro ⟨at_t, fits, -⟩
          omega

theorem resolve_error (known : ¬ ∃ b ∈ s.members a, (s.ax b).ref = .unknown) {c : PlanCause}
    (is : s.resolve a g = .error c) : c = .badTarget := by
  have none : ¬ (s.members a).any (fun b => decide ((s.ax b).ref = .unknown)) = true := by simpa using known
  cases g with
  | endLow => cases is
  | endHigh => cases is
  | abs p =>
    rw [State.resolve, if_neg none] at is
    split at is <;> cases is
    rfl
  | stop k =>
    rw [State.resolve, if_neg none] at is
    cases config : (s.ax a).config with
    | none =>
      rw [config] at is
      cases is
      rfl
    | some record =>
      rw [config] at is
      dsimp only at is
      split at is <;> cases is
      rfl
  | rel d =>
    rw [State.resolve, if_neg none] at is
    cases pos : (s.ax a).pos with
    | none =>
      rw [pos] at is
      cases is
      rfl
    | some p =>
      rw [pos] at is
      dsimp only at is
      split at is <;> cases is
      rfl

theorem resolve_badTarget (known : ¬ ∃ b ∈ s.members a, (s.ax b).ref = .unknown) (none : ∀ t f, ¬ Resolves s a g t f) :
    s.resolve a g = .error .badTarget := by
  cases is : s.resolve a g with
  | target t f => exact absurd (resolve_eq_target_iff.mp is) (none t f)
  | error c => rw [resolve_error known is]

end Resolve

/-! #### Activation (R30 to R33, R71, R158, R163) -/

section Activate

variable {s : State} {r : RunnerNo} {run : Run} {i : Nat} {e : PlanEntry}

theorem activate_fails (is : s.run r = some run) {c : PlanCause} (fails : s.resolve e.axis e.target = .error c) :
    s.activate r run i e =
      ((s.setRun r (some { run with planError := some (i, c) })).pauseFor r .planError).passSince s := by
  simp only [State.activate, fails, State.planFails, is]

/-- Every position lies within the tolerance of a target without an end flag (R32). -/
def Near (s : State) (e : PlanEntry) (t : Nat) (endFlag : Bool) : Prop :=
  endFlag = false ∧ ∀ a ∈ s.members e.axis, ∃ p, (s.ax a).pos = some p ∧
    apart t p ≤ (s.profile s.store.active e.profile).tolerance

theorem near_iff {t : Nat} {endFlag : Bool} : (!endFlag &&
    s.within (s.members e.axis) t (s.profile s.store.active e.profile).tolerance) = true ↔ Near s e t endFlag := by
  rw [Bool.and_eq_true, Bool.not_eq_true', within_iff]
  refine and_congr_right fun _ => ⟨fun ⟨placed, close⟩ a mem => ?_, fun h => ⟨fun a mem none => ?_, fun a mem q is => ?_⟩⟩
  · obtain ⟨p, pos⟩ := Option.ne_none_iff_exists'.mp (placed a mem)
    exact ⟨p, pos, close a mem p pos⟩
  · obtain ⟨p, pos, -⟩ := h a mem
    rw [none] at pos
    cases pos
  · obtain ⟨p, pos, close⟩ := h a mem
    rw [is] at pos
    cases pos
    exact close

theorem activate_near {t : Nat} {endFlag : Bool} (resolves : s.resolve e.axis e.target = .target t endFlag)
    (near : Near s e t endFlag) : s.activate r run i e =
      s.completeMove r i .already ((s.finals e.axis).map (fun f => { f with corrections := 0 })) := by
  simp only [State.activate, resolves, if_pos (near_iff.mpr near)]

theorem activate_away {t : Nat} {endFlag : Bool} (resolves : s.resolve e.axis e.target = .target t endFlag)
    (away : ¬ Near s e t endFlag) : s.activate r run i e =
      ((s.setRun r (some (run.setMove i .active))).latch (s.members e.axis) e.axis t endFlag e.priority e.profile).startOrBlock
        (s.members e.axis) := by
  simp only [State.activate, resolves, if_neg (mt near_iff.mp away)]

end Activate

theorem anyBlocked_iff {s : State} {as : List AxisNo} :
    s.anyBlocked as = true ↔ ∃ a ∈ as, s.ask a (s.wantDirs a) ≠ none := by
  simp only [State.anyBlocked, State.askAll, List.any_map, List.any_eq_true, Function.comp_apply, Option.isSome_iff_ne_none]

end Sys2Proof.Laws

/-! ### RUN and the activation of a move (R154 to R156, R30 to R33) -/

namespace Sys2Proof.Proofs

open Sys2Proof.Machine Sys2Proof.Safety Sys2Proof.Laws

/-- What the first judging opens depends on the marks and the positions alone. -/
theorem opensFirst_startedRun (u : State) (r : RunnerNo) (n : SlotNo) (moves : List RunMove) :
    opensFirst (startedRun u r n moves) = fun g => match g with
      | .mark m => (u.marks &&& ~~~u.slots[n].clearMarks).getLsbD m.val
      | .whenGe a p => (match (u.ax a).pos with
        | some q => decide (p ≤ q)
        | none => false)
      | .whenLe a p => (match (u.ax a).pos with
        | some q => decide (q ≤ p)
        | none => false)
      | .after _ _ => false := by
  have pos (a : AxisNo) : ((startedRun u r n moves).ax a).pos = (u.ax a).pos :=
    modAll_keeps Axis.pos u (u.claimSet u.slots[n]) (fun x => { x with owner := .runner r }) (fun _ => rfl) a
  funext g
  cases g with
  | mark m => rfl
  | after j d => rfl
  | whenGe a p =>
    dsimp only [opensFirst]
    rw [pos]
    cases (u.ax a).pos <;> simp [whenHolds]
  | whenLe a p =>
    dsimp only [opensFirst]
    rw [pos]
    cases (u.ax a).pos <;> simp [whenHolds]

theorem startRun_starts (u : State) (r : RunnerNo) (n : SlotNo) (opens : Gate → Bool)
    (first : opensFirst (startedRun u r n (u.newRun n).moves) = opens) :
    let d := u.slots[n]
    let claim := u.claimSet d
    let v := startedRun u r n ((List.range d.length).map (firstMove u d opens))
    u.startRun r n = v ∧ (∀ q, q ≠ r → v.run q = u.run q) ∧
      (∀ a, a ∈ claim → v.ax a = { u.ax a with owner := .runner r }) ∧ (∀ a, a ∉ claim → v.ax a = u.ax a) := by
  subst first
  exact ⟨startRun_eq u r n, fun q ne => run_setRun_ne u _ ne,
    fun a mem => ax_modAll_of_mem u _ _ a mem (claimSet_nodup u _), fun a out => ax_modAll_of_not_mem u _ _ a out⟩

theorem finals_corrected (s : State) (named : AxisNo) :
    (s.finals named).map (fun f => { f with corrections := 0 }) =
      (named :: (s.partner named).toList).map (fun a => (⟨a, (s.ax a).pos, 0⟩ : FinalPos)) := by
  rw [State.finals, List.map_map]
  rfl

/-- Settles O34: the answers follow the checks in their order, the first judging opens what the marks and the positions of the
request say, and an activation follows what the target resolves to. -/
theorem runStartsThePlan : Obligations.RunStartsThePlan := by
  refine ⟨fun tag slot s n h number => ?_, fun s r run i e is => ?_, fun s as => ?_, claimSet_sorted⟩
  · have awake := resetting_listens h
    have named : finOf 8 slot = some n := finOf_eq_some.mpr number
    intro u d claim answers free sound valid
    have checks := runChecks_eq u claim
    refine ⟨fun empty => exec_answers h rfl (runTaken_undefined awake named empty),
      fun i c defined fails => exec_answers h rfl (runTaken_badPlan awake named defined fails), fun ok inhibit => ?_,
      fun ok inhibit owned => ?_, fun ok inhibit owned faulted => ?_, fun ok inhibit owned clear full => ?_,
      fun a => mem_claimSet, fun r ok inhibit owned clear open_r lowest => ?_⟩
    · rw [if_pos inhibit] at checks
      exact exec_answers h rfl (runTaken_fails awake named ok checks)
    · rw [if_neg (by rw [inhibit]; decide), if_neg owned] at checks
      exact exec_answers h rfl (runTaken_fails awake named ok checks)
    · rw [if_neg (by rw [inhibit]; decide), if_pos owned, if_neg faulted] at checks
      exact exec_answers h rfl (runTaken_fails awake named ok checks)
    · rw [if_neg (by rw [inhibit]; decide), if_pos owned, if_pos clear] at checks
      exact exec_answers h rfl (runTaken_noRunner awake named ok checks (freeRunner_eq_none.mpr full))
    · rw [if_neg (by rw [inhibit]; decide), if_pos owned, if_pos clear] at checks
      intro marks opens judged run v
      obtain ⟨started, others, claimed, unclaimed⟩ := startRun_starts u r n opens (opensFirst_startedRun u r n _)
      refine ⟨exec_answers h rfl ?_, others, claimed, unclaimed⟩
      rw [runTaken_starts awake named ok checks (freeRunner_eq_some.mpr ⟨open_r, lowest⟩), started]
      rfl
  · intro as creep answers fails unreferenced resolves
    refine ⟨fun low high unknown => activate_fails is (resolve_unreferenced low high unknown),
      fun _ _ known none => activate_fails is (resolve_badTarget known none), fun t endFlag to_t => ?_⟩
    have resolved : s.resolve e.axis e.target = .target t endFlag := resolve_eq_target_iff.mpr to_t
    intro profile near started
    refine ⟨fun close => ?_, fun away => ?_⟩
    · exact (activate_near resolved close).trans (congrArg (s.completeMove r i .already) (finals_corrected s e.axis))
    · refine (activate_away resolved away).trans (congrArg (fun t => State.startOrBlock t as) ?_)
      exact reevaluateCreep_eq started as
  · exact ⟨fun blocked => if_pos (anyBlocked_iff.mpr blocked), fun clear => if_neg (mt anyBlocked_iff.mp clear)⟩

end Sys2Proof.Proofs

/-! ### The marks of driving, and the pulses of a winding test -/

namespace Sys2Proof.Laws

open Sys2Proof.Machine Sys2Proof.Safety

/-! #### Escalation (R38) -/

theorem mayEscalate_iff {s : State} {a : AxisNo} : s.mayEscalate a = true ↔
    (s.ax a).motion = .driving ∧ (s.ax a).phase = some .cruise ∧ (s.ax a).blanking = false ∧ s.scale a < 100 ∧
      ∀ m, (s.ax a).move = some m → m.forcedCreep = false := by
  cases move : (s.ax a).move <;> simp [State.mayEscalate, move, and_assoc]

/-! #### A winding test (R67 to R69) -/

section Pulse

variable {s : State} {a : AxisNo} {k : CheckRec}

/-- The second pulse of a test begins, the peak of the first kept (R67). -/
def secondPulse (s : State) (a : AxisNo) (peak : Nat) (k : CheckRec) : State :=
  s.setAx a { s.ax a with driveDir := .low, check := some { k with pulse := some .low, peakHigh := peak } }

theorem pulseEnd_idle (peak : Nat) (still : (s.ax a).motion ≠ .checking) : pulseEnd a peak s = s := by
  unfold pulseEnd
  split
  · next checking _ => exact absurd checking still
  · rfl

theorem pulseEnd_high (peak : Nat) (checking : (s.ax a).motion = .checking) (check : (s.ax a).check = some k)
    (high : k.pulse = some .high) : pulseEnd a peak s = match (secondPulse s a peak k).ask a [.low] with
      | some (e, p) => ((secondPulse s a peak k).blockGang a e p).passSince (secondPulse s a peak k)
      | none => secondPulse s a peak k := by
  unfold pulseEnd
  rw [checking, check]
  dsimp only
  rw [high]
  rfl

theorem pulseEnd_first (peak : Nat) (checking : (s.ax a).motion = .checking) (check : (s.ax a).check = some k)
    (high : k.pulse = some .high) (clear : (secondPulse s a peak k).ask a [.low] = none) :
    pulseEnd a peak s = secondPulse s a peak k := by
  rw [pulseEnd_high peak checking check high, clear]

theorem pulseEnd_first_blocked (peak : Nat) (checking : (s.ax a).motion = .checking) (check : (s.ax a).check = some k)
    (high : k.pulse = some .high) {e : EntryNo} {p : AxisNo} (blocked : (secondPulse s a peak k).ask a [.low] = some (e, p)) :
    pulseEnd a peak s = ((secondPulse s a peak k).blockGang a e p).passSince (secondPulse s a peak k) := by
  rw [pulseEnd_high peak checking check high, blocked]

theorem pulseEnd_second (peak : Nat) (checking : (s.ax a).motion = .checking) (check : (s.ax a).check = some k)
    (low : k.pulse = some .low) : pulseEnd a peak s =
      (s.setAx a { s.ax a with check := some { k with pulse := none, peakLow := peak } }).startStop a .checkDone .coast := by
  unfold pulseEnd
  rw [checking, check]
  dsimp only
  rw [low]
  rfl

theorem blockGang_checking (checking : (s.ax a).motion = .checking) (n : EntryNo) (p : AxisNo) :
    s.blockGang a n p = s.stopAll (s.members a) (.block n p) := by
  simp only [State.blockGang, checking]

end Pulse

theorem checkResult_eq (k : CheckRec) : k.result = if k.peakHigh < 200 ∧ k.peakLow < 200 then .opened else .ok := rfl

/-- The end of a winding test, its results given axis by axis (R68). -/
theorem checkRest_eq {s : State} {a : AxisNo} {rest : List AxisNo} {result : AxisNo → Option CheckResult}
    (results : ∀ b, (s.ax b).check.map CheckRec.result = result b) :
    let as := a :: rest
    let idle := (s.releaseAll as).modAll as (Axis.toIdle false)
    let told := as.foldl (fun t b => t.setAx b { t.ax b with lastCheck := result b }) idle
    s.checkRest as = (as.foldl (fun t b => if result b = some .opened then
      t.raiseFault b .opened (.channel ((s.chanOf b).getD 0)) none none else t) (told.passSince s)).tellOutcome a .done [] := by
  obtain rfl : (fun b => (s.ax b).check.map CheckRec.result) = result := funext results
  simp only [State.checkRest, List.foldl_map, modAx_eq]

/-! #### The end of a link operation (R46, R52, R64, R68, R70) -/

section Conclude

variable {s : State} {a : AxisNo} {op : LinkOp}

theorem concludeOp_unlinked (h : ∀ op, (s.ax a).owner ≠ .link op) : s.concludeOp a = s :=
  concludeOp_calm fun op owner => absurd owner (h op)

/-- The axes of an operation rest. -/
def AtRest (s : State) (a : AxisNo) : Prop := ∀ b ∈ s.members a, (s.ax b).motion = .idle ∨ (s.ax b).motion = .fault

theorem allResting_iff : (s.members a).all (fun b => (s.ax b).motion.resting) = true ↔ AtRest s a := by
  simp only [List.all_eq_true, resting_iff, AtRest]

theorem concludeOp_waits (owner : (s.ax a).owner = .link op) (h : op.result = none ∨ op.named ≠ a ∨ ¬ AtRest s a) :
    s.concludeOp a = s := by
  cases result : op.result with
  | none => simp only [State.concludeOp, owner, result]
  | some p =>
    have waits : ¬ (op.named = a ∧ (s.members a).all (fun b => (s.ax b).motion.resting) = true) := by
      rw [allResting_iff]
      rintro ⟨named, rests⟩
      rcases h with none | other | moving
      · rw [result] at none
        cases none
      · exact other named
      · exact moving rests
    simp only [State.concludeOp, owner, result, if_neg waits]

theorem concludeOp_ends (owner : (s.ax a).owner = .link op) {o : MoveOutcome} {k : Option FaultKind}
    (result : op.result = some (o, k)) (named : op.named = a) (rests : AtRest s a) : s.concludeOp a =
      (s.report (.opEnd op.kind o k (s.finals a)
        (if op.kind = .check then (s.finals a).map (fun f => checkResultOf k o (s.ax f.axis)) else []))).modAll (s.members a)
          (fun x => { x with owner := .none, escalated := false, search := 0 }) := by
  simp only [State.concludeOp, owner, result, if_pos (And.intro named (allResting_iff.mpr rests))]

end Conclude

theorem checkResults_eq (s : State) (a : AxisNo) (k : Option FaultKind) (o : MoveOutcome) :
    (s.finals a).map (fun f => checkResultOf k o (s.ax f.axis)) = (a :: (s.partner a).toList).map (fun b =>
      if o = .done ∨ k = some .opened ∨ (k = some .short ∧ (s.ax b).fault ≠ none) then (s.ax b).lastCheck else none) := by
  rw [State.finals, List.map_map]
  refine congrArg (List.map · _) (funext fun b => ?_)
  simp only [Function.comp_apply, checkResultOf, Option.isSome_iff_ne_none]

theorem report_full {s : State} (full : 16 ≤ s.link.reports.length) (r : Report) :
    s.report r = { s with link := { s.link with overflow := true } } := if_neg (Nat.not_lt.mpr full)

/-! #### The events (R38, R40, R53, R67) -/

section Events

variable {s : State} (running : s.power.inReset = false) (a : AxisNo)
include running

theorem exec_blankingEnd : exec (.blankingEnd a) s = .next (s.modAx a (fun x => { x with blanking := false })).settle :=
  event_runs running (fun s => s.modAx a (fun x => { x with blanking := false }))

theorem exec_controlledStopRampEnd : exec (.controlledStopRampEnd a) s = .next
    (s.modAx a (fun x => { x with stop := x.stop.map (fun st => { st with ramping := false }) })).settle :=
  event_runs running (fun s => s.modAx a (fun x => { x with stop := x.stop.map (fun st => { st with ramping := false }) }))

theorem exec_escalation : exec (.escalation a) s = .next (State.settle
    (if s.mayEscalate a then s.modAll (s.members a) (fun x => { x with escalated := true }) else s)) :=
  event_runs running (fun s => if s.mayEscalate a then s.modAll (s.members a) (fun x => { x with escalated := true }) else s)

theorem exec_checkPulseEnd (peak : Nat) : exec (.checkPulseEnd a peak) s = .next (pulseEnd a peak s).settle :=
  event_runs running (pulseEnd a peak)

end Events

end Sys2Proof.Laws

/-! ### The marks of driving and the pulses of a test (R38, R40, R53, R67 to R70) -/

namespace Sys2Proof.Proofs

open Sys2Proof.Machine Sys2Proof.Safety Sys2Proof.Laws

theorem opEnd_payload (o : MoveOutcome) (k : Option FaultKind) (x y : FinalPos) (p q : Option CheckResult) :
    let axis (f : FinalPos) : Byte := BitVec.ofNat 8 f.axis.val
    let kind := bOpt1 (k.map FaultKind.code)
    let result (r : Option CheckResult) := bOpt1 (r.map CheckResult.code)
    (Report.opEnd .check o k [x] [p]).payload = [2, axis x] ++ result p ++ b1 o.code ++ kind ++ [0xFF, 0xFF] ∧
    (Report.opEnd .check o k [x, y] [p, q]).payload =
      [2, axis x] ++ result p ++ b1 o.code ++ kind ++ [axis y] ++ result q ∧
    (Report.opEnd .jog o k [x] []).payload = [0, axis x] ++ b1 o.code ++ bOpt2 x.pos ++ kind ++ [0xFF, 0xFF, 0xFF] ∧
    (Report.opEnd .jog o k [x, y] []).payload =
      [0, axis x] ++ b1 o.code ++ bOpt2 x.pos ++ kind ++ [axis y] ++ bOpt2 y.pos := by
  refine ⟨?_, rfl, ?_, rfl⟩
  · simp [Report.payload, finalAxis, resultByte, bOpt1, b1, byteOf, OpKind.code]
  · simp [Report.payload, opEndBytes, finalAxis, finalPos, bOpt1, bOpt2, b1, byteOf, OpKind.code]

/-- Settles O51: each event changes its mark, a pulse's end follows the pulse it ends, and the end of a test and of an
operation are the walks over their axes. -/
theorem driveMarksAndCheckPulses : Obligations.DriveMarksAndCheckPulses := by
  refine ⟨fun s a running => ?_, ⟨fun s a peak k running checking check => ?_, fun s a peak running still => ?_,
    checkResult_eq⟩, opEnd_payload, fun s a rest => ?_, fun s a => ?_, fun s r => ⟨fun room => report_room room r, fun full => report_full full r⟩⟩
  · intro x due
    refine ⟨exec_blankingEnd running a, exec_controlledStopRampEnd running a, fun h => ?_, fun h => ?_⟩
    · rw [exec_escalation running, if_pos (mayEscalate_iff.mpr h)]
    · rw [exec_escalation running, if_neg (mt mayEscalate_iff.mp h)]
  · intro x second
    have ends := exec_checkPulseEnd running a peak
    refine ⟨fun high clear => ?_, fun e p high blocked => ?_, fun low =>
      ⟨(s.setAx a { x with check := some { k with pulse := none, peakLow := peak } }).dutyNow a, ?_⟩⟩
    · rw [ends, pulseEnd_first peak checking check high clear]
      rfl
    · have also : (secondPulse s a peak k).ax a = _ := ax_setAx_self s a _
      rw [ends, pulseEnd_first_blocked peak checking check high blocked, blockGang_checking (by rw [also]; exact checking)]
      rfl
    · rw [ends, pulseEnd_second peak checking check low, startStop_eq, setAx_setAx, ax_setAx_self]
      rfl
  · rw [exec_checkPulseEnd running, pulseEnd_idle peak still]
  · refine checkRest_eq fun b => ?_
    cases (s.ax b).check <;> rfl
  · refine ⟨concludeOp_unlinked, fun op owner => ⟨concludeOp_waits owner, fun o k result named rests => ?_⟩⟩
    have ended := concludeOp_ends owner result named rests
    rw [checkResults_eq, finals_eq] at ended
    exact ended

end Sys2Proof.Proofs

/-! ### The ends of stops -/

namespace Sys2Proof.Laws

open Sys2Proof.Machine Sys2Proof.Safety

section Kept

variable {s t : State} (h : PlacesKept s t)
include h

theorem partner_of_placesKept (a : AxisNo) : t.partner a = s.partner a := partner_congr (fun b => (h b).config) a

theorem members_of_placesKept (a : AxisNo) : t.members a = s.members a := members_congr (fun b => (h b).config) a

end Kept

/-! #### What follows a standstill (R82, R126) -/

/-- The skew check of a gang that stands still (R82). -/
def standing (s : State) (a : AxisNo) : State :=
  if (∀ c ∈ s.members a, (s.ax c).motion = .idle ∨ (s.ax c).motion = .queued ∨ (s.ax c).motion = .blocked ∨
    (s.ax c).motion = .fault) then s.checkSkew a else s

theorem standing_placesKept (s : State) (a : AxisNo) : PlacesKept s (standing s a) := by
  unfold standing
  split
  · exact (Controls.checkSkew trivial (Controls.refl s) a).placesKept
  · exact PlacesKept.refl s

theorem cameToRest_eq (s : State) (a : AxisNo) (blocked : Bool) : s.cameToRest a blocked =
    if blocked then (s.members a).foldl State.reevaluateRelated (standing s a) else standing s a := by
  have rest : (if (s.members a).all (fun b => (s.ax b).motion.still) then s.checkSkew a else s) = standing s a := by
    unfold standing
    simp only [List.all_eq_true, still_iff]
  unfold State.cameToRest
  dsimp only
  rw [rest, members_of_placesKept (standing_placesKept s a)]

theorem standing_alone {s : State} {a : AxisNo} (alone : s.partner a = none) : standing s a = s := by
  have skew : s.checkSkew a = s := by
    unfold State.checkSkew
    rw [alone]
  rw [standing, skew, ite_self]

theorem cameToRest_alone {s : State} {a : AxisNo} (alone : s.partner a = none) (blocked : Bool) :
    s.cameToRest a blocked = if blocked then s.reevaluateRelated a else s := by
  rw [cameToRest_eq, members_alone alone, standing_alone alone]
  rfl

/-! #### The destinations of a stop that is over -/

section Dests

variable {s : State} {as : List AxisNo}

theorem mem_dests {d : Dest} : d ∈ s.dests as ↔ ∃ a ∈ as, (s.ax a).stop.map Stop.dest = some d := by
  simp only [State.dests, List.mem_filterMap]

theorem isBlocked_iff {d : Dest} : d.isBlocked = true ↔ ∃ e q, d = .blocked e q := by
  cases d <;> simp [Dest.isBlocked]

theorem isIdle_iff {d : Dest} : d.isIdle = true ↔ ∃ k, d = .idle k := by
  cases d <;> simp [Dest.isIdle]

theorem dests_blocked_iff : (s.dests as).any Dest.isBlocked = true ↔ ∃ e q, Dest.blocked e q ∈ s.dests as := by
  simp only [List.any_eq_true, isBlocked_iff]
  exact ⟨fun ⟨_, mem, e, q, eq⟩ => ⟨e, q, eq ▸ mem⟩, fun ⟨e, q, mem⟩ => ⟨_, mem, e, q, rfl⟩⟩

theorem dests_idle_iff : (s.dests as).any Dest.isIdle = true ↔ ∃ k, Dest.idle k ∈ s.dests as := by
  simp only [List.any_eq_true, isIdle_iff]
  exact ⟨fun ⟨_, mem, k, eq⟩ => ⟨k, eq ▸ mem⟩, fun ⟨k, mem⟩ => ⟨_, mem, k, rfl⟩⟩

theorem concludeStop_fault (fault : .fault ∈ s.dests as) :
    s.concludeStop as = ((s.releaseAll as).modAll as Axis.rested).passSince s :=
  if_pos (List.contains_iff_mem.mpr fault)

variable (noFault : .fault ∉ s.dests as)
include noFault

theorem concludeStop_blocked (blocked : ∃ e q, Dest.blocked e q ∈ s.dests as) :
    s.concludeStop as = (s.releaseAll as).blockedRest as :=
  (if_neg (mt List.contains_iff_mem.mp noFault)).trans (if_pos (dests_blocked_iff.mpr blocked))

variable (unblocked : ¬ ∃ e q, Dest.blocked e q ∈ s.dests as)
include unblocked

theorem concludeStop_held (held : .held ∈ s.dests as) : s.concludeStop as = (s.releaseAll as).heldRest as :=
  (if_neg (mt List.contains_iff_mem.mp noFault)).trans ((if_neg (mt dests_blocked_iff.mp unblocked)).trans
    (if_pos (List.contains_iff_mem.mpr held)))

variable (unheld : .held ∉ s.dests as)
include unheld

theorem concludeStop_idle (idle : ∃ k, Dest.idle k ∈ s.dests as) :
    s.concludeStop as = ((s.releaseAll as).modAll as Axis.rested).passSince s :=
  (if_neg (mt List.contains_iff_mem.mp noFault)).trans ((if_neg (mt dests_blocked_iff.mp unblocked)).trans
    ((if_neg (mt List.contains_iff_mem.mp unheld)).trans (if_pos (dests_idle_iff.mpr idle))))

variable (busy : ¬ ∃ k, Dest.idle k ∈ s.dests as)
include busy

theorem concludeStop_reversal (reversal : .reversal ∈ s.dests as) : s.concludeStop as = s.reversalRest as :=
  (if_neg (mt List.contains_iff_mem.mp noFault)).trans ((if_neg (mt dests_blocked_iff.mp unblocked)).trans
    ((if_neg (mt List.contains_iff_mem.mp unheld)).trans ((if_neg (mt dests_idle_iff.mp busy)).trans
      (if_pos (List.contains_iff_mem.mpr reversal)))))

variable (forward : .reversal ∉ s.dests as)
include forward

theorem concludeStop_checkDone (tested : .checkDone ∈ s.dests as) : s.concludeStop as = s.checkRest as :=
  (if_neg (mt List.contains_iff_mem.mp noFault)).trans ((if_neg (mt dests_blocked_iff.mp unblocked)).trans
    ((if_neg (mt List.contains_iff_mem.mp unheld)).trans ((if_neg (mt dests_idle_iff.mp busy)).trans
      ((if_neg (mt List.contains_iff_mem.mp forward)).trans (if_pos (List.contains_iff_mem.mpr tested))))))

theorem concludeStop_completion (untested : .checkDone ∉ s.dests as) : s.concludeStop as =
    ((s.releaseAll as).finish as (jointOutcome (as.map (fun a => (s.ax a).noted)))).engine :=
  (if_neg (mt List.contains_iff_mem.mp noFault)).trans ((if_neg (mt dests_blocked_iff.mp unblocked)).trans
    ((if_neg (mt List.contains_iff_mem.mp unheld)).trans ((if_neg (mt dests_idle_iff.mp busy)).trans
      ((if_neg (mt List.contains_iff_mem.mp forward)).trans (if_neg (mt List.contains_iff_mem.mp untested))))))

end Dests

/-! #### The rest of a stop that is over (R39, R51, R110, R125) -/

section Rests

variable {s : State} {as : List AxisNo}

/-- The axes of a stop that is over, after which their moves go on, with the grant pass of the stop's end. -/
def stoppedRest (s : State) (as : List AxisNo) : State := (s.modAll as Axis.stopped).passSince s

theorem heldRest_there (there : (stoppedRest s as).standsAtTarget as = true) :
    s.heldRest as = ((stoppedRest s as).finish as .done).engine := if_pos there

theorem heldRest_blocked (away : ¬ (stoppedRest s as).standsAtTarget as = true)
    (blocked : ((stoppedRest s as).reevaluateCreep as).anyBlocked as = true) :
    s.heldRest as = (((stoppedRest s as).reevaluateCreep as).blockEntry as).passSince
      ((stoppedRest s as).reevaluateCreep as) := (if_neg away).trans (if_pos blocked)

theorem heldRest_waits (away : ¬ (stoppedRest s as).standsAtTarget as = true)
    (clear : ¬ ((stoppedRest s as).reevaluateCreep as).anyBlocked as = true) :
    s.heldRest as = ((stoppedRest s as).reevaluateCreep as).joinQueue as true := (if_neg away).trans (if_neg clear)

theorem blockedRest_blocked (blocked : (stoppedRest s as).anyBlocked as = true) :
    s.blockedRest as = ((stoppedRest s as).blockEntry as).passSince (stoppedRest s as) := if_pos blocked

theorem blockedRest_proceeds (clear : ¬ (stoppedRest s as).anyBlocked as = true) :
    s.blockedRest as = (stoppedRest s as).proceed as := if_neg clear

theorem reversalRest_there (there : s.standsAtTarget as = true) :
    s.reversalRest as = ((s.releaseAll as).finish as .already).engine := if_pos there

theorem reversalRest_blocked (away : ¬ s.standsAtTarget as = true)
    (blocked : ((s.modAll as Axis.stopped).reevaluateCreep as).anyBlocked as = true) : s.reversalRest as =
      ((((s.modAll as Axis.stopped).reevaluateCreep as).releaseAll as).blockEntry as).passSince s :=
  (if_neg away).trans (if_pos blocked)

theorem reversalRest_drives (away : ¬ s.standsAtTarget as = true)
    (clear : ¬ ((s.modAll as Axis.stopped).reevaluateCreep as).anyBlocked as = true) :
    s.reversalRest as = as.foldl State.enterDriving ((s.modAll as Axis.stopped).reevaluateCreep as) :=
  (if_neg away).trans (if_neg clear)

theorem rested_fault {x : Axis} (h : x.stop.map Stop.dest = some .fault) : x.rested = x.toFault := by
  simp only [Axis.rested, h]

theorem rested_idle {x : Axis} {k : Bool} (h : x.stop.map Stop.dest = some (.idle k)) : x.rested = x.toIdle k := by
  simp only [Axis.rested, h]

theorem rested_other {x : Axis} (fault : x.stop.map Stop.dest ≠ some .fault)
    (idle : ∀ k, x.stop.map Stop.dest ≠ some (.idle k)) : x.rested = x.toIdle false := by
  unfold Axis.rested
  split
  · next h => exact absurd h fault
  · next k h => exact absurd h (idle k)
  · rfl

end Rests

/-! #### Channels released (R84, R87) -/

section Release

variable {s t : State} {a : AxisNo} {c : ChanNo}

theorem chanOf_congr (h : ∀ d, (t.ch d).holds a = (s.ch d).holds a) : t.chanOf a = s.chanOf a := by
  unfold State.chanOf
  exact congrArg (List.find? · allChans) (funext h)

theorem holds_iff {x : Channel} : x.holds a = true ↔ x.axis = some a ∧ (x.state = .granted ∨
    (x.state = .settling ∧ x.closing = some true) ∨ (x.state = .tripped ∧ x.opening = false)) := by
  cases state : x.state <;> simp [Channel.holds, state]

theorem chanOf_eq_some : s.chanOf a = some c ↔ (s.ch c).holds a = true ∧ ∀ d < c, (s.ch d).holds a = false :=
  find_allChans

theorem release_unheld (h : s.chanOf a = none) : s.release a = s := by
  simp only [State.release, h]

theorem release_held (h : s.chanOf a = some c) : s.release a = s.setCh c (s.ch c).release := by
  simp only [State.release, h]

end Release

end Sys2Proof.Laws

/-! ### The ends of relay settles -/

namespace Sys2Proof.Laws

open Sys2Proof.Machine Sys2Proof.Safety

/-! #### The effect of an event by the state of its channel (R86, R87, R94) -/

section Effect

variable {s : State} {c : ChanNo}

theorem exec_settleCloseEnd (running : s.power.inReset = false) (c : ChanNo) :
    exec (.settleCloseEnd c) s = .next (settleCloseEffect c s).settle := event_runs running (settleCloseEffect c)

theorem exec_settleOpenEnd (running : s.power.inReset = false) (c : ChanNo) :
    exec (.settleOpenEnd c) s = .next (settleOpenEffect c s).settle := event_runs running (settleOpenEffect c)

theorem settleCloseEffect_due {a : AxisNo} (state : (s.ch c).state = .settling) (closing : (s.ch c).closing = some true)
    (axis : (s.ch c).axis = some a) : settleCloseEffect c s = s.settleCloses a := by
  simp only [settleCloseEffect, state, closing, axis]

theorem settleCloseEffect_undue (h : (s.ch c).state ≠ .settling ∨ (s.ch c).closing ≠ some true ∨ (s.ch c).axis = none) :
    settleCloseEffect c s = s := by
  unfold settleCloseEffect
  split
  · next state closing axis =>
    rcases h with h | h | h
    · exact absurd state h
    · exact absurd closing h
    · rw [axis] at h
      cases h
  · rfl

theorem settleOpenEffect_opens (state : (s.ch c).state = .settling) (closing : (s.ch c).closing = some false) :
    settleOpenEffect c s = (s.setCh c { s.ch c with state := .free, closing := none, axis := none }).grantPass := by
  unfold settleOpenEffect
  dsimp only
  split
  · rfl
  · next tripped => cases tripped.symm.trans state
  · next other => exact absurd closing (other state)

theorem settleOpenEffect_tripped (state : (s.ch c).state = .tripped) : settleOpenEffect c s =
    if (s.ch c).opening then s.setCh c { s.ch c with axis := none, opening := false } else s := by
  unfold settleOpenEffect
  dsimp only
  split
  · next settling _ => cases settling.symm.trans state
  · rfl
  · next other _ => exact absurd state other

theorem settleOpenEffect_undue (untripped : (s.ch c).state ≠ .tripped)
    (h : (s.ch c).state ≠ .settling ∨ (s.ch c).closing ≠ some false) : settleOpenEffect c s = s := by
  unfold settleOpenEffect
  dsimp only
  split
  · next state closing => exact absurd closing (h.resolve_left (not_not_intro state))
  · next tripped => exact absurd tripped untripped
  · rfl

end Effect

/-! #### Channels that close (R72, R86) -/

section Close

variable {s : State} {a b : AxisNo} {c d : ChanNo}

theorem setCh_comm (s : State) (ne : c ≠ d) (x y : Channel) : (s.setCh c x).setCh d y = (s.setCh d y).setCh c x :=
  congrArg (fun v => { s with chans := v }) (Vector.set_comm x y (fun e => ne (Fin.ext e)))

theorem chanOf_modAll (s : State) (as : List AxisNo) (f : Axis → Axis) (a : AxisNo) :
    (s.modAll as f).chanOf a = s.chanOf a :=
  chanOf_congr fun d => by rw [ch_congr (modAll_chans s as f)]

theorem axis_of_chanOf (h : s.chanOf a = some c) : (s.ch c).axis = some a := (holds_iff.mp (chanOf_eq_some.mp h).1).1

/-- A change of a channel that stays with its axis leaves the channels of the others. -/
theorem chanOf_setCh_other {x : Channel} (ne : a ≠ b) (before : (s.ch c).axis = some a) (after : x.axis = some a) :
    (s.setCh c x).chanOf b = s.chanOf b := by
  have none {y : Channel} (h : y.axis = some a) : y.holds b = false := by
    rw [← Bool.not_eq_true, holds_iff, h]
    exact fun held => ne (Option.some.inj held.1)
  refine chanOf_congr fun e => ?_
  rw [ch_setCh]
  split
  · next own => rw [own, none after, none before]
  · rfl

theorem channelsClose_alone (holds : s.chanOf a = some c) : s.channelsClose [a] = s.setCh c (s.ch c).closed := by
  simp only [State.channelsClose, List.foldl_cons, List.foldl_nil, holds]

theorem channelsClose_pair (ne : a ≠ b) (apart : d ≠ c) (first : s.chanOf a = some c) (second : s.chanOf b = some d) :
    s.channelsClose [a, b] = (s.setCh c (s.ch c).closed).setCh d (s.ch d).closed := by
  have later : (s.setCh c (s.ch c).closed).chanOf b = some d :=
    (chanOf_setCh_other (x := (s.ch c).closed) ne (axis_of_chanOf first) (axis_of_chanOf first)).trans second
  simp only [State.channelsClose, List.foldl_cons, List.foldl_nil, first, later, ch_setCh_ne s _ apart]

theorem channelsClose_gang (ne : b ≠ a) (apart : d ≠ c) (first : s.chanOf a = some c) (second : s.chanOf b = some d) :
    s.channelsClose (if a < b then [a, b] else [b, a]) = (s.setCh c (s.ch c).closed).setCh d (s.ch d).closed := by
  split
  · exact channelsClose_pair ne.symm apart first second
  · rw [channelsClose_pair ne apart.symm second first, setCh_comm s apart]

theorem release_axes (s : State) (a : AxisNo) : (s.release a).axes = s.axes := by
  cases held : s.chanOf a with
  | none => rw [release_unheld held]
  | some c => rw [release_held held, setCh_axes]

theorem release_ax (s : State) (a b : AxisNo) : (s.release a).ax b = s.ax b := ax_congr (release_axes s a) b

theorem release_settling {x : Channel} (h : x.state = .settling) :
    x.release = { x with state := .settling, closing := some false } := by
  simp only [Channel.release, h]

theorem release_eq (x : Channel) : x.release =
    if x.state = .tripped then { x with opening := true } else { x with state := .settling, closing := some false } := by
  cases state : x.state <;> simp only [Channel.release, state] <;> rfl

end Close

/-! #### The drive, the pulses, the destinations (R34, R42, R51, R67, R72) -/

section Engaged

variable {s : State} {a : AxisNo} {as : List AxisNo}

theorem enterDriving_eq {m : MoveRec} (h : (s.ax a).move = some m) : s.enterDriving a =
    State.advance (s.setAx a { s.ax a with
      motion := .driving, phase := some (if (s.ax a).homing = true then .creep else .ramp), rampCounts := 0, blanking := true,
      stop := none, driveDir := (s.moveDir a m).getD (s.ax a).driveDir, noStop := false, stalled := false, noted := none })
      a := by
  unfold State.enterDriving
  rw [h]
  rfl

theorem reversedMove_iff {x : Axis} : x.reversedMove = true ↔ ∃ m, x.move = some m ∧ m.reversed = true := by
  cases move : x.move <;> simp [Axis.reversedMove, move]

theorem clearReversed_eq {x : Axis} (h : ∀ m, x.move = some m → m.reversed = false) : x.clearReversed = x := by
  unfold Axis.clearReversed
  cases move : x.move with
  | none => rw [Option.map_none, ← move]
  | some m =>
    have forward := h m move
    have same : ({ m with reversed := false } : MoveRec) = m := by rw [← forward]
    rw [Option.map_some, same, ← move]

theorem engaged_tests (tested : (s.ax a).check ≠ none) :
    s.engaged a as = as.foldl State.enterChecking (s.channelsClose as) :=
  if_pos (Option.isSome_iff_ne_none.mpr tested)

variable (untested : (s.ax a).check = none)
include untested

theorem engaged_untested : s.engaged a as =
    if (as.any (fun b => (s.ax b).reversedMove) && (s.modAll as Axis.clearReversed).anyBlocked as) then
      ((((s.modAll as Axis.clearReversed).releaseAll as).blockEntry as).passSince s).cameToRest a false
    else as.foldl State.enterDriving ((s.modAll as Axis.clearReversed).channelsClose as) :=
  if_neg (by rw [Axis.testing, untested]; decide)

theorem engaged_drives (h : (∀ b ∈ as, ∀ m, (s.ax b).move = some m → m.reversed = false) ∨
    (s.modAll as Axis.clearReversed).anyBlocked as = false) : s.engaged a as =
      as.foldl State.enterDriving ((s.modAll as Axis.clearReversed).channelsClose as) := by
  rw [engaged_untested untested, if_neg]
  rw [Bool.and_eq_true, List.any_eq_true]
  rintro ⟨⟨b, mem, asks⟩, blocked⟩
  obtain ⟨m, move, reversed⟩ := reversedMove_iff.mp asks
  rcases h with forward | clear
  · rw [forward b mem m move] at reversed
    cases reversed
  · rw [clear] at blocked
    cases blocked

theorem engaged_blocked (asks : ∃ b ∈ as, ∃ m, (s.ax b).move = some m ∧ m.reversed = true)
    (blocked : (s.modAll as Axis.clearReversed).anyBlocked as = true) : s.engaged a as =
      ((((s.modAll as Axis.clearReversed).releaseAll as).blockEntry as).passSince s).cameToRest a false := by
  obtain ⟨b, mem, asks⟩ := asks
  rw [engaged_untested untested, if_pos]
  rw [Bool.and_eq_true, List.any_eq_true]
  exact ⟨⟨b, mem, reversedMove_iff.mpr asks⟩, blocked⟩

end Engaged

theorem KeptAxis.clearReversed {F : Prop} (x : Axis) : KeptAxis F x x.clearReversed := { KeptAxis.refl x with }

section Closing

variable {s : State} {a : AxisNo}

theorem settleCloses_engaged (h : ∀ b ∈ s.members a, (s.ax b).stop = none) :
    s.settleCloses a = s.engaged a (s.members a) := by
  refine if_neg fun any => ?_
  obtain ⟨b, mem, stops⟩ := List.any_eq_true.mp any
  rw [h b mem] at stops
  cases stops

theorem settleCloses_disengaged (h : ∃ b ∈ s.members a, (s.ax b).stop ≠ none) :
    s.settleCloses a = s.disengaged a (s.members a) := by
  obtain ⟨b, mem, stops⟩ := h
  exact if_pos (List.any_eq_true.mpr ⟨b, mem, Option.isSome_iff_ne_none.mpr stops⟩)

theorem disengaged_blocked (h : ∃ e q, Dest.blocked e q ∈ s.dests (s.members a)) : s.disengaged a (s.members a) =
    (s.members a).foldl State.reevaluateRelated (standing (s.concludeStop (s.members a)) a) := by
  unfold State.disengaged
  dsimp only
  rw [dests_blocked_iff.mpr h, cameToRest_eq, if_pos rfl, members_of_placesKept (concludeStop_placesKept s _)]

theorem disengaged_unblocked (h : ¬ ∃ e q, Dest.blocked e q ∈ s.dests (s.members a)) :
    s.disengaged a (s.members a) = standing (s.concludeStop (s.members a)) a := by
  unfold State.disengaged
  dsimp only
  rw [cameToRest_eq, if_neg (mt dests_blocked_iff.mp h)]

/-- The first of the destinations that count before the reversal decides where a stop ends (R39, R72, R75). -/
theorem disengaged_ends (s : State) (a : AxisNo) :
    let ms := s.members a
    let has (dest : Dest) := ∃ e ∈ ms, (s.ax e).stop.map Stop.dest = some dest
    let freed := s.releaseAll ms
    let blocked := ∃ e q, has (.blocked e q)
    let idle := ∃ k, has (.idle k)
    let settled := (freed.modAll ms Axis.rested).passSince s
    (¬ blocked → has .fault ∨ (¬ has .held ∧ idle) → s.disengaged a ms = standing settled a) ∧
    (blocked → has .fault → s.disengaged a ms = ms.foldl State.reevaluateRelated (standing settled a)) ∧
    (¬ has .fault → blocked →
      s.disengaged a ms = ms.foldl State.reevaluateRelated (standing (freed.blockedRest ms) a)) ∧
    (¬ has .fault → ¬ blocked → has .held → s.disengaged a ms = standing (freed.heldRest ms) a) := by
  intro ms has freed blocked idle settled
  have isBlocked : (∃ e q, Dest.blocked e q ∈ s.dests ms) ↔ blocked := exists₂_congr fun e q => mem_dests
  have isIdle : (∃ k, Dest.idle k ∈ s.dests ms) ↔ idle := exists_congr fun k => mem_dests
  refine ⟨fun clear h => ?_, fun h fault => ?_, fun noFault h => ?_, fun noFault clear held => ?_⟩
  · have concluded : s.concludeStop ms = settled := by
      by_cases fault : has .fault
      · exact concludeStop_fault (mem_dests.mpr fault)
      · obtain ⟨unheld, rests⟩ := h.resolve_left fault
        exact concludeStop_idle (mt mem_dests.mp fault) (mt isBlocked.mp clear) (mt mem_dests.mp unheld) (isIdle.mpr rests)
    rw [disengaged_unblocked (mt isBlocked.mp clear), concluded]
  · rw [disengaged_blocked (isBlocked.mpr h), concludeStop_fault (mem_dests.mpr fault)]
  · rw [disengaged_blocked (isBlocked.mpr h), concludeStop_blocked (mt mem_dests.mp noFault) (isBlocked.mpr h)]
  · rw [disengaged_unblocked (mt isBlocked.mp clear),
      concludeStop_held (mt mem_dests.mp noFault) (mt isBlocked.mp clear) (mem_dests.mpr held)]

theorem dests_alone {st : Stop} (h : (s.ax a).stop = some st) : s.dests [a] = [st.dest] := by
  simp [State.dests, h]

end Closing

/-! #### A single axis at the end of its closing settle -/

section Alone

variable {s : State} {a : AxisNo} {c : ChanNo} (alone : s.partner a = none)
include alone

theorem settleCloses_alone_engaged (go : (s.ax a).stop = none) : s.settleCloses a = s.engaged a [a] := by
  have members := members_alone alone
  rw [settleCloses_engaged (by rw [members]; simpa using go), members]

theorem disengaged_alone {st : Stop} (stop : (s.ax a).stop = some st) (h : ∀ e q, st.dest ≠ .blocked e q) :
    s.disengaged a (s.members a) = s.concludeStop [a] := by
  have members := members_alone alone
  have other : ¬ ∃ e q, Dest.blocked e q ∈ s.dests (s.members a) := by
    rw [members, dests_alone stop]
    rintro ⟨e, q, mem⟩
    exact h e q (List.mem_singleton.mp mem).symm
  rw [disengaged_unblocked other, members, standing_alone]
  exact (partner_of_placesKept (concludeStop_placesKept s [a]) a).trans alone

theorem disengaged_alone_blocked {st : Stop} (stop : (s.ax a).stop = some st) {e : EntryNo} {q : AxisNo}
    (dest : st.dest = .blocked e q) : s.disengaged a (s.members a) = (s.concludeStop [a]).reevaluateRelated a := by
  have members := members_alone alone
  have blocked : ∃ e q, Dest.blocked e q ∈ s.dests (s.members a) := by
    rw [members, dests_alone stop]
    exact ⟨e, q, List.mem_singleton.mpr dest.symm⟩
  rw [disengaged_blocked blocked, members, standing_alone]
  · rfl
  · exact (partner_of_placesKept (concludeStop_placesKept s [a]) a).trans alone

omit alone in
theorem settleCloses_stopped {st : Stop} (stop : (s.ax a).stop = some st) :
    s.settleCloses a = s.disengaged a (s.members a) :=
  settleCloses_disengaged ⟨a, self_mem_members s a, by rw [stop]; exact Option.some_ne_none st⟩

end Alone

section AloneEnds

variable {s : State} {a : AxisNo} {st : Stop} (stop : (s.ax a).stop = some st)
include stop

theorem concludeStop_alone_rested (h : st.dest = .fault ∨ ∃ k, st.dest = .idle k) :
    s.concludeStop [a] = ((s.releaseAll [a]).modAll [a] Axis.rested).passSince s := by
  have dests := dests_alone stop
  rcases h with fault | ⟨k, idle⟩
  · exact concludeStop_fault (by rw [dests, fault]; exact List.mem_singleton_self _)
  · refine concludeStop_idle ?_ ?_ ?_ ⟨k, ?_⟩ <;> rw [dests, idle] <;> simp

theorem concludeStop_alone_rests {f : Axis → Axis} (rests : (s.ax a).rested = f (s.ax a))
    (h : st.dest = .fault ∨ ∃ k, st.dest = .idle k) : s.concludeStop [a] = ((s.release a).modAx a f).passSince s := by
  rw [concludeStop_alone_rested stop h]
  refine congrArg (State.passSince · s) ?_
  change (s.release a).setAx a ((s.release a).ax a).rested = (s.release a).setAx a (f ((s.release a).ax a))
  rw [release_ax, rests]

theorem concludeStop_alone_held (held : st.dest = .held) : s.concludeStop [a] = (s.releaseAll [a]).heldRest [a] := by
  have dests := dests_alone stop
  refine concludeStop_held ?_ ?_ ?_ <;> rw [dests, held] <;> simp

theorem concludeStop_alone_blocked {e : EntryNo} {q : AxisNo} (blocked : st.dest = .blocked e q) :
    s.concludeStop [a] = (s.releaseAll [a]).blockedRest [a] := by
  have dests := dests_alone stop
  refine concludeStop_blocked ?_ ⟨e, q, ?_⟩ <;> rw [dests, blocked] <;> simp

theorem concludeStop_alone_reversal (reversal : st.dest = .reversal) : s.concludeStop [a] = s.reversalRest [a] := by
  have dests := dests_alone stop
  refine concludeStop_reversal ?_ ?_ ?_ ?_ ?_ <;> rw [dests, reversal] <;> simp

theorem concludeStop_alone_checkDone (tested : st.dest = .checkDone) : s.concludeStop [a] = s.checkRest [a] := by
  have dests := dests_alone stop
  refine concludeStop_checkDone ?_ ?_ ?_ ?_ ?_ ?_ <;> rw [dests, tested] <;> simp

theorem concludeStop_alone_completion {k : Corr} (dest : st.dest = .completion k) : s.concludeStop [a] =
    ((s.releaseAll [a]).finish [a] (jointOutcome [(s.ax a).noted])).engine := by
  have dests := dests_alone stop
  refine concludeStop_completion ?_ ?_ ?_ ?_ ?_ ?_ <;> rw [dests, dest] <;> simp

end AloneEnds

end Sys2Proof.Laws

namespace Sys2Proof.Laws

open Sys2Proof.Machine Sys2Proof.Safety

/-! #### What the end of a closing settle leaves -/

section AloneSettles

variable {s : State} {a : AxisNo} {c : ChanNo} (alone : s.partner a = none) (holds : s.chanOf a = some c)
include holds

/-- The channel of a lone axis goes from closing to opening. -/
theorem releaseAll_settling (state : (s.ch c).state = .settling) :
    s.releaseAll [a] = s.setCh c { s.ch c with state := .settling, closing := some false } := by
  change s.release a = _
  rw [release_held holds, release_settling state]

include alone

theorem settleCloses_alone_drives (go : (s.ax a).stop = none) (untested : (s.ax a).check = none)
    (forward : ∀ m, (s.ax a).move = some m → m.reversed = false) :
    s.settleCloses a = (s.setCh c (s.ch c).closed).enterDriving a := by
  have same : s.modAll [a] Axis.clearReversed = s := modAll_fixed fun b mem => by
    rw [List.mem_singleton.mp mem, clearReversed_eq forward]
  rw [settleCloses_alone_engaged alone go, engaged_drives untested (.inl (by simpa using forward)), same,
    channelsClose_alone holds]
  rfl

theorem settleCloses_alone_tests (go : (s.ax a).stop = none) {k : CheckRec} (check : (s.ax a).check = some k) :
    s.settleCloses a = (s.setCh c (s.ch c).closed).setAx a { s.ax a with
      motion := .checking, driveDir := .high, check := some { k with pulse := some .high, peakHigh := 0, peakLow := 0 } } := by
  rw [settleCloses_alone_engaged alone go, engaged_tests (by rw [check]; exact Option.some_ne_none k),
    channelsClose_alone holds]
  refine congrArg (State.setAx (s.setCh c (s.ch c).closed) a) ?_
  change ({ s.ax a with motion := .checking, stop := none, driveDir := .high, check := (s.ax a).check.map _ } : Axis) = _
  rw [check, ← go]
  rfl

section Turned

variable (go : (s.ax a).stop = none) (untested : (s.ax a).check = none) {m : MoveRec} (move : (s.ax a).move = some m)
include go untested move

theorem settleCloses_alone_turns
    (clear : (s.setAx a { s.ax a with move := some { m with reversed := false } }).anyBlocked [a] = false) :
    s.settleCloses a = State.enterDriving
      ((s.setAx a { s.ax a with move := some { m with reversed := false } }).setCh c (s.ch c).closed) a := by
  have turned : s.modAll [a] Axis.clearReversed = s.setAx a { s.ax a with move := some { m with reversed := false } } := by
    change s.setAx a (s.ax a).clearReversed = _
    rw [Axis.clearReversed, move]
    rfl
  have still := (chanOf_modAll s [a] Axis.clearReversed a).trans holds
  rw [settleCloses_alone_engaged alone go, engaged_drives untested (.inr (by rw [turned]; exact clear)),
    channelsClose_alone still, turned]
  rfl

theorem settleCloses_alone_turn_blocked (state : (s.ch c).state = .settling) (reversed : m.reversed = true)
    (blocked : (s.setAx a { s.ax a with move := some { m with reversed := false } }).anyBlocked [a] = true) :
    s.settleCloses a = ((State.setCh (s.setAx a { s.ax a with move := some { m with reversed := false } }) c
      { s.ch c with state := .settling, closing := some false }).blockEntry [a]).passSince s := by
  have turned : s.modAll [a] Axis.clearReversed = s.setAx a { s.ax a with move := some { m with reversed := false } } := by
    change s.setAx a (s.ax a).clearReversed = _
    rw [Axis.clearReversed, move]
    rfl
  have still := (chanOf_modAll s [a] Axis.clearReversed a).trans holds
  have kept := ((((Controls.refl (F := False) s).modAll [a] _ KeptAxis.clearReversed).releaseAll [a]).blockEntry [a]).passSince s
  have stays := (partner_of_placesKept kept.placesKept a).trans alone
  rw [settleCloses_alone_engaged alone go, engaged_blocked untested ⟨a, List.mem_singleton_self a, m, move, reversed⟩
    (by rw [turned]; exact blocked), cameToRest_alone stays]
  have freed : (s.modAll [a] Axis.clearReversed).releaseAll [a] = _ := release_held still
  have settling : ((s.modAll [a] Axis.clearReversed).ch c).state = .settling := by
    rw [ch_congr (modAll_chans _ _ _)]
    exact state
  rw [freed, release_settling settling, turned]
  rfl

end Turned

section Stopped

variable (state : (s.ch c).state = .settling) {st : Stop} (stop : (s.ax a).stop = some st)
include state stop

theorem settleCloses_alone_rests {f : Axis → Axis} (rests : (s.ax a).rested = f (s.ax a))
    (h : st.dest = .fault ∨ ∃ k, st.dest = .idle k) : s.settleCloses a =
      ((s.setCh c { s.ch c with state := .settling, closing := some false }).modAx a f).passSince s := by
  have other : ∀ e q, st.dest ≠ .blocked e q := fun e q eq => by
    rcases h with h | ⟨k, h⟩ <;> cases eq.symm.trans h
  have freed : s.release a = _ := releaseAll_settling holds state
  rw [settleCloses_stopped stop, disengaged_alone alone stop other, concludeStop_alone_rests stop rests h, freed]

theorem settleCloses_alone_held (held : st.dest = .held) : s.settleCloses a =
    (s.setCh c { s.ch c with state := .settling, closing := some false }).heldRest [a] := by
  rw [settleCloses_stopped stop, disengaged_alone alone stop (fun e q eq => by cases eq.symm.trans held),
    concludeStop_alone_held stop held, releaseAll_settling holds state]

theorem settleCloses_alone_blocks {e : EntryNo} {q : AxisNo} (blocked : st.dest = .blocked e q) : s.settleCloses a =
    ((s.setCh c { s.ch c with state := .settling, closing := some false }).blockedRest [a]).reevaluateRelated a := by
  rw [settleCloses_stopped stop, disengaged_alone_blocked alone stop blocked, concludeStop_alone_blocked stop blocked,
    releaseAll_settling holds state]

end Stopped

end AloneSettles

/-! #### A gang at the end of its closing settle (R72) -/

section Gang

variable {s : State} {a b : AxisNo} (gang : s.partner a = some b)
include gang

theorem mem_members_gang {e : AxisNo} : e ∈ s.members a ↔ e = a ∨ e = b := by
  rw [mem_members_iff, gang, Option.some.injEq, eq_comm, @eq_comm _ b]

theorem channelsClose_members {u : State} {c d : ChanNo} (ne : b ≠ a) (apart : d ≠ c) (first : u.chanOf a = some c)
    (second : u.chanOf b = some d) :
    u.channelsClose (s.members a) = (u.setCh c (u.ch c).closed).setCh d (u.ch d).closed := by
  rw [members_gang gang, channelsClose_gang ne apart first second]

end Gang

/-- Where the axes that move as one stop toward a destination, their stop is over. -/
theorem settleCloses_ends {s : State} {a : AxisNo} (h : ∃ dest, dest ∈ s.dests (s.members a)) :
    s.settleCloses a = s.disengaged a (s.members a) := by
  obtain ⟨dest, mem⟩ := h
  obtain ⟨b, mem, stops⟩ := mem_dests.mp mem
  refine settleCloses_disengaged ⟨b, mem, fun none => ?_⟩
  rw [none] at stops
  cases stops

theorem standsAtTarget_iff_exists {s : State} {as : List AxisNo} : s.standsAtTarget as = true ↔
    ∀ a ∈ as, ∃ m p, (s.ax a).move = some m ∧ (s.ax a).pos = some p ∧ m.endFlag = false ∧ (s.ax a).homing = false ∧
      apart m.target p ≤ m.profile.tolerance := by
  rw [standsAtTarget_iff]
  refine forall₂_congr fun a _ => ⟨?_, ?_⟩
  · rintro ⟨m, move, flag, homing, p, pos, near⟩
    exact ⟨m, p, move, pos, flag, homing, near⟩
  · rintro ⟨m, p, move, pos, flag, homing, near⟩
    exact ⟨m, move, flag, homing, p, pos, near⟩

end Sys2Proof.Laws

/-! ### The ends of relay settles (R34, R42, R51, R67, R72, R86, R87) -/

namespace Sys2Proof.Proofs

open Sys2Proof.Machine Sys2Proof.Safety Sys2Proof.Laws

section Alone

variable {s : State} {a : AxisNo} {c : ChanNo}

theorem settleClose_alone (running : s.power.inReset = false) (state : (s.ch c).state = .settling)
    (closing : (s.ch c).closing = some true) (axis : (s.ch c).axis = some a) (alone : s.partner a = none)
    (holds : s.chanOf a = some c) :
    let x := s.ch c
    let closes (t : State) (d : ChanNo) : State := t.setCh d { s.ch d with state := .granted, closing := none }
    let ends (t : State) := exec (.settleCloseEnd c) s = .next t.settle
    let freed (t : State) : State := t.setCh c { x with state := .settling, closing := some false }
    ((s.ax a).stop = none →
      ((s.ax a).check = none → (∀ m, (s.ax a).move = some m → m.reversed = false) → ends ((closes s c).enterDriving a)) ∧
      (∀ k, (s.ax a).check = some k → ends ((closes s c).setAx a
        { s.ax a with
          motion := .checking, driveDir := .high,
          check := some { k with pulse := some .high, peakHigh := 0, peakLow := 0 } })) ∧
      (∀ m, (s.ax a).check = none → (s.ax a).move = some m → m.reversed = true →
        let u := s.setAx a { s.ax a with move := some { m with reversed := false } }
        (u.anyBlocked [a] = false → ends ((closes u c).enterDriving a)) ∧
        (u.anyBlocked [a] = true → ends (((freed u).blockEntry [a]).passSince s)))) ∧
    (∀ st, (s.ax a).stop = some st →
      (st.dest = .fault → ends (((freed s).modAx a Axis.toFault).passSince s)) ∧
      (∀ k, st.dest = .idle k → ends (((freed s).modAx a (Axis.toIdle k)).passSince s)) ∧
      (st.dest = .held → ends ((freed s).heldRest [a])) ∧
      (∀ e p, st.dest = .blocked e p → ends (((freed s).blockedRest [a]).reevaluateRelated a))) := by
  intro x closes ends freed
  have due {t : State} (h : s.settleCloses a = t) : ends t := by
    change exec (.settleCloseEnd c) s = .next t.settle
    rw [exec_settleCloseEnd running, settleCloseEffect_due state closing axis, h]
  refine ⟨fun go => ⟨fun untested forward => due (settleCloses_alone_drives alone holds go untested forward),
    fun k check => due (settleCloses_alone_tests alone holds go check), fun m untested move reversed =>
      ⟨fun clear => due (settleCloses_alone_turns alone holds go untested move clear),
      fun blocked => due (settleCloses_alone_turn_blocked alone holds go untested move state reversed blocked)⟩⟩,
    fun st stop => ⟨fun fault => ?_, fun k idle => ?_,
      fun held => due (settleCloses_alone_held alone holds state stop held),
      fun e p blocked => due (settleCloses_alone_blocks alone holds state stop blocked)⟩⟩
  · exact due (settleCloses_alone_rests alone holds state stop (rested_fault (by rw [stop, ← fault]; rfl)) (.inl fault))
  · exact due (settleCloses_alone_rests alone holds state stop (rested_idle (by rw [stop, ← idle]; rfl)) (.inr ⟨k, idle⟩))

end Alone

section Gang

variable {s : State} {a b : AxisNo} {c d : ChanNo}

theorem settleClose_gang (running : s.power.inReset = false) (state : (s.ch c).state = .settling)
    (closing : (s.ch c).closing = some true) (axis : (s.ch c).axis = some a) (gang : s.partner a = some b) (ne : b ≠ a)
    (first : s.chanOf a = some c) (second : s.chanOf b = some d) (apart : d ≠ c) :
    let closes (t : State) (d : ChanNo) : State := t.setCh d { s.ch d with state := .granted, closing := none }
    let ends (t : State) := exec (.settleCloseEnd c) s = .next t.settle
    let ms := s.members a
    let both (t : State) : State := closes (closes t c) d
    let reversed (y : Axis) := ∃ m, y.move = some m ∧ m.reversed = true
    ((s.ax a).stop = none → (s.ax b).stop = none →
      ((s.ax a).check ≠ none → ends ((both s).modAll ms (fun y => { y with
        motion := .checking, stop := none, driveDir := .high,
        check := y.check.map (fun k => { k with pulse := some .high, peakHigh := 0, peakLow := 0 }) }))) ∧
      ((s.ax a).check = none →
        let u := s.modAll ms (fun y => { y with move := y.move.map (fun m => { m with reversed := false }) })
        let asks := reversed (s.ax a) ∨ reversed (s.ax b)
        (¬ asks ∨ u.anyBlocked ms = false → ends (ms.foldl State.enterDriving (both u))) ∧
        (asks → u.anyBlocked ms = true → ends (standing (((u.releaseAll ms).blockEntry ms).passSince s) a)))) ∧
    (let has (dest : Dest) := ∃ e ∈ ms, (s.ax e).stop.map Stop.dest = some dest
      let freed := s.releaseAll ms
      let blocked := ∃ e q, has (.blocked e q)
      let idle := ∃ k, has (.idle k)
      let settled := (freed.modAll ms Axis.rested).passSince s
      (¬ blocked → has .fault ∨ (¬ has .held ∧ idle) → ends (standing settled a)) ∧
      (blocked → has .fault → ends (ms.foldl State.reevaluateRelated (standing settled a))) ∧
      (¬ has .fault → blocked → ends (ms.foldl State.reevaluateRelated (standing (freed.blockedRest ms) a))) ∧
      (¬ has .fault → ¬ blocked → has .held → ends (standing (freed.heldRest ms) a))) := by
  intro closes ends ms both reversed
  have due {t : State} (h : s.settleCloses a = t) : ends t := by
    change exec (.settleCloseEnd c) s = .next t.settle
    rw [exec_settleCloseEnd running, settleCloseEffect_due state closing axis, h]
  refine ⟨fun goA goB => ?_, ?_⟩
  · have engages : s.settleCloses a = s.engaged a ms := settleCloses_engaged fun e mem => by
      rcases (mem_members_gang gang).mp mem with rfl | rfl
      · exact goA
      · exact goB
    refine ⟨fun tested => due ?_, fun untested => ?_⟩
    · rw [engages, engaged_tests tested, channelsClose_members gang ne apart first second]
      rfl
    · intro u asks
      have chans (e : ChanNo) : u.ch e = s.ch e := ch_congr (modAll_chans s ms _) e
      have closed : u.channelsClose ms = both u := by
        rw [channelsClose_members gang ne apart ((chanOf_modAll s ms _ a).trans first) ((chanOf_modAll s ms _ b).trans second),
          chans, chans]
        rfl
      refine ⟨fun h => due ?_, fun h blocked => due ?_⟩
      · rw [engages, engaged_drives untested]
        · exact congrArg (List.foldl State.enterDriving · ms) closed
        · refine h.imp_left fun forward e mem m move => ?_
          rw [← Bool.not_eq_true]
          intro turned
          rcases (mem_members_gang gang).mp mem with rfl | rfl
          · exact forward (.inl ⟨m, move, turned⟩)
          · exact forward (.inr ⟨m, move, turned⟩)
      · have asked : ∃ e ∈ ms, ∃ m, (s.ax e).move = some m ∧ m.reversed = true := by
          rcases h with turned | turned
          · exact ⟨a, (mem_members_gang gang).mpr (.inl rfl), turned⟩
          · exact ⟨b, (mem_members_gang gang).mpr (.inr rfl), turned⟩
        rw [engages, engaged_blocked untested asked blocked, cameToRest_eq]
        rfl
  · intro has freed blocked idle settled
    have ending {dest : Dest} (h : has dest) : s.settleCloses a = s.disengaged a ms :=
      settleCloses_ends ⟨dest, mem_dests.mpr h⟩
    obtain ⟨rests, restsBlocked, blocks, holds⟩ := disengaged_ends s a
    refine ⟨fun clear h => due ?_, fun h fault => due ((ending fault).trans (restsBlocked h fault)),
      fun noFault h => due ?_, fun noFault clear held => due ((ending held).trans (holds noFault clear held))⟩
    · refine Eq.trans ?_ (rests clear h)
      rcases h with fault | ⟨-, k, idles⟩
      · exact ending fault
      · exact ending idles
    · obtain ⟨e, q, stops⟩ := h
      exact (ending stops).trans (blocks noFault ⟨e, q, stops⟩)

end Gang

theorem stopEnds (s : State) (as : List AxisNo) :
    let blocked (t : State) := ∃ a ∈ as, t.ask a (t.wantDirs a) ≠ none
    let creep (t : State) : State := if ∀ a ∈ as, (t.ax a).ref = .valid then t else
      t.modAll as (fun x => { x with move := x.move.map (fun m => { m with forcedCreep := true }) })
    let there (t : State) := ∀ a ∈ as, ∃ m p, (t.ax a).move = some m ∧ (t.ax a).pos = some p ∧ m.endFlag = false ∧
      (t.ax a).homing = false ∧ apart m.target p ≤ m.profile.tolerance
    let stopped := s.modAll as (fun x => { x with motion := .idle, phase := none, stop := none, noted := none })
    let u := stopped.passSince s
    let c := creep stopped
    (there u → s.heldRest as = (u.finish as .done).engine) ∧
    (¬ there u → blocked (creep u) → s.heldRest as = ((creep u).blockEntry as).passSince (creep u)) ∧
    (¬ there u → ¬ blocked (creep u) → s.heldRest as = (creep u).joinQueue as true) ∧
    (blocked u → s.blockedRest as = (u.blockEntry as).passSince u) ∧
    (¬ blocked u → there u → s.blockedRest as = (u.finish as .done).engine) ∧
    (¬ blocked u → ¬ there u → s.blockedRest as = (creep u).joinQueue as false) ∧
    (there s → s.reversalRest as = ((s.releaseAll as).finish as .already).engine) ∧
    (¬ there s → blocked c → s.reversalRest as = ((c.releaseAll as).blockEntry as).passSince s) ∧
    (¬ there s → ¬ blocked c → s.reversalRest as = as.foldl State.enterDriving c) := by
  intro blocked creep there stopped u c
  have asks {t : State} : t.anyBlocked as = true ↔ blocked t := anyBlocked_iff
  have stands {t : State} : t.standsAtTarget as = true ↔ there t := standsAtTarget_iff_exists
  have crept (t : State) : creep t = t.reevaluateCreep as := (reevaluateCreep_eq t as).symm
  have crept' : c = stopped.reevaluateCreep as := crept stopped
  rw [crept', crept u]
  exact ⟨fun at_target => heldRest_there (stands.mpr at_target),
    fun away h => heldRest_blocked (mt stands.mp away) (asks.mpr h),
    fun away h => heldRest_waits (mt stands.mp away) (mt asks.mp h),
    fun h => blockedRest_blocked (asks.mpr h),
    fun h at_target => (blockedRest_proceeds (mt asks.mp h)).trans (proceed_there (stands.mpr at_target)),
    fun h away => (blockedRest_proceeds (mt asks.mp h)).trans (proceed_away (mt stands.mp away)),
    fun at_target => reversalRest_there (stands.mpr at_target),
    fun away h => reversalRest_blocked (mt stands.mp away) (asks.mpr h),
    fun away h => reversalRest_drives (mt stands.mp away) (mt asks.mp h)⟩

/-- Settles O58: an end of a settle takes its effect by the state of its channel and the recorded destinations, a single axis
by itself and a gang as one. -/
theorem relaysSettle : Obligations.RelaysSettle := by
  refine ⟨⟨fun s a m => enterDriving_eq, fun s c running => ?_⟩, stopEnds, fun s a => ⟨release_unheld, fun c holds => ?_⟩,
    fun s a as => ⟨fun c => ?_, rfl⟩, fun x => ⟨rested_fault, fun k => rested_idle, rested_other, rfl, fun k => rfl⟩⟩
  · intro x closes ends
    have opens := exec_settleOpenEnd running c
    have closed := exec_settleCloseEnd running c
    refine ⟨fun a state closing axis alone holds => settleClose_alone running state closing axis alone holds,
      fun a b d state closing axis gang ne first second apart =>
        settleClose_gang running state closing axis gang ne first second apart,
      fun state closing => ?_, fun state opening => ?_, fun state => ⟨?_, fun untripped => ?_⟩, fun state h => ?_,
      fun state closing => ?_, fun state opening => ?_⟩
    · rw [opens, settleOpenEffect_opens state closing]
    · rw [opens, settleOpenEffect_tripped state, if_pos opening]
    · rw [closed, settleCloseEffect_undue (.inl state)]
    · rw [opens, settleOpenEffect_undue untripped (.inl state)]
    · rw [closed, settleCloseEffect_undue (.inr h)]
    · rw [opens, settleOpenEffect_undue (fun tripped => by cases tripped.symm.trans state) (.inr closing)]
    · rw [opens, settleOpenEffect_tripped state, if_neg (by rw [opening]; decide)]
  · rw [release_held holds, release_eq]
  · rw [chanOf_eq_some]
    simp only [holds_iff, ← Bool.not_eq_true]

end Sys2Proof.Proofs

/-! ### Standstill -/

namespace Sys2Proof.Laws

open Sys2Proof.Machine Sys2Proof.Safety

/-! #### The event (R39) -/

section Event

variable {s : State} {a : AxisNo} (running : s.power.inReset = false)
include running

theorem exec_standstill_stopping {st : Stop} (motion : (s.ax a).motion = .stopping) (stop : (s.ax a).stop = some st)
    (going : st.arrived = false) : exec (.standstill a) s = .next (s.standstillStopping a st).settle := by
  simp only [exec, execStandstill, event_runs running, motion, stop, going]
  rfl

theorem exec_standstill_backoff {k : Backoff} (motion : (s.ax a).motion = .backoff) (backoff : (s.ax a).backoff = some k)
    (forward : k.step ≠ .reverse) (going : k.rest = false) :
    exec (.standstill a) s = .next (s.standstillBackoff a k).settle := by
  simp only [exec, execStandstill, event_runs running, motion, backoff, going, forward, decide_false, Bool.or_false]
  rfl

theorem exec_standstill_reversing {k : Backoff} (motion : (s.ax a).motion = .backoff) (backoff : (s.ax a).backoff = some k)
    (reverse : k.step = .reverse) : exec (.standstill a) s = .next s.settle := by
  simp only [exec, execStandstill, event_runs running, motion, backoff, reverse, decide_true, Bool.true_or, if_true]

theorem exec_standstill_undue (h : ((s.ax a).motion ≠ .stopping ∧ (s.ax a).motion ≠ .backoff) ∨
    ∃ st, (s.ax a).motion = .stopping ∧ (s.ax a).stop = some st ∧ st.arrived = true) :
    exec (.standstill a) s = .next s.settle := by
  rcases h with ⟨going, other⟩ | ⟨st, motion, stop, arrived⟩
  · cases motion : (s.ax a).motion
    case stopping => exact absurd motion going
    case backoff => exact absurd motion other
    all_goals simp only [exec, execStandstill, event_runs running, motion]
  · simp only [exec, execStandstill, event_runs running, motion, stop, arrived, if_true]

end Event

/-! #### Arrival (R72, R75, R79) -/

/-- An axis at its own standstill. -/
def reached (s : State) (a : AxisNo) : State :=
  s.modAx a (fun x => { x with stop := x.stop.map (fun st => { st with arrived := true, ramping := false }) })

section Arrive

variable {s : State} {a : AxisNo}

theorem reached_eq {st : Stop} (stop : (s.ax a).stop = some st) :
    reached s a = s.setAx a { s.ax a with stop := some { st with arrived := true, ramping := false } } := by
  change s.setAx a { s.ax a with stop := (s.ax a).stop.map _ } = _
  rw [stop]
  rfl

theorem arrive_eq (s : State) (a : AxisNo) : s.arrive a =
    if ((reached s a).members a).all (fun b => ((reached s a).ax b).hasArrived) then
      ((reached s a).concludeStop (((reached s a).members a).filter (fun b =>
        decide (((reached s a).ax b).motion = .stopping)))).cameToRest a
          (((reached s a).dests ((reached s a).members a)).any Dest.isBlocked)
    else reached s a := rfl

theorem arrive_waits {b : AxisNo} (mem : b ∈ (reached s a).members a) (going : ((reached s a).ax b).hasArrived = false) :
    s.arrive a = reached s a := by
  rw [arrive_eq, if_neg]
  intro all
  rw [List.all_eq_true.mp all b mem] at going
  cases going

/-- A stop is over once all of its axes have arrived; what follows is what follows a settle with a destination. -/
theorem arrive_ends (all : ∀ b ∈ (reached s a).members a, ((reached s a).ax b).motion = .stopping ∧
    ((reached s a).ax b).hasArrived = true) : s.arrive a = (reached s a).disengaged a ((reached s a).members a) := by
  have whole : ((reached s a).members a).filter (fun b => decide (((reached s a).ax b).motion = .stopping)) =
      (reached s a).members a := List.filter_eq_self.mpr fun b mem => decide_eq_true (all b mem).1
  rw [arrive_eq, if_pos (List.all_eq_true.mpr fun b mem => (all b mem).2), whole]
  rfl

theorem hasArrived_stopping {x : Axis} (motion : x.motion = .stopping) {st : Stop} (stop : x.stop = some st) :
    x.hasArrived = st.arrived := by
  simp only [Axis.hasArrived, motion, stop]

/-- An axis that has yet to come to rest. -/
def Moves (y : Axis) : Prop := y.motion = .engaging ∨ y.motion = .driving ∨ y.motion = .backoff ∨ y.motion = .checking ∨
  (y.motion = .stopping ∧ ∃ sb, y.stop = some sb ∧ sb.arrived = false)

theorem hasArrived_eq_false_iff {y : Axis} : y.hasArrived = false ↔ Moves y := by
  unfold Moves
  cases motion : y.motion <;> cases stop : y.stop <;> simp [Axis.hasArrived, motion, stop]

end Arrive

/-! #### The evaluation of a stop toward completion (R44, R123) -/

section Evaluate

variable {s : State} {a : AxisNo} {m : MoveRec} {p : Nat} {k : Corr}

/-- The direction of a correction. -/
def correctionDir (m : MoveRec) (p : Nat) : Dir := if p < m.target then .high else .low

theorem towards_far (far : m.profile.tolerance < apart m.target p) :
    towards (some p) m.target false = some (correctionDir m p) := by
  have ne : p ≠ m.target := fun e => by
    rw [e] at far
    simp [apart] at far
  unfold towards correctionDir
  dsimp only
  split
  · rfl
  · rw [if_pos (by omega)]

/-- A noted outcome, with the arrival. -/
def notes (s : State) (a : AxisNo) (o : MoveOutcome) : State := s.modAx a (fun x => { x with noted := some o })

theorem standstillStopping_evaluates {st : Stop} (dest : st.dest = .completion k) (unnoted : (s.ax a).noted = none)
    (move : (s.ax a).move = some m) : s.standstillStopping a st = s.evaluate a m k := by
  simp only [State.standstillStopping, dest, unnoted, move]

theorem standstillStopping_arrives {st : Stop} (h : (∀ k, st.dest ≠ .completion k) ∨ (s.ax a).noted ≠ none) :
    s.standstillStopping a st = s.arrive a := by
  unfold State.standstillStopping
  split
  · next k m dest unnoted move =>
    rcases h with h | h
    · exact absurd dest (h k)
    · exact absurd unnoted h
  · rfl

variable (pos : (s.ax a).pos = some p)
include pos

theorem evaluate_done (near : apart m.target p ≤ m.profile.tolerance) : s.evaluate a m k = (notes s a .done).arrive a := by
  simp only [State.evaluate, pos, if_pos near]
  rfl

variable (far : m.profile.tolerance < apart m.target p)
include far

theorem evaluate_near (used : 2 ≤ m.corrections) : s.evaluate a m k = (notes s a .near).arrive a := by
  simp only [State.evaluate, pos, if_neg (Nat.not_le.mpr far), if_pos used]
  rfl

variable (left : m.corrections < 2)
include left

theorem evaluate_held : s.evaluate a m .held = s.turn a .revoke := by
  simp only [State.evaluate, pos, if_neg (Nat.not_le.mpr far), if_neg (Nat.not_le.mpr left)]

theorem evaluate_blocked (e : EntryNo) (q : AxisNo) : s.evaluate a m (.blocked e q) = s.turn a (.block e q) := by
  simp only [State.evaluate, pos, if_neg (Nat.not_le.mpr far), if_neg (Nat.not_le.mpr left)]

theorem evaluate_asks {e : EntryNo} {q : AxisNo} (asks : s.askCorrection a (correctionDir m p) = some (e, q)) :
    s.evaluate a m .correct = s.turn a (.block e q) := by
  simp only [State.evaluate, pos, if_neg (Nat.not_le.mpr far), if_neg (Nat.not_le.mpr left), towards_far far, asks]

theorem evaluate_corrects (clear : s.askCorrection a (correctionDir m p) = none) :
    s.evaluate a m .correct = s.enterCorrect a (correctionDir m p) := by
  simp only [State.evaluate, pos, if_neg (Nat.not_le.mpr far), if_neg (Nat.not_le.mpr left), towards_far far, clear]

end Evaluate

section Ask

variable {s t : State}

theorem askCorrection_own {a : AxisNo} {d : Dir} {hit : EntryNo × AxisNo} (own : s.ask a [d] = some hit) :
    s.askCorrection a d = some hit := by
  simp only [State.askCorrection, own]

theorem askCorrection_alone {a : AxisNo} {d : Dir} (alone : s.partner a = none) (own : s.ask a [d] = none) :
    s.askCorrection a d = none := by
  simp only [State.askCorrection, own, alone]

theorem askCorrection_partner {a b : AxisNo} {d : Dir} (gang : s.partner a = some b) (own : s.ask a [d] = none) :
    s.askCorrection a d = s.ask b (s.nowDirs b) := by
  simp only [State.askCorrection, own, gang]

/-- The question reads the entries, the records and the positions. -/
theorem ask_congr (entries : t.entries = s.entries) (kept : PlacesKept s t) : t.ask = s.ask := by
  funext a dirs
  have travel (b : AxisNo) : t.travel b = s.travel b := by
    unfold State.travel
    rw [(kept b).config]
  unfold State.ask State.conflict State.occupied State.deeperIn
  simp only [entries, travel, (kept _).pos]

end Ask

theorem enterCorrect_eq {s : State} {a : AxisNo} {m : MoveRec} (move : (s.ax a).move = some m) (d : Dir) :
    s.enterCorrect a d = s.setAx a { s.ax a with
      motion := .driving, phase := some .correct, rampCounts := 0, blanking := true, stop := none, driveDir := d,
      noStop := false, move := some { m with corrections := m.corrections + 1 } } := by
  unfold State.enterCorrect
  rw [modAx_eq, move]
  rfl

end Sys2Proof.Laws

namespace Sys2Proof.Laws

open Sys2Proof.Machine Sys2Proof.Safety

/-! #### A single axis that arrives -/

theorem setAx_placesKept {s : State} {a : AxisNo} {y : Axis} (h : SamePlace (s.ax a) y) : PlacesKept s (s.setAx a y) := by
  intro b
  rw [ax_setAx]
  split
  · next e => rw [e]; exact h
  · exact SamePlace.refl _

section ArriveAlone

variable {s z : State} {a : AxisNo} (at_z : reached s a = z) (alone : z.partner a = none)
  (motion : (z.ax a).motion = .stopping) {st : Stop} (stop : (z.ax a).stop = some st) (arrived : st.arrived = true)
include at_z alone motion stop arrived

theorem arrive_alone_ends : s.arrive a = z.disengaged a (z.members a) := by
  rw [← at_z] at *
  refine arrive_ends fun b mem => ?_
  rw [members_alone alone] at mem
  rw [List.mem_singleton.mp mem]
  exact ⟨motion, (hasArrived_stopping motion stop).trans arrived⟩

theorem arrive_alone (h : ∀ e q, st.dest ≠ .blocked e q) : s.arrive a = z.concludeStop [a] := by
  rw [arrive_alone_ends at_z alone motion stop arrived, disengaged_alone alone stop h]

theorem arrive_alone_rests {f : Axis → Axis} (rests : (z.ax a).rested = f (z.ax a))
    (h : st.dest = .fault ∨ ∃ k, st.dest = .idle k) : s.arrive a = ((z.release a).modAx a f).passSince z := by
  rw [arrive_alone at_z alone motion stop arrived, concludeStop_alone_rests stop rests h]
  intro e q eq
  rcases h with h | ⟨k, h⟩ <;> cases eq.symm.trans h

theorem arrive_alone_held (held : st.dest = .held) : s.arrive a = (z.release a).heldRest [a] := by
  rw [arrive_alone at_z alone motion stop arrived (fun e q eq => by cases eq.symm.trans held),
    concludeStop_alone_held stop held]
  rfl

theorem arrive_alone_blocked {e : EntryNo} {q : AxisNo} (blocked : st.dest = .blocked e q) :
    s.arrive a = ((z.release a).blockedRest [a]).reevaluateRelated a := by
  rw [arrive_alone_ends at_z alone motion stop arrived, disengaged_alone_blocked alone stop blocked,
    concludeStop_alone_blocked stop blocked]
  rfl

theorem arrive_alone_reversal (reversal : st.dest = .reversal) : s.arrive a = z.reversalRest [a] := by
  rw [arrive_alone at_z alone motion stop arrived (fun e q eq => by cases eq.symm.trans reversal),
    concludeStop_alone_reversal stop reversal]

theorem arrive_alone_checkDone (tested : st.dest = .checkDone) : s.arrive a = z.checkRest [a] := by
  rw [arrive_alone at_z alone motion stop arrived (fun e q eq => by cases eq.symm.trans tested),
    concludeStop_alone_checkDone stop tested]

theorem arrive_alone_completion {k : Corr} (dest : st.dest = .completion k) {o : MoveOutcome} (noted : (z.ax a).noted = some o)
    (final : o = .done ∨ o = .near ∨ o = .atEnd ∨ o = .endEarly) : s.arrive a = ((z.release a).finish [a] o).engine := by
  have joint : jointOutcome [some o] = o := by
    rcases final with rfl | rfl | rfl | rfl <;> decide
  rw [arrive_alone at_z alone motion stop arrived (fun e q eq => by cases eq.symm.trans dest),
    concludeStop_alone_completion stop dest, noted, joint]
  rfl

end ArriveAlone

/-! #### A stop that a correction becomes (R75, R91, R109) -/

section Turn

variable {s : State} {a : AxisNo} {st : Stop} (motion : (s.ax a).motion = .stopping) (stop : (s.ax a).stop = some st)
include stop

/-- The stop of an axis turned to a request's destination. -/
def turnedTo (s : State) (a : AxisNo) (st : Stop) (dest : Dest) : State :=
  s.setAx a { s.ax a with stop := some { st with dest := dest } }

theorem turn_alone (alone : s.partner a = none) (r : StopReq) :
    s.turn a r = ((turnedTo s a st r.dest).passSince s).arrive a := by
  have turned : s.modAx a (fun x => { x with stop := x.stop.map (fun st => { st with dest := r.dest }) }) =
      turnedTo s a st r.dest := by
    change s.setAx a { s.ax a with stop := (s.ax a).stop.map _ } = _
    rw [stop]
    rfl
  unfold State.turn
  dsimp only
  rw [alone, turned]

include motion

/-- The charge of a completion ends where its stop turns, unless a revocation has ended it before (R91, R106). -/
theorem passSince_turned {k : Corr} (completes : st.dest = .completion k) {dest : Dest}
    (turns : dest = .held ∨ ∃ e q, dest = .blocked e q) : (turnedTo s a st dest).passSince s =
      if st.revoked = true then turnedTo s a st dest else (turnedTo s a st dest).grantPass := by
  have now (b : AxisNo) : (turnedTo s a st dest).ax b = if b = a then { s.ax a with stop := some { st with dest := dest } }
      else s.ax b := ax_setAx s a b _
  have before : (s.ax a).charged = !st.revoked := by
    simp only [Axis.charged, motion, stop, completes]
  have after : ((turnedTo s a st dest).ax a).charged = false := by
    rw [now, if_pos rfl]
    rcases turns with rfl | ⟨e, q, rfl⟩ <;> simp only [Axis.charged, motion]
  by_cases revoked : st.revoked = true
  · rw [if_pos revoked]
    refine passSince_none (Bool.eq_false_iff.mpr fun gone => ?_)
    rcases departed_iff.mp gone with ⟨q, mem, left, -⟩ | ⟨b, charged, free⟩
    · exact left mem
    · rw [now] at free
      split at free
      · next own =>
        rw [own, before, revoked] at charged
        cases charged
      · rw [charged] at free
        cases free
  · rw [if_neg revoked]
    refine passSince_departed (departed_iff.mpr (.inr ⟨a, ?_, after⟩))
    rw [before, Bool.eq_false_iff.mpr revoked]
    rfl

variable (unqueued : ∀ q ∈ s.queue, q.axis ≠ a ∧ q.partner ≠ some a)
include unqueued

/-- Where a turned stop of a single axis stands at its end. -/
theorem reached_turned {k : Corr} (completes : st.dest = .completion k) {dest : Dest}
    (turns : dest = .held ∨ ∃ e q, dest = .blocked e q) : reached ((turnedTo s a st dest).passSince s) a =
      (if st.revoked = true then turnedTo s a st dest else (turnedTo s a st dest).grantPass).setAx a { s.ax a with
        stop := some { st with dest := dest, arrived := true, ramping := false } } := by
  have own : ((if st.revoked = true then turnedTo s a st dest else (turnedTo s a st dest).grantPass).ax a) =
      { s.ax a with stop := some { st with dest := dest } } := by
    split
    · exact ax_setAx_self s a _
    · exact (ax_grantPass (s := turnedTo s a st dest) unqueued).trans (ax_setAx_self s a _)
  have stops := congrArg Axis.stop own
  rw [passSince_turned motion stop completes turns, reached_eq stops, own]

end Turn

/-! #### A single axis in BACKOFF (R57, R59, R77) -/

section Backoff

variable {s : State} {a : AxisNo} {k : Backoff}

/-- An axis of a backoff at its own standstill. -/
def backoffReached (s : State) (a : AxisNo) (k : Backoff) : State :=
  s.setAx a { s.ax a with backoff := some { k with rest := true } }

/-- An axis has reached the standstill of a step. -/
def RestsIn (x : Axis) (step : BackoffStep) : Prop :=
  x.motion = .backoff ∧ ∃ j, x.backoff = some j ∧ j.step = step ∧ j.rest = true

theorem standstillBackoff_eq (s : State) (a : AxisNo) (k : Backoff) : s.standstillBackoff a k =
    let z := backoffReached s a k
    if (z.members a).all (fun b => match (z.ax b).motion, (z.ax b).backoff with
      | .backoff, some j => decide (j.step = k.step) && j.rest
      | _, _ => false) then
      match k.step with
      | .brake => z.beginReverse a k.dir
      | .finish => z.endBackoff a
      | .reverse => z
    else z := rfl

theorem all_restsIn {z : State} {as : List AxisNo} {step : BackoffStep} :
    as.all (fun b => match (z.ax b).motion, (z.ax b).backoff with
      | .backoff, some j => decide (j.step = step) && j.rest
      | _, _ => false) = true ↔ ∀ b ∈ as, RestsIn (z.ax b) step := by
  rw [List.all_eq_true]
  refine forall₂_congr fun b _ => ?_
  unfold RestsIn
  cases motion : (z.ax b).motion <;> cases backoff : (z.ax b).backoff <;> simp

theorem standstillBackoff_waits (h : ¬ ∀ b ∈ (backoffReached s a k).members a, RestsIn ((backoffReached s a k).ax b) k.step) :
    s.standstillBackoff a k = backoffReached s a k := by
  rw [standstillBackoff_eq]
  exact if_neg (mt all_restsIn.mp h)

variable (all : ∀ b ∈ (backoffReached s a k).members a, RestsIn ((backoffReached s a k).ax b) k.step)
include all

theorem standstillBackoff_brakes (brake : k.step = .brake) :
    s.standstillBackoff a k = (backoffReached s a k).beginReverse a k.dir := by
  rw [standstillBackoff_eq]
  refine (if_pos (all_restsIn.mpr all)).trans ?_
  rw [brake]

theorem standstillBackoff_finishes (finish : k.step = .finish) :
    s.standstillBackoff a k = (backoffReached s a k).endBackoff a := by
  rw [standstillBackoff_eq]
  refine (if_pos (all_restsIn.mpr all)).trans ?_
  rw [finish]

end Backoff

section BeginReverse

variable {s : State} {a : AxisNo} {d : Dir}

theorem beginReverse_clear (clear : ∀ b ∈ s.members a, s.ask b [d] = none) :
    s.beginReverse a d = (s.members a).foldl State.enterReverse s := by
  refine if_neg fun any => ?_
  obtain ⟨b, mem, asks⟩ := List.any_eq_true.mp any
  rw [clear b mem] at asks
  cases asks

theorem beginReverse_blocked (blocked : ∃ b ∈ s.members a, s.ask b [d] ≠ none) : s.beginReverse a d =
    ((((s.cutBackoff a .quick).releaseAll (s.members a)).modAll (s.members a) Axis.rested).passSince s).cameToRest a false := by
  obtain ⟨b, mem, asks⟩ := blocked
  exact if_pos (List.any_eq_true.mpr ⟨b, mem, Option.isSome_iff_ne_none.mpr asks⟩)

end BeginReverse

theorem release_setAx (s : State) (a b : AxisNo) (y : Axis) : (s.setAx b y).release a = (s.release a).setAx b y := by
  have same : (s.setAx b y).chanOf a = s.chanOf a := rfl
  cases held : s.chanOf a with
  | none => rw [release_unheld held, release_unheld (same.trans held)]
  | some c =>
    rw [release_held held, release_held (same.trans held)]
    rfl

/-- The end of a backoff of a single axis: the channel released, the axis as `z` says, no gang to check. -/
theorem backoff_ends_alone {s : State} {a : AxisNo} {f : Axis → Axis} {y z : Axis} (alone : s.partner a = none)
    (ends : f y = z) (place : SamePlace (s.ax a) z) :
    ((((s.setAx a y).releaseAll [a]).modAll [a] f).passSince s).cameToRest a false =
      ((s.release a).setAx a z).passSince s := by
  have closed : ((s.setAx a y).releaseAll [a]).modAll [a] f = (s.release a).setAx a z := by
    change State.modAx (State.release (s.setAx a y) a) a f = _
    rw [release_setAx, modAx_eq, ax_setAx_self, setAx_setAx, ends]
  have kept : PlacesKept s ((s.release a).setAx a z) :=
    (PlacesKept.of_axes (release_axes s a)).trans (setAx_placesKept (by rw [release_ax]; exact place))
  rw [closed, cameToRest_alone]
  · rfl
  · exact (partner_of_placesKept (kept.controls ((Controls.refl (F := False) _).passSince s)) a).trans alone

section CutAxis

variable {x : Axis} {j : Backoff} (backoff : x.backoff = some j) (mode : StopMode)
include backoff

/-- An axis whose backoff a keep-out block has cut, at rest without a fault (R59). -/
theorem cutAxis_rested_clear (clear : x.fault = none) : (cutAxis mode x).rested = x.toIdle false := by
  simp only [cutAxis, backoff]
  rw [cutShort_eq, clear]
  change Axis.toIdle false _ = _
  simp only [Axis.toIdle, clear]
  rfl

theorem cutAxis_rested_faulted {f : FaultRec} (fault : x.fault = some f) : (cutAxis mode x).rested =
    { x.toFault with fault := some (if f.kind = .obstruction then { f with backoff := .cutShort } else f) } := by
  simp only [cutAxis, backoff]
  rw [cutShort_eq, fault]
  rfl

theorem backoffDone_faulted (faulted : j.faulted = true) :
    x.backoffDone = { x.toFault with fault := x.fault.map (fun f => { f with backoff := .done }) } := by
  simp only [Axis.backoffDone, backoff, faulted, if_true]
  rfl

theorem backoffDone_partner (sound : j.faulted = false) :
    x.backoffDone = if x.fault = none then x.toIdle false else x.toFault := by
  cases fault : x.fault <;> simp [Axis.backoffDone, backoff, sound, fault]

end CutAxis

end Sys2Proof.Laws

/-! ### The standstill of a single axis (R39, R44, R57) -/

namespace Sys2Proof.Proofs

open Sys2Proof.Machine Sys2Proof.Safety Sys2Proof.Laws

section Stopping

variable {s : State} {a : AxisNo} (running : s.power.inReset = false) (alone : s.partner a = none)
  (motion : (s.ax a).motion = .stopping) {st : Stop} (stop : (s.ax a).stop = some st) (going : st.arrived = false)

theorem partner_setAx {y : Axis} (h : SamePlace (s.ax a) y) (alone : s.partner a = none) :
    (s.setAx a y).partner a = none :=
  (partner_of_placesKept (setAx_placesKept h) a).trans alone

include running alone motion stop going

theorem standstill_alone_arrives :
    let x := s.ax a
    let rest (st : Stop) := s.setAx a { x with stop := some { st with arrived := true, ramping := false } }
    (st.dest = .fault → exec (.standstill a) s =
      .next (State.settle ((((rest st).release a).modAx a Axis.toFault).passSince (rest st)))) ∧
    (∀ k, st.dest = .idle k → exec (.standstill a) s =
      .next (State.settle ((((rest st).release a).modAx a (Axis.toIdle k)).passSince (rest st)))) ∧
    (st.dest = .held → exec (.standstill a) s = .next (State.settle (((rest st).release a).heldRest [a]))) ∧
    (∀ e p, st.dest = .blocked e p → exec (.standstill a) s =
      .next (State.settle ((((rest st).release a).blockedRest [a]).reevaluateRelated a))) ∧
    (st.dest = .reversal → exec (.standstill a) s = .next (State.settle ((rest st).reversalRest [a]))) ∧
    (st.dest = .checkDone → exec (.standstill a) s = .next (State.settle ((rest st).checkRest [a]))) ∧
    (∀ k o, st.dest = .completion k → x.noted = some o → o = .done ∨ o = .near ∨ o = .atEnd ∨ o = .endEarly →
      exec (.standstill a) s = .next (State.settle ((((rest st).release a).finish [a] o).engine))) := by
  intro x rest
  have at_z : reached s a = rest st := reached_eq stop
  have own : (rest st).ax a = { x with stop := some { st with arrived := true, ramping := false } } := ax_setAx_self s a _
  have lone : (rest st).partner a = none := partner_setAx ⟨rfl, rfl, rfl, rfl, .inl rfl⟩ alone
  have moves : ((rest st).ax a).motion = .stopping := (congrArg Axis.motion own).trans motion
  have stops := congrArg Axis.stop own
  have event := exec_standstill_stopping running motion stop going
  have ends {t : State} (h : (∀ k, st.dest ≠ .completion k) ∨ (s.ax a).noted ≠ none) (e : s.arrive a = t) :
      exec (.standstill a) s = .next t.settle := by rw [event, standstillStopping_arrives h, e]
  refine ⟨fun dest => ends (.inl fun k e => by cases e.symm.trans dest) ?_,
    fun k dest => ends (.inl fun k e => by cases e.symm.trans dest) ?_,
    fun dest => ends (.inl fun k e => by cases e.symm.trans dest) (arrive_alone_held at_z lone moves stops rfl dest),
    fun e p dest => ends (.inl fun k e => by cases e.symm.trans dest) (arrive_alone_blocked at_z lone moves stops rfl dest),
    fun dest => ends (.inl fun k e => by cases e.symm.trans dest) (arrive_alone_reversal at_z lone moves stops rfl dest),
    fun dest => ends (.inl fun k e => by cases e.symm.trans dest) (arrive_alone_checkDone at_z lone moves stops rfl dest),
    fun k o dest noted final => ends (.inr (by rw [noted]; exact Option.some_ne_none o))
      (arrive_alone_completion at_z lone moves stops rfl dest ((congrArg Axis.noted own).trans noted) final)⟩
  · exact arrive_alone_rests at_z lone moves stops rfl (rested_fault (by rw [own]; exact congrArg some dest)) (.inl dest)
  · exact arrive_alone_rests at_z lone moves stops rfl (rested_idle (by rw [own]; exact congrArg some dest)) (.inr ⟨k, dest⟩)

variable {k : Corr} {m : MoveRec} {p : Nat} (dest : st.dest = .completion k) (unnoted : (s.ax a).noted = none)
  (move : (s.ax a).move = some m) (pos : (s.ax a).pos = some p)

omit running going in
include dest in
/-- An outcome decided at this standstill ends the move of a single axis. -/
theorem notes_alone {o : MoveOutcome} (final : o = .done ∨ o = .near) : (notes s a o).arrive a =
    (((s.setAx a { s.ax a with stop := some { st with arrived := true, ramping := false }, noted := some o }).release
      a).finish [a] o).engine := by
  have own : (notes s a o).ax a = { s.ax a with noted := some o } := ax_setAx_self s a _
  have at_z : reached (notes s a o) a =
      s.setAx a { s.ax a with stop := some { st with arrived := true, ramping := false }, noted := some o } := by
    rw [reached_eq ((congrArg Axis.stop own).trans stop), own]
    exact setAx_setAx s a _ _
  have there := ax_setAx_self s a
    { s.ax a with stop := some { st with arrived := true, ramping := false }, noted := some o }
  exact arrive_alone_completion at_z (partner_setAx ⟨rfl, rfl, rfl, rfl, .inl rfl⟩ alone)
    ((congrArg Axis.motion there).trans motion) (congrArg Axis.stop there) rfl dest (congrArg Axis.noted there)
    (final.imp_right .inl)

include dest unnoted move pos

theorem standstill_alone_evaluates :
    let x := s.ax a
    let noted (st : Stop) (o : MoveOutcome) :=
      s.setAx a { x with stop := some { st with arrived := true, ramping := false }, noted := some o }
    (apart m.target p ≤ m.profile.tolerance → exec (.standstill a) s =
      .next (State.settle ((((noted st .done).release a).finish [a] .done).engine))) ∧
    (m.profile.tolerance < apart m.target p → 2 ≤ m.corrections → exec (.standstill a) s =
      .next (State.settle ((((noted st .near).release a).finish [a] .near).engine))) ∧
    (∀ d, m.profile.tolerance < apart m.target p → m.corrections < 2 → k = .correct →
      d = (if p < m.target then .high else .low) → s.ask a [d] = none → exec (.standstill a) s =
        .next (State.settle (s.setAx a { x with
          motion := .driving, phase := some .correct, rampCounts := 0, blanking := true, stop := none, driveDir := d,
          noStop := false, move := some { m with corrections := m.corrections + 1 } }))) := by
  intro x noted
  have event := (exec_standstill_stopping running motion stop going).trans
    (congrArg (fun t => Host.Outcome.next (State.settle t)) (standstillStopping_evaluates dest unnoted move))
  refine ⟨fun near => ?_, fun far used => ?_, fun d far left correct dir clear => ?_⟩
  · rw [event, evaluate_done pos near, notes_alone alone motion stop dest (.inl rfl)]
  · rw [event, evaluate_near pos far used, notes_alone alone motion stop dest (.inr rfl)]
  · subst correct dir
    rw [event, evaluate_corrects pos far left (askCorrection_alone alone clear), enterCorrect_eq move]
    rfl

theorem standstill_alone_turns (far : m.profile.tolerance < apart m.target p) (left : m.corrections < 2)
    (unqueued : ∀ q ∈ s.queue, q.axis ≠ a ∧ q.partner ≠ some a) :
    let x := s.ax a
    let turned (dest : Dest) :=
      let v := s.setAx a { x with stop := some { st with dest := dest } }
      let w := if st.revoked = true then v else v.grantPass
      (w.setAx a { x with stop := some { st with dest := dest, arrived := true, ramping := false } }).release a
    let blocks (e : EntryNo) (q : AxisNo) := exec (.standstill a) s =
      .next (State.settle (((turned (.blocked e q)).blockedRest [a]).reevaluateRelated a))
    (k = .held → exec (.standstill a) s = .next (State.settle ((turned .held).heldRest [a]))) ∧
    (∀ e q, k = .blocked e q → blocks e q) ∧
    (∀ e q, k = .correct → s.ask a [if p < m.target then .high else .low] = some (e, q) → blocks e q) := by
  intro x turned blocks
  have event := (exec_standstill_stopping running motion stop going).trans
    (congrArg (fun t => Host.Outcome.next (State.settle t)) (standstillStopping_evaluates dest unnoted move))
  have kept (t : Dest) : PlacesKept s (reached ((turnedTo s a st t).passSince s) a) :=
    ((((Controls.refl (F := False) s).modAx a (fun x => { x with stop := some { st with dest := t } })
      (fun x => by exact { KeptAxis.refl x with })).passSince s).modAx a _
      (fun x => by exact { KeptAxis.refl x with })).placesKept
  have turnsTo (e : EntryNo) (q : AxisNo) : s.turn a (.block e q) =
      ((turned (.blocked e q)).blockedRest [a]).reevaluateRelated a := by
    have at_z := reached_turned motion stop unqueued dest (.inr ⟨e, q, rfl⟩)
    have own := (congrArg (fun t => State.ax t a) at_z).trans (ax_setAx_self _ a _)
    have z := (partner_of_placesKept (kept (.blocked e q)) a).trans alone
    rw [at_z] at z own
    rw [turn_alone stop alone]
    exact arrive_alone_blocked at_z z ((congrArg Axis.motion own).trans motion) (congrArg Axis.stop own) rfl rfl
  refine ⟨fun held => ?_, fun e q blocked => ?_, fun e q correct asks => ?_⟩
  · subst held
    have at_z := reached_turned motion stop unqueued dest (.inl rfl)
    have own := (congrArg (fun t => State.ax t a) at_z).trans (ax_setAx_self _ a _)
    have z := (partner_of_placesKept (kept .held) a).trans alone
    rw [at_z] at z own
    rw [event, evaluate_held pos far left, turn_alone stop alone]
    exact congrArg (fun t => Host.Outcome.next (State.settle t))
      (arrive_alone_held at_z z ((congrArg Axis.motion own).trans motion) (congrArg Axis.stop own) rfl rfl)
  · subst blocked
    change exec (.standstill a) s = _
    rw [event, evaluate_blocked pos far left, turnsTo]
  · subst correct
    change exec (.standstill a) s = _
    rw [event, evaluate_asks pos far left (askCorrection_own asks), turnsTo]

end Stopping

section Backoff

variable {s : State} {a : AxisNo} (running : s.power.inReset = false) (alone : s.partner a = none)
  (motion : (s.ax a).motion = .backoff) {k : Backoff} (backoff : (s.ax a).backoff = some k) (going : k.rest = false)
include running alone motion backoff going

theorem standstill_alone_backoff :
    let x := s.ax a
    (k.step = .brake → s.ask a [k.dir] = none → exec (.standstill a) s = .next (State.settle
      (s.setAx a { x with
        driveDir := k.dir, blanking := true, noStop := false,
        backoff := some { k with step := .reverse, count := 0, rest := false } }))) ∧
    (let rested := s.setAx a { x with backoff := some { k with rest := true } }
      let ends (z : Axis) := exec (.standstill a) s = .next (State.settle (((rested.release a).setAx a z).passSince rested))
      (∀ hit, k.step = .brake → s.ask a [k.dir] = some hit →
        (x.fault = none → ends (x.toIdle false)) ∧
        (∀ f, x.fault = some f → ends { x.toFault with
          fault := some (if f.kind = .obstruction then { f with backoff := .cutShort } else f) })) ∧
      (k.step = .finish →
        (k.faulted = true → ends { x.toFault with fault := x.fault.map (fun f => { f with backoff := .done }) }) ∧
        (k.faulted = false → ends (if x.fault = none then x.toIdle false else x.toFault)))) ∧
    (k.step = .reverse → exec (.standstill a) s = .next s.settle) := by
  intro x
  have own : (backoffReached s a k).ax a = { x with backoff := some { k with rest := true } } := ax_setAx_self s a _
  have kept : PlacesKept s (backoffReached s a k) := setAx_placesKept ⟨rfl, rfl, rfl, rfl, .inl rfl⟩
  have members : (backoffReached s a k).members a = [a] := (members_of_placesKept kept a).trans (members_alone alone)
  have asks : (backoffReached s a k).ask = s.ask := ask_congr rfl kept
  have all : ∀ b ∈ (backoffReached s a k).members a, RestsIn ((backoffReached s a k).ax b) k.step := fun b mem => by
    rw [members] at mem
    rw [List.mem_singleton.mp mem, own]
    exact ⟨motion, _, rfl, rfl, rfl⟩
  have event (forward : k.step ≠ .reverse) := exec_standstill_backoff running motion backoff forward going
  have lone := (partner_of_placesKept kept a).trans alone
  have ownBackoff := congrArg Axis.backoff own
  have cut {z : Axis} (brake : k.step = .brake) (hit : s.ask a [k.dir] ≠ none) (ends : (cutAxis .quick
      ((backoffReached s a k).ax a)).rested = z) (place : SamePlace ((backoffReached s a k).ax a) z) :
      exec (.standstill a) s =
        .next (State.settle ((((backoffReached s a k).release a).setAx a z).passSince (backoffReached s a k))) := by
    rw [event (by rw [brake]; decide), standstillBackoff_brakes all brake, beginReverse_blocked
      ⟨a, by rw [members]; exact List.mem_singleton_self a, by rw [asks]; exact hit⟩, members, cutBackoff_alone lone,
      backoff_ends_alone lone ends place]
  have finish {z : Axis} (finishes : k.step = .finish) (ends : ((backoffReached s a k).ax a).backoffDone = z)
      (place : SamePlace ((backoffReached s a k).ax a) z) : exec (.standstill a) s =
        .next (State.settle ((((backoffReached s a k).release a).setAx a z).passSince (backoffReached s a k))) := by
    have closed := backoff_ends_alone lone ends place
    rw [setAx_self] at closed
    rw [event (by rw [finishes]; decide), standstillBackoff_finishes all finishes, State.endBackoff, members, closed]
  refine ⟨fun brake clear => ?_, ⟨fun hit brake asked => ⟨fun none => ?_, fun f fault => ?_⟩,
    fun finishes => ⟨fun faulted => ?_, fun sound => ?_⟩⟩, exec_standstill_reversing running motion backoff⟩
  · have goes : (backoffReached s a k).beginReverse a k.dir = s.setAx a { x with
        driveDir := k.dir, blanking := true, noStop := false,
        backoff := some { k with step := .reverse, count := 0, rest := false } } := by
      rw [beginReverse_clear (fun b mem => by
        rw [members] at mem
        rw [List.mem_singleton.mp mem, asks, clear]), members]
      change (backoffReached s a k).enterReverse a = _
      rw [State.enterReverse, modAx_eq, own]
      exact setAx_setAx s a _ _
    rw [event (by rw [brake]; decide), standstillBackoff_brakes all brake, goes]
  · refine cut brake (by rw [asked]; exact Option.some_ne_none hit) ?_ (by rw [own]; exact ⟨rfl, rfl, rfl, rfl, .inl rfl⟩)
    rw [cutAxis_rested_clear ownBackoff .quick ((congrArg Axis.fault own).trans none), own]
    rfl
  · refine cut brake (by rw [asked]; exact Option.some_ne_none hit) ?_ (by rw [own]; exact ⟨rfl, rfl, rfl, rfl, .inl rfl⟩)
    rw [cutAxis_rested_faulted ownBackoff .quick ((congrArg Axis.fault own).trans fault), own]
    rfl
  · refine finish finishes ?_ (by rw [own]; exact ⟨rfl, rfl, rfl, rfl, .inl rfl⟩)
    rw [backoffDone_faulted ownBackoff faulted, own]
    rfl
  · refine finish finishes ?_ (by rw [own]; split <;> exact ⟨rfl, rfl, rfl, rfl, .inl rfl⟩)
    rw [backoffDone_partner ownBackoff sound, own]
    rfl

end Backoff

end Sys2Proof.Proofs

/-! ### The standstill of a gang -/

namespace Sys2Proof.Laws

open Sys2Proof.Machine Sys2Proof.Safety

/-! #### What a stop request leaves of the others (R75) -/

section StopAxis

variable {s : State} {a b : AxisNo} {n : Nat} {r : StopReq}

/-- A stop request changes its axis, and takes it from the queue where it leaves it. -/
theorem stopAxisFrom_shape (s : State) (n : Nat) (a : AxisNo) (r : StopReq) :
    ∃ t y, s.stopAxisFrom n a r = t.setAx a y ∧ (t = s ∨ t = s.leaveQueue a) := by
  have same : ∃ t y, s = State.setAx t a y ∧ (t = s ∨ t = s.leaveQueue a) := ⟨s, s.ax a, (setAx_self s a).symm, .inl rfl⟩
  cases motion : (s.ax a).motion with
  | driving => exact ⟨s, _, stopAxisFrom_driving motion, .inl rfl⟩
  | stopping => exact ⟨s, _, stopAxisFrom_stopping motion, .inl rfl⟩
  | engaging =>
    rw [stopAxisFrom_engaging motion]
    split
    · exact ⟨s, _, rfl, .inl rfl⟩
    · exact ⟨s, _, rfl, .inl rfl⟩
  | queued =>
    cases r with
    | revoke => rw [revoke_queued motion]; exact same
    | pause => exact ⟨s.leaveQueue a, _, pause_queued motion, .inr rfl⟩
    | halt => exact ⟨s.leaveQueue a, _, halt_queued motion, .inr rfl⟩
    | block e p => exact ⟨s.leaveQueue a, _, block_queued motion e p, .inr rfl⟩
  | blocked =>
    cases r with
    | pause => exact ⟨s, _, pause_blocked motion, .inl rfl⟩
    | halt => exact ⟨s, _, halt_blocked motion, .inl rfl⟩
    | revoke => rw [stopAxisFrom_blocked motion StopReq.noConfusion StopReq.noConfusion]; exact same
    | block e p => rw [stopAxisFrom_blocked motion StopReq.noConfusion StopReq.noConfusion]; exact same
  | checking =>
    by_cases block : ∃ e p, r = .block e p
    · obtain ⟨e, p, rfl⟩ := block
      exact ⟨s, _, stopAxisFrom_checking_block motion e p, .inl rfl⟩
    · rw [stopAxisFrom_checking motion (fun e p eq => block ⟨e, p, eq⟩)]
      exact same
  | idle =>
    by_cases halt : r = .halt
    · subst halt
      exact ⟨s, _, halt_idle motion, .inl rfl⟩
    · rw [stopAxisFrom_idle motion halt]
      exact same
  | backoff => rw [stopAxisFrom_resting (.inl motion)]; exact same
  | fault => rw [stopAxisFrom_resting (.inr motion)]; exact same

theorem stopAxisFrom_other (ne : b ≠ a) : (s.stopAxisFrom n a r).ax b = s.ax b := by
  obtain ⟨t, y, eq, rfl | rfl⟩ := stopAxisFrom_shape s n a r
  · rw [eq, ax_setAx_ne _ _ ne]
  · rw [eq, ax_setAx_ne _ _ ne, leaveQueue_ax]

theorem stopAxisFrom_queue : (s.stopAxisFrom n a r).queue.Sublist s.queue := by
  obtain ⟨t, y, eq, rfl | rfl⟩ := stopAxisFrom_shape s n a r
  · rw [eq]
    exact List.Sublist.refl _
  · rw [eq]
    exact List.filter_sublist

/-- No stop request brings an axis to rest that has yet to come to rest. -/
theorem stopAxisFrom_moves (moves : Moves (s.ax a)) : Moves ((s.stopAxisFrom n a r).ax a) := by
  rcases moves with motion | motion | motion | motion | ⟨motion, sb, stop, going⟩
  · rw [stopAxisFrom_engaging motion]
    split
    · exact .inl ((congrArg Axis.motion (ax_setAx_self s a _)).trans motion)
    · exact .inl ((congrArg Axis.motion (ax_setAx_self s a _)).trans motion)
  · rw [stopAxisFrom_driving motion, startStopFrom_eq, ax_setAx_self]
    exact .inr (.inr (.inr (.inr ⟨rfl, _, rfl, rfl⟩)))
  · rw [stopAxisFrom_resting (.inl motion)]
    exact .inr (.inr (.inl motion))
  · by_cases block : ∃ e p, r = .block e p
    · obtain ⟨e, p, rfl⟩ := block
      rw [stopAxisFrom_checking_block motion, startStopFrom_eq, ax_setAx_self]
      exact .inr (.inr (.inr (.inr ⟨rfl, _, rfl, rfl⟩)))
    · rw [stopAxisFrom_checking motion (fun e p eq => block ⟨e, p, eq⟩)]
      exact .inr (.inr (.inr (.inl motion)))
  · rw [stopAxisFrom_bound (.inl motion) stop, ax_setAx_self, meet_eq stop]
    exact .inr (.inr (.inr (.inr ⟨motion, _, rfl, going⟩)))

end StopAxis

theorem ax_passSince {s t : State} {a : AxisNo} (h : ∀ q ∈ t.queue, q.axis ≠ a ∧ q.partner ≠ some a) :
    (t.passSince s).ax a = t.ax a := by
  unfold State.passSince
  split
  · exact ax_grantPass h
  · rfl

/-! #### The second standstill of a gang (R72, R79) -/

section Second

variable {s z : State} {a b : AxisNo} (gang : z.partner a = some b)
include gang

theorem has_dest_iff {sa sb : Stop} (stopA : (z.ax a).stop = some sa) (stopB : (z.ax b).stop = some sb) {d : Dest} :
    (∃ e ∈ z.members a, (z.ax e).stop.map Stop.dest = some d) ↔ sa.dest = d ∨ sb.dest = d := by
  constructor
  · rintro ⟨e, mem, dest⟩
    rcases (mem_members_gang gang).mp mem with rfl | rfl
    · rw [stopA] at dest
      exact .inl (Option.some.inj dest)
    · rw [stopB] at dest
      exact .inr (Option.some.inj dest)
  · rintro (dest | dest)
    · exact ⟨a, (mem_members_gang gang).mpr (.inl rfl), by rw [stopA, ← dest]; rfl⟩
    · exact ⟨b, (mem_members_gang gang).mpr (.inr rfl), by rw [stopB, ← dest]; rfl⟩

variable (at_z : reached s a = z)
include at_z

theorem arrive_gang_waits (moves : Moves (z.ax b)) : s.arrive a = z := by
  subst at_z
  exact arrive_waits ((mem_members_gang gang).mpr (.inr rfl)) (hasArrived_eq_false_iff.mpr moves)

theorem arrive_gang_ends {sa sb : Stop} (motionA : (z.ax a).motion = .stopping) (stopA : (z.ax a).stop = some sa)
    (arrivedA : sa.arrived = true) (motionB : (z.ax b).motion = .stopping) (stopB : (z.ax b).stop = some sb)
    (arrivedB : sb.arrived = true) : s.arrive a = z.disengaged a (z.members a) := by
  subst at_z
  refine arrive_ends fun e mem => ?_
  rcases (mem_members_gang gang).mp mem with rfl | rfl
  · exact ⟨motionA, (hasArrived_stopping motionA stopA).trans arrivedA⟩
  · exact ⟨motionB, (hasArrived_stopping motionB stopB).trans arrivedB⟩

end Second

theorem jointOutcome_pair (oa ob : MoveOutcome) : jointOutcome [some oa, some ob] =
    if oa = .endEarly ∨ ob = .endEarly then .endEarly
    else if oa = .near ∨ ob = .near then .near
    else if oa = .atEnd ∧ ob = .atEnd then .atEnd
    else .done := by
  have either (o : MoveOutcome) : [some oa, some ob].contains (some o) = true ↔ oa = o ∨ ob = o := by
    rw [List.contains_iff_mem]
    simp [eq_comm]
  have both : [some oa, some ob].all (fun o => decide (o = some .atEnd)) = true ↔ oa = .atEnd ∧ ob = .atEnd := by simp
  unfold jointOutcome
  simp only [either, both]

theorem jointOutcome_swap (oa ob : MoveOutcome) : jointOutcome [some ob, some oa] = jointOutcome [some oa, some ob] := by
  simp only [jointOutcome_pair, or_comm, and_comm]

/-- The joint outcome of a gang, whichever of its axes the lower one is. -/
theorem jointOutcome_gang {z : State} {a b : AxisNo} (gang : z.partner a = some b) {oa ob : MoveOutcome}
    (notedA : (z.ax a).noted = some oa) (notedB : (z.ax b).noted = some ob) :
    jointOutcome ((z.members a).map (fun e => (z.ax e).noted)) = jointOutcome [some oa, some ob] := by
  rw [members_gang gang]
  split
  · simp only [List.map_cons, List.map_nil, notedA, notedB]
  · simp only [List.map_cons, List.map_nil, notedA, notedB, jointOutcome_swap]

section Disengaged

variable {z : State} {a : AxisNo} (noFault : .fault ∉ z.dests (z.members a))
  (unblocked : ¬ ∃ e q, Dest.blocked e q ∈ z.dests (z.members a)) (unheld : .held ∉ z.dests (z.members a))
  (busy : ¬ ∃ k, Dest.idle k ∈ z.dests (z.members a))
include noFault unblocked unheld busy

theorem disengaged_reversal (reversal : .reversal ∈ z.dests (z.members a)) :
    z.disengaged a (z.members a) = standing (z.reversalRest (z.members a)) a := by
  rw [disengaged_unblocked unblocked, concludeStop_reversal noFault unblocked unheld busy reversal]

variable (forward : .reversal ∉ z.dests (z.members a))
include forward

theorem disengaged_checkDone (tested : .checkDone ∈ z.dests (z.members a)) :
    z.disengaged a (z.members a) = standing (z.checkRest (z.members a)) a := by
  rw [disengaged_unblocked unblocked, concludeStop_checkDone noFault unblocked unheld busy forward tested]

theorem disengaged_completion (untested : .checkDone ∉ z.dests (z.members a)) : z.disengaged a (z.members a) =
    standing (((z.releaseAll (z.members a)).finish (z.members a)
      (jointOutcome ((z.members a).map (fun e => (z.ax e).noted)))).engine) a := by
  rw [disengaged_unblocked unblocked, concludeStop_completion noFault unblocked unheld busy forward untested]

end Disengaged

/-! #### The first standstill of a gang (R44, R75, R79) -/

/-- The outcome that a standstill toward completion decides (R44), as the statements write it. -/
def Decides (s : State) (a : AxisNo) (st : Stop) (o : MoveOutcome) : Prop :=
  ∃ m p, (∃ k, st.dest = .completion k) ∧ (s.ax a).noted = none ∧ (s.ax a).move = some m ∧
    (s.ax a).pos = some p ∧ ((apart m.target p ≤ m.profile.tolerance ∧ o = .done) ∨
      (m.profile.tolerance < apart m.target p ∧ 2 ≤ m.corrections ∧ o = .near))

/-- The state in which an axis has come to its stop or its outcome, as the statements write it. -/
def Comes (s : State) (a : AxisNo) (st : Stop) (z : State) : Prop :=
  (z = s.setAx a { s.ax a with stop := some { st with arrived := true, ramping := false } } ∧
    ((∀ k, st.dest ≠ .completion k) ∨ (s.ax a).noted ≠ none)) ∨
  (∃ o, Decides s a st o ∧
    z = s.setAx a { s.ax a with stop := some { st with arrived := true, ramping := false }, noted := some o })

section Comes

variable {s z : State} {a : AxisNo} {st : Stop} (stop : (s.ax a).stop = some st) (comes : Comes s a st z)
include comes

theorem Comes.shape : ∃ noted, z = s.setAx a { s.ax a with
    stop := some { st with arrived := true, ramping := false }, noted := noted } := by
  rcases comes with ⟨eq, -⟩ | ⟨o, -, eq⟩
  · exact ⟨(s.ax a).noted, eq⟩
  · exact ⟨some o, eq⟩

include stop

theorem Comes.arrives : ∃ t, s.standstillStopping a st = t.arrive a ∧ reached t a = z := by
  rcases comes with ⟨rfl, h⟩ | ⟨o, ⟨m, p, ⟨k, dest⟩, unnoted, move, pos, decided⟩, rfl⟩
  · exact ⟨s, standstillStopping_arrives h, reached_eq stop⟩
  · refine ⟨notes s a o, ?_, ?_⟩
    · rw [standstillStopping_evaluates dest unnoted move]
      rcases decided with ⟨near, rfl⟩ | ⟨far, used, rfl⟩
      · exact evaluate_done pos near
      · exact evaluate_near pos far used
    · have own : (notes s a o).ax a = { s.ax a with noted := some o } := ax_setAx_self s a _
      rw [reached_eq ((congrArg Axis.stop own).trans stop), own]
      exact setAx_setAx s a _ _

end Comes

/-- What a standstill at which a correction would begin asks of the axis (R75, R109, R123), as the statements write it. -/
def AskedTo (s : State) (a b : AxisNo) (m : MoveRec) (p : Nat) (k : Corr) (r : StopReq) : Prop :=
  match k with
  | .held => r = .revoke
  | .blocked e q => r = .block e q
  | .correct => ∃ e q, r = .block e q ∧ (s.ask a [if p < m.target then .high else .low] = some (e, q) ∨
    (s.ask a [if p < m.target then .high else .low] = none ∧ s.ask b (s.nowDirs b) = some (e, q)))

section AskedTo

variable {s : State} {a b : AxisNo} {m : MoveRec} {p : Nat} {k : Corr} {r : StopReq}

theorem AskedTo.dest (asked : AskedTo s a b m p k r) :
    (r = .revoke ∧ r.dest = .held) ∨ ∃ e q, r = .block e q ∧ r.dest = .blocked e q := by
  cases k with
  | held =>
    obtain rfl : r = .revoke := asked
    exact .inl ⟨rfl, rfl⟩
  | blocked e q =>
    obtain rfl : r = .block e q := asked
    exact .inr ⟨e, q, rfl, rfl⟩
  | correct =>
    obtain ⟨e, q, rfl, -⟩ := asked
    exact .inr ⟨e, q, rfl, rfl⟩

theorem AskedTo.evaluate (asked : AskedTo s a b m p k r) (gang : s.partner a = some b) (pos : (s.ax a).pos = some p)
    (far : m.profile.tolerance < apart m.target p) (left : m.corrections < 2) : s.evaluate a m k = s.turn a r := by
  cases k with
  | held =>
    obtain rfl : r = .revoke := asked
    exact evaluate_held pos far left
  | blocked e q =>
    obtain rfl : r = .block e q := asked
    exact evaluate_blocked pos far left e q
  | correct =>
    obtain ⟨e, q, rfl, own | ⟨own, partner⟩⟩ := asked
    · exact evaluate_asks pos far left (askCorrection_own own)
    · exact evaluate_asks pos far left ((askCorrection_partner gang own).trans partner)

end AskedTo

section TurnGang

variable {s : State} {a b : AxisNo} {st : Stop} (stop : (s.ax a).stop = some st) (gang : s.partner a = some b)
include stop gang

theorem turn_gang (r : StopReq) : s.turn a r = State.arrive (State.passSince
    (if (s.ax b).hasArrived then turnedTo s a st r.dest else (turnedTo s a st r.dest).stopAxis b r) s) a := by
  have turned : s.modAx a (fun x => { x with stop := x.stop.map (fun st => { st with dest := r.dest }) }) =
      turnedTo s a st r.dest := by
    change s.setAx a { s.ax a with stop := (s.ax a).stop.map _ } = _
    rw [stop]
    rfl
  unfold State.turn
  dsimp only
  rw [gang, turned]

end TurnGang

end Sys2Proof.Laws

/-! ### The standstill of a gang (R72, R75, R77, R79) -/

namespace Sys2Proof.Proofs

open Sys2Proof.Machine Sys2Proof.Safety Sys2Proof.Laws

section Stopping

variable {s : State} {a b : AxisNo} {st : Stop} (running : s.power.inReset = false) (gang : s.partner a = some b) (ne : b ≠ a)
  (motion : (s.ax a).motion = .stopping) (stop : (s.ax a).stop = some st) (going : st.arrived = false)

section Shape

variable {z : State} {noted : Option MoveOutcome} (eq : z = s.setAx a { s.ax a with
  stop := some { st with arrived := true, ramping := false }, noted := noted })
include eq

theorem kept_of_shape : PlacesKept s z := by
  rw [eq]
  exact setAx_placesKept ⟨rfl, rfl, rfl, rfl, .inl rfl⟩

theorem own_of_shape : z.ax a = { s.ax a with
    stop := some { st with arrived := true, ramping := false }, noted := noted } := by
  rw [eq, ax_setAx_self]

theorem other_of_shape (ne : b ≠ a) : z.ax b = s.ax b := by
  rw [eq, ax_setAx_ne _ _ ne]

end Shape

include running motion stop going

theorem standstill_gang_event : exec (.standstill a) s = .next (s.standstillStopping a st).settle :=
  exec_standstill_stopping running motion stop going

include gang

theorem standstill_gang_corrects {m : MoveRec} {p : Nat} {d : Dir} (dest : st.dest = .completion .correct)
    (unnoted : (s.ax a).noted = none) (move : (s.ax a).move = some m) (pos : (s.ax a).pos = some p)
    (far : m.profile.tolerance < apart m.target p) (left : m.corrections < 2) (dir : d = if p < m.target then .high else .low)
    (own : s.ask a [d] = none) (partner : s.ask b (s.nowDirs b) = none) :
    exec (.standstill a) s = .next (State.settle (s.setAx a { s.ax a with
      motion := .driving, phase := some .correct, rampCounts := 0, blanking := true, stop := none, driveDir := d,
      noStop := false, move := some { m with corrections := m.corrections + 1 } })) := by
  subst dir
  rw [standstill_gang_event running motion stop going, standstillStopping_evaluates dest unnoted move,
    evaluate_corrects pos far left ((askCorrection_partner gang own).trans partner), enterCorrect_eq move]
  rfl

include ne

theorem standstill_gang_waits {z : State} (moves : Moves (s.ax b)) (comes : Comes s a st z) :
    exec (.standstill a) s = .next z.settle := by
  obtain ⟨noted, shape⟩ := comes.shape
  obtain ⟨t, stands, at_z⟩ := comes.arrives stop
  have still : z.partner a = some b := (partner_of_placesKept (kept_of_shape shape) a).trans gang
  rw [standstill_gang_event running motion stop going, stands,
    arrive_gang_waits still at_z (by rw [other_of_shape shape ne]; exact moves)]

/-- The second standstill of a gang ends both stops (R72, R79). -/
theorem standstill_gang_ends {sb : Stop} {z : State} (motionB : (s.ax b).motion = .stopping)
    (stopB : (s.ax b).stop = some sb) (arrivedB : sb.arrived = true) (comes : Comes s a st z) :
    let ms := s.members a
    (let fault := st.dest = .fault ∨ sb.dest = .fault
      let blocked := ∃ e q, st.dest = .blocked e q ∨ sb.dest = .blocked e q
      let held := st.dest = .held ∨ sb.dest = .held
      let idle := ∃ k, st.dest = .idle k ∨ sb.dest = .idle k
      let reversal := st.dest = .reversal ∨ sb.dest = .reversal
      let checkDone := st.dest = .checkDone ∨ sb.dest = .checkDone
      let ends (t : State) := exec (.standstill a) s = .next t.settle
      let freed := z.releaseAll ms
      let settled := (freed.modAll ms Axis.rested).passSince z
      (¬ blocked → fault ∨ (¬ held ∧ idle) → ends (standing settled a)) ∧
      (blocked → fault → ends (ms.foldl State.reevaluateRelated (standing settled a))) ∧
      (¬ fault → blocked → ends (ms.foldl State.reevaluateRelated (standing (freed.blockedRest ms) a))) ∧
      (¬ fault → ¬ blocked → held → ends (standing (freed.heldRest ms) a)) ∧
      (¬ fault → ¬ blocked → ¬ held → ¬ idle → reversal → ends (standing (z.reversalRest ms) a)) ∧
      (¬ fault → ¬ blocked → ¬ held → ¬ idle → ¬ reversal → checkDone → ends (standing (z.checkRest ms) a))) ∧
    (∀ oa ob : MoveOutcome, (∃ k, st.dest = .completion k) → (∃ k, sb.dest = .completion k) →
      (z.ax a).noted = some oa → (s.ax b).noted = some ob →
      let joint : MoveOutcome := if oa = .endEarly ∨ ob = .endEarly then .endEarly
        else if oa = .near ∨ ob = .near then .near
        else if oa = .atEnd ∧ ob = .atEnd then .atEnd
        else .done
      exec (.standstill a) s = .next (State.settle
        (standing (((z.releaseAll ms).finish ms joint).engine) a))) := by
  intro ms
  obtain ⟨noted, shape⟩ := comes.shape
  obtain ⟨t, stands, at_z⟩ := comes.arrives stop
  have kept := kept_of_shape shape
  have still : z.partner a = some b := (partner_of_placesKept kept a).trans gang
  have members : z.members a = ms := members_of_placesKept kept a
  have own := own_of_shape shape
  have other := other_of_shape shape ne
  have stopA := congrArg Axis.stop own
  have stopB' := (congrArg Axis.stop other).trans stopB
  have concluded : s.standstillStopping a st = z.disengaged a ms := by
    rw [stands, arrive_gang_ends still at_z ((congrArg Axis.motion own).trans motion) stopA rfl
      ((congrArg Axis.motion other).trans motionB) stopB' arrivedB, members]
  have event : exec (.standstill a) s = .next (z.disengaged a ms).settle := by
    rw [standstill_gang_event running motion stop going, concluded]
  have step {t : State} (h : z.disengaged a ms = t) : exec (.standstill a) s = .next t.settle := by rw [event, h]
  have has (d : Dest) : (∃ e ∈ z.members a, (z.ax e).stop.map Stop.dest = some d) ↔ st.dest = d ∨ sb.dest = d :=
    has_dest_iff still stopA stopB'
  have mem (d : Dest) : d ∈ z.dests (z.members a) ↔ st.dest = d ∨ sb.dest = d := mem_dests.trans (has d)
  have byDest := disengaged_ends z a
  simp only [has] at byDest
  rw [members] at byDest
  obtain ⟨rests, restsBlocked, blocks, holds⟩ := byDest
  refine ⟨?_, fun oa ob ⟨k, destA⟩ ⟨j, destB⟩ notedA notedB => ?_⟩
  · intro fault blocked held idle reversal checkDone ends freed settled
    refine ⟨fun clear h => step (rests clear h), fun h isFault => step (restsBlocked h isFault),
      fun noFault h => step (blocks noFault h), fun noFault clear isHeld => step (holds noFault clear isHeld),
      fun noFault clear unheld busy turns => step ?_, fun noFault clear unheld busy forward tested => step ?_⟩
    · rw [← members]
      exact disengaged_reversal (mt (mem _).mp noFault) (mt (exists₂_congr fun e q => mem _).mp clear)
        (mt (mem _).mp unheld) (mt (exists_congr fun k => mem _).mp busy) ((mem _).mpr turns)
    · rw [← members]
      exact disengaged_checkDone (mt (mem _).mp noFault) (mt (exists₂_congr fun e q => mem _).mp clear)
        (mt (mem _).mp unheld) (mt (exists_congr fun k => mem _).mp busy) (mt (mem _).mp forward) ((mem _).mpr tested)
  · have only {d : Dest} (h : ∀ k, d ≠ .completion k) : d ∉ z.dests (z.members a) := by
      rw [mem, destA, destB]
      rintro (e | e)
      · exact h k e.symm
      · exact h j e.symm
    intro joint
    have outcome := jointOutcome_gang still notedA ((congrArg Axis.noted other).trans notedB)
    have completes := disengaged_completion (z := z) (a := a) (only (by simp)) (fun ⟨e, q, h⟩ => only (by simp) h)
      (only (by simp)) (fun ⟨k, h⟩ => only (by simp) h) (only (by simp)) (only (by simp))
    rw [outcome, jointOutcome_pair, members] at completes
    exact step completes

omit ne gang running motion stop going in
/-- A turned stop of one axis of a gang, and its partner's, as the question finds them. -/
theorem turned_gang_axes {w : State} {dest : Dest} (own : w.ax a = { s.ax a with stop := some { st with dest := dest } }) :
    reached w a = w.setAx a { s.ax a with stop := some { st with dest := dest, arrived := true, ramping := false } } := by
  rw [reached_eq (congrArg Axis.stop own), own]

theorem standstill_gang_turns {k : Corr} {m : MoveRec} {p : Nat} {r : StopReq} (dest : st.dest = .completion k)
    (unnoted : (s.ax a).noted = none) (move : (s.ax a).move = some m) (pos : (s.ax a).pos = some p)
    (far : m.profile.tolerance < apart m.target p) (left : m.corrections < 2) (asked : AskedTo s a b m p k r)
    (unqueued : ∀ q ∈ s.queue, q.axis ≠ a ∧ q.axis ≠ b ∧ q.partner ≠ some a ∧ q.partner ≠ some b) :
    let x := s.ax a
    let y := s.ax b
    let ms := s.members a
    let turned (r : StopReq) : State := s.setAx a { x with stop := some { st with dest := r.dest } }
    let arrives (w : State) (r : StopReq) : State :=
      w.setAx a { x with stop := some { st with arrived := true, ramping := false, dest := r.dest } }
    (Moves y → exec (.standstill a) s =
      .next (State.settle (arrives (((turned r).stopAxis b r).passSince s) r))) ∧
    (∀ sb, y.motion = .stopping → y.stop = some sb → sb.arrived = true → sb.dest ≠ .fault →
      let v := arrives ((turned r).passSince s) r
      (r ≠ .revoke → exec (.standstill a) s = .next (State.settle
        (ms.foldl State.reevaluateRelated (standing ((v.releaseAll ms).blockedRest ms) a)))) ∧
      (r = .revoke → (∀ e q, sb.dest ≠ .blocked e q) → exec (.standstill a) s =
        .next (State.settle (standing ((v.releaseAll ms).heldRest ms) a)))) := by
  intro x y ms turned arrives
  have event : exec (.standstill a) s = .next (s.turn a r).settle := by
    rw [standstill_gang_event running motion stop going, standstillStopping_evaluates dest unnoted move,
      asked.evaluate gang pos far left]
  have turnedA : (turned r).ax a = { x with stop := some { st with dest := r.dest } } := ax_setAx_self s a _
  have turnedB : (turned r).ax b = y := ax_setAx_ne s _ ne
  have keptTurned : PlacesKept s (turned r) := setAx_placesKept ⟨rfl, rfl, rfl, rfl, .inl rfl⟩
  have turn := turn_gang stop gang r
  -- What holds of `arrives w r` for a state `w` that has left the axis at its turned stop.
  have place {w : State} (kept : PlacesKept s w) (own : w.ax a = { x with stop := some { st with dest := r.dest } }) :
      PlacesKept s (arrives w r) := kept.trans (setAx_placesKept (by rw [own]; exact ⟨rfl, rfl, rfl, rfl, .inl rfl⟩))
  refine ⟨fun moves => ?_, fun sb motionB stopB arrivedB sound => ?_⟩
  · rw [if_neg (by rw [hasArrived_eq_false_iff.mpr moves]; decide)] at turn
    have queue : ((turned r).stopAxis b r).queue.Sublist s.queue := stopAxisFrom_queue
    have own : (((turned r).stopAxis b r).passSince s).ax a = { x with stop := some { st with dest := r.dest } } :=
      (ax_passSince fun q mem => ⟨(unqueued q (queue.subset mem)).1, (unqueued q (queue.subset mem)).2.2.1⟩).trans
        ((stopAxisFrom_other ne.symm).trans turnedA)
    have other : Moves ((((turned r).stopAxis b r).passSince s).ax b) := by
      rw [ax_passSince fun q mem => ⟨(unqueued q (queue.subset mem)).2.1, (unqueued q (queue.subset mem)).2.2.2⟩]
      exact stopAxisFrom_moves (by rw [turnedB]; exact moves)
    have kept := place (keptTurned.controls (((Controls.refl (F := False) _).stopAxis b r).passSince s)) own
    have still := (partner_of_placesKept kept a).trans gang
    rw [event, turn]
    refine congrArg (fun t => Host.Outcome.next (State.settle t)) (arrive_gang_waits still (turned_gang_axes own) ?_)
    rw [ax_setAx_ne _ _ ne]
    exact other
  · rw [if_pos ((hasArrived_stopping motionB stopB).trans arrivedB)] at turn
    intro v
    have own : ((turned r).passSince s).ax a = { x with stop := some { st with dest := r.dest } } :=
      (ax_passSince (t := turned r) fun q mem => ⟨(unqueued q mem).1, (unqueued q mem).2.2.1⟩).trans turnedA
    have other : v.ax b = y := (ax_setAx_ne _ _ ne).trans
      ((ax_passSince (t := turned r) fun q mem => ⟨(unqueued q mem).2.1, (unqueued q mem).2.2.2⟩).trans turnedB)
    have here : v.ax a = { x with stop := some { st with arrived := true, ramping := false, dest := r.dest } } :=
      ax_setAx_self _ a _
    have kept := place (keptTurned.controls ((Controls.refl (F := False) _).passSince s)) own
    have still : v.partner a = some b := (partner_of_placesKept kept a).trans gang
    have members : v.members a = ms := members_of_placesKept kept a
    have stopA := congrArg Axis.stop here
    have stopB' := (congrArg Axis.stop other).trans stopB
    have concluded : s.turn a r = v.disengaged a ms := by
      rw [turn, ← members]
      exact arrive_gang_ends still (turned_gang_axes own) ((congrArg Axis.motion here).trans motion) stopA rfl
        ((congrArg Axis.motion other).trans motionB) stopB' arrivedB
    have step {t : State} (h : v.disengaged a ms = t) : exec (.standstill a) s = .next t.settle := by
      rw [event, concluded, h]
    have has (d : Dest) : (∃ e ∈ v.members a, (v.ax e).stop.map Stop.dest = some d) ↔ r.dest = d ∨ sb.dest = d :=
      has_dest_iff still stopA stopB'
    have byDest := disengaged_ends v a
    simp only [has] at byDest
    rw [members] at byDest
    obtain ⟨-, -, blocks, holds⟩ := byDest
    refine ⟨fun other_request => step ?_, fun revoked unblocked => step ?_⟩
    · obtain ⟨e, q, -, toward⟩ := asked.dest.resolve_left fun h => other_request h.1
      exact blocks (by rw [toward]; rintro (h | h); exacts [Dest.noConfusion h, sound h]) ⟨e, q, .inl toward⟩
    · have toward : r.dest = .held := by rw [revoked]; rfl
      refine holds (by rw [toward]; rintro (h | h); exacts [Dest.noConfusion h, sound h]) ?_ (.inl toward)
      rintro ⟨e, q, h | h⟩
      · cases toward.symm.trans h
      · exact unblocked e q h

end Stopping

end Sys2Proof.Proofs

namespace Sys2Proof.Laws

open Sys2Proof.Machine Sys2Proof.Safety

/-! #### A joint backoff (R77) -/

/-- A change of both axes of a gang, whichever of them is the lower one. -/
theorem modAll_gang {s t : State} {a b : AxisNo} (gang : s.partner a = some b) (ne : b ≠ a) (f : Axis → Axis) :
    t.modAll (s.members a) f = (t.setAx a (f (t.ax a))).setAx b (f (t.ax b)) := by
  rw [members_gang gang]
  split
  · change State.modAx (t.modAx a f) b f = _
    rw [modAx_eq, modAx_eq, ax_setAx_ne _ _ ne]
  · change State.modAx (t.modAx b f) a f = _
    rw [modAx_eq, modAx_eq, ax_setAx_ne _ _ ne.symm, setAx_comm t ne]

theorem releaseAll_axes (s : State) (as : List AxisNo) : (s.releaseAll as).axes = s.axes := by
  induction as generalizing s with
  | nil => rfl
  | cons a as ih => exact (ih (s.release a)).trans (release_axes s a)

/-- An axis whose reversing step begins (R57). -/
def reversing (x : Axis) : Axis :=
  match x.backoff with
  | none => x
  | some k => { x with
      driveDir := k.dir, blanking := true, noStop := false, backoff := some { k with step := .reverse, count := 0, rest := false } }

theorem enterReverse_all (s : State) (as : List AxisNo) : as.foldl State.enterReverse s = s.modAll as reversing := rfl

theorem reversing_eq {x : Axis} {k : Backoff} (h : x.backoff = some k) : reversing x = { x with
    driveDir := k.dir, blanking := true, noStop := false,
    backoff := some { k with step := .reverse, count := 0, rest := false } } := by
  simp only [reversing, h]

/-- An axis whose backoff has covered its distance, as the statements write it (R57, R77). -/
theorem backoffDone_eq {x : Axis} {k : Backoff} (h : x.backoff = some k) : x.backoffDone =
    if k.faulted = true then { x.toFault with fault := x.fault.map (fun f => { f with backoff := .done }) }
    else if x.fault = none then x.toIdle false
    else x.toFault := by
  by_cases faulted : k.faulted = true
  · rw [if_pos faulted, backoffDone_faulted h faulted]
  · rw [if_neg faulted, backoffDone_partner h (Bool.eq_false_iff.mpr faulted)]

theorem cameToRest_standing (s : State) (a : AxisNo) : s.cameToRest a false = standing s a := cameToRest_eq s a false

end Sys2Proof.Laws

namespace Sys2Proof.Proofs

open Sys2Proof.Machine Sys2Proof.Safety Sys2Proof.Laws

section Backoff

variable {s : State} {a b : AxisNo} {k j : Backoff}

theorem standstill_gang_backoff (running : s.power.inReset = false) (gang : s.partner a = some b) (ne : b ≠ a)
    (motionA : (s.ax a).motion = .backoff) (backoffA : (s.ax a).backoff = some k) (going : k.rest = false)
    (motionB : (s.ax b).motion = .backoff) (backoffB : (s.ax b).backoff = some j) :
    let x := s.ax a
    let y := s.ax b
    let ms := s.members a
    let rest := s.setAx a { x with backoff := some { k with rest := true } }
    let both := j.step = k.step ∧ j.rest = true
    let reversed (z : Axis) (n : Backoff) : Axis := { z with
      driveDir := n.dir, blanking := true, noStop := false,
      backoff := some { n with step := .reverse, count := 0, rest := false } }
    let clear := s.ask a [k.dir] = none ∧ s.ask b [k.dir] = none
    let ended (z : Axis) (n : Backoff) : Axis :=
      if n.faulted = true then { z.toFault with fault := z.fault.map (fun f => { f with backoff := .done }) }
      else if z.fault = none then z.toIdle false
      else z.toFault
    (k.step ≠ .reverse → ¬ both → exec (.standstill a) s = .next rest.settle) ∧
    (k.step = .brake → both → clear →
      exec (.standstill a) s = .next (State.settle ((s.setAx a (reversed x k)).setAx b (reversed y j)))) ∧
    (k.step = .brake → both → ¬ clear → exec (.standstill a) s = .next (State.settle (standing
      (((((rest.cutBackoff a .quick).releaseAll ms).modAll ms Axis.rested).passSince rest)) a))) ∧
    (k.step = .finish → both → exec (.standstill a) s = .next (State.settle (standing
      ((((rest.releaseAll ms).setAx a (ended x k)).setAx b (ended y j)).passSince rest) a))) := by
  intro x y ms rest both reversed clear ended
  have own : rest.ax a = { x with backoff := some { k with rest := true } } := ax_setAx_self s a _
  have other : rest.ax b = y := ax_setAx_ne s _ ne
  have kept : PlacesKept s rest := setAx_placesKept ⟨rfl, rfl, rfl, rfl, .inl rfl⟩
  have members : rest.members a = ms := members_of_placesKept kept a
  have asks : rest.ask = s.ask := ask_congr rfl kept
  have ownBackoff := congrArg Axis.backoff own
  have event (forward : k.step ≠ .reverse) := exec_standstill_backoff running motionA backoffA forward going
  have all (h : both) : ∀ e ∈ rest.members a, RestsIn (rest.ax e) k.step := fun e mem => by
    rw [members] at mem
    rcases (mem_members_gang gang).mp mem with rfl | rfl
    · rw [own]
      exact ⟨motionA, _, rfl, rfl, rfl⟩
    · rw [other]
      exact ⟨motionB, j, backoffB, h⟩
  refine ⟨fun forward alone => ?_, fun brake h free => ?_, fun brake h blocked => ?_, fun finish h => ?_⟩
  · refine (event forward).trans (congrArg (fun t => Host.Outcome.next (State.settle t)) (standstillBackoff_waits fun h => ?_))
    obtain ⟨-, n, backoff, rests⟩ := h b (by
      rw [show (backoffReached s a k).members a = ms from members]
      exact (mem_members_gang gang).mpr (.inr rfl))
    rw [show (backoffReached s a k).ax b = y from other, backoffB] at backoff
    cases backoff
    exact alone rests
  · have goes : rest.beginReverse a k.dir = (s.setAx a (reversed x k)).setAx b (reversed y j) := by
      rw [beginReverse_clear (fun e mem => by
        rw [members] at mem
        rw [asks]
        rcases (mem_members_gang gang).mp mem with rfl | rfl
        · exact free.1
        · exact free.2), members, enterReverse_all, modAll_gang gang ne, other, reversing_eq backoffB, reversing_eq ownBackoff,
        own]
      exact congrArg (State.setAx · b _) (setAx_setAx s a _ _)
    rw [event (by rw [brake]; decide), standstillBackoff_brakes (all h) brake]
    exact congrArg (fun t => Host.Outcome.next (State.settle t)) goes
  · have hit : ∃ e ∈ rest.members a, rest.ask e [k.dir] ≠ none := by
      rw [members, asks]
      by_contra none
      push Not at none
      exact blocked ⟨none a ((mem_members_gang gang).mpr (.inl rfl)), none b ((mem_members_gang gang).mpr (.inr rfl))⟩
    have cut := beginReverse_blocked hit
    rw [members, cameToRest_standing] at cut
    rw [event (by rw [brake]; decide), standstillBackoff_brakes (all h) brake]
    exact congrArg (fun t => Host.Outcome.next (State.settle t)) cut
  · have released (e : AxisNo) : (rest.releaseAll ms).ax e = rest.ax e := ax_congr (releaseAll_axes rest ms) e
    have ends : (rest.releaseAll ms).modAll ms Axis.backoffDone =
        ((rest.releaseAll ms).setAx a (ended x k)).setAx b (ended y j) := by
      rw [modAll_gang gang ne, released, released, other, backoffDone_eq backoffB, backoffDone_eq ownBackoff, own]
      rfl
    have concluded : rest.endBackoff a = standing
        ((((rest.releaseAll ms).setAx a (ended x k)).setAx b (ended y j)).passSince rest) a := by
      rw [← ends, State.endBackoff, members, cameToRest_standing]
    rw [event (by rw [finish]; decide), standstillBackoff_finishes (all h) finish]
    exact congrArg (fun t => Host.Outcome.next (State.settle t)) concluded

end Backoff

/-- Settles O55: a standstill evaluates its stop or arrives; the first of a gang waits, the second ends both stops by their
destinations, and a backoff goes on or ends step by step. -/
theorem standstillReachesTheDestination : Obligations.StandstillReachesTheDestination := by
  refine ⟨fun s a running alone => ?_, fun x keep => ⟨rfl, rfl⟩,
    fun s a b st running gang ne motion stop going => ?_,
    fun s a b k j running gang ne motionA backoffA going motionB backoffB =>
      standstill_gang_backoff running gang ne motionA backoffA going motionB backoffB,
    fun x => ⟨rested_fault, fun k => rested_idle, rested_other⟩⟩
  · refine ⟨fun st motion stop going => ?_, fun k motion backoff going =>
      standstill_alone_backoff running alone motion backoff going, exec_standstill_undue running⟩
    obtain ⟨fault, idle, held, blocked, reversal, checkDone, completion⟩ :=
      standstill_alone_arrives running alone motion stop going
    exact ⟨fault, idle, held, blocked, reversal, checkDone, completion,
      fun k m p dest unnoted move pos => standstill_alone_evaluates running alone motion stop going dest unnoted move pos,
      fun k m p dest unnoted move pos far left unqueued =>
        standstill_alone_turns running alone motion stop going dest unnoted move pos far left unqueued⟩
  · intro x y atRest rest moving standing ms asked turned arrives decides comes
    exact ⟨fun z moves arrived => standstill_gang_waits running gang ne motion stop going moves arrived,
      fun m p d dest unnoted move pos far left dir own partner =>
        standstill_gang_corrects running gang motion stop going dest unnoted move pos far left dir own partner,
      fun k m p r dest unnoted move pos far left asks unqueued =>
        standstill_gang_turns running gang ne motion stop going dest unnoted move pos far left asks unqueued,
      fun sb z motionB stopB arrivedB arrived =>
        standstill_gang_ends running gang ne motion stop going motionB stopB arrivedB arrived⟩

end Sys2Proof.Proofs

/-! ### Faults -/

namespace Sys2Proof.Laws

open Sys2Proof.Machine Sys2Proof.Safety Sys2Proof.Proofs

/-! #### Gangs and walks -/

/-- A walk whose change of an axis does nothing more a second time changes every axis of its list once. -/
theorem ax_foldl_modAx {f : AxisNo → Axis → Axis} {b : AxisNo} (once : ∀ x, f b (f b x) = f b x) {l : List AxisNo}
    (mem : b ∈ l) (s : State) : (l.foldl (fun t c => t.modAx c (f c)) s).ax b = f b (s.ax b) := by
  induction l generalizing s with
  | nil => cases mem
  | cons c l ih =>
    rw [List.foldl_cons]
    by_cases later : b ∈ l
    · rw [ih later, ax_modAx]
      split
      · next here => rw [← here, once]
      · rfl
    · obtain rfl := (List.mem_cons.mp mem).resolve_right later
      rw [ax_foldl_other (fun t c d ne => ax_modAx_ne t _ ne) l later, ax_modAx_self]

section Gangs

variable {s : State} {a b d : AxisNo}

theorem partner_symm (h : s.partner a = some b) : s.partner b = some a := partner_eq_some.mpr (partner_eq_some.mp h).symm

theorem partner_mem_members (h : s.partner a = some b) : b ∈ s.members a := mem_members_iff.mpr (.inr h)

theorem mem_members_symm (mem : b ∈ s.members a) : a ∈ s.members b :=
  mem_members_iff.mpr ((mem_members_iff.mp mem).imp Eq.symm partner_symm)

theorem mem_members_trans (mem : b ∈ s.members a) (inner : a ∈ s.members d) : b ∈ s.members d := by
  rcases mem_members_iff.mp mem with rfl | gang
  · exact inner
  · rcases mem_members_iff.mp inner with rfl | outer
    · exact mem
    · obtain rfl : d = b := Option.some.inj ((partner_symm outer).symm.trans gang)
      exact self_mem_members s d

end Gangs

/-! #### Operations on the motion of axes -/

/-- Between two states the motion of axes alone has changed: nothing but the axes and the queue differs, no request has joined
the queue, and every axis has the owner that it had. -/
structure MotionOnly (s t : State) : Prop where
  rest : t = { s with axes := t.axes, queue := t.queue }
  queue : t.queue.Sublist s.queue
  owner : ∀ b, (t.ax b).owner = (s.ax b).owner

namespace MotionOnly

variable {s t u : State}

theorem refl (s : State) : MotionOnly s s := ⟨rfl, List.Sublist.refl _, fun _ => rfl⟩

theorem trans (h : MotionOnly s t) (k : MotionOnly t u) : MotionOnly s u where
  rest := by rw [k.rest, h.rest]
  queue := k.queue.trans h.queue
  owner := fun b => (k.owner b).trans (h.owner b)

theorem runners (h : MotionOnly s t) : t.runners = s.runners := by rw [h.rest]

theorem link (h : MotionOnly s t) : t.link = s.link := by rw [h.rest]

theorem modAx (s : State) (a : AxisNo) (f : Axis → Axis) (owner : ∀ x, (f x).owner = x.owner) :
    MotionOnly s (s.modAx a f) where
  rest := rfl
  queue := List.Sublist.refl _
  owner := fun b => by
    rw [ax_modAx]
    split
    · next e => rw [owner, e]
    · rfl

theorem foldl {α : Type} (s : State) (l : List α) (f : State → α → State) (hf : ∀ t a, MotionOnly t (f t a)) :
    MotionOnly s (l.foldl f s) := foldl_rel MotionOnly.refl MotionOnly.trans l f hf s

end MotionOnly

/-- One axis has changed, and may have left the queue. -/
def OneMoved (s t : State) (a : AxisNo) : Prop := ∃ u y, t = u.setAx a y ∧ (u = s ∨ u = s.leaveQueue a)

section OneMoved

variable {s t : State} {a b : AxisNo}

theorem OneMoved.setAx (s : State) (a : AxisNo) (y : Axis) : OneMoved s (s.setAx a y) a := ⟨s, y, rfl, .inl rfl⟩

theorem OneMoved.leaves (s : State) (a : AxisNo) (y : Axis) : OneMoved s ((s.leaveQueue a).setAx a y) a :=
  ⟨_, y, rfl, .inr rfl⟩

theorem OneMoved.refl (s : State) (a : AxisNo) : OneMoved s s a := ⟨s, s.ax a, (setAx_self s a).symm, .inl rfl⟩

theorem OneMoved.other (h : OneMoved s t a) (ne : b ≠ a) : t.ax b = s.ax b := by
  obtain ⟨u, y, rfl, rfl | rfl⟩ := h
  · exact ax_setAx_ne _ _ ne
  · exact ax_setAx_ne _ _ ne

theorem OneMoved.motionOnly (h : OneMoved s t a) (owner : (t.ax a).owner = (s.ax a).owner) : MotionOnly s t := by
  have owners (b : AxisNo) : (t.ax b).owner = (s.ax b).owner := by
    by_cases e : b = a
    · rw [e, owner]
    · rw [h.other e]
  obtain ⟨u, y, rfl, rfl | rfl⟩ := h
  · exact ⟨rfl, List.Sublist.refl _, owners⟩
  · exact ⟨rfl, List.filter_sublist, owners⟩

end OneMoved

theorem stopAxisFrom_motionOnly (s : State) (n : Nat) (a : AxisNo) (r : StopReq) : MotionOnly s (s.stopAxisFrom n a r) := by
  refine OneMoved.motionOnly (stopAxisFrom_shape s n a r) ?_
  unfold State.stopAxisFrom
  dsimp only
  repeat' split
  all_goals simp [State.startStopFrom, Axis.meet, Axis.toIdle, leaveQueue_ax]

theorem stopAll_motionOnly (s : State) (as : List AxisNo) (r : StopReq) : MotionOnly s (s.stopAll as r) :=
  MotionOnly.foldl s as _ (fun t a => stopAxisFrom_motionOnly t (s.dutyNow a) a r)

theorem ax_stopAll_other {s : State} {as : List AxisNo} {r : StopReq} {b : AxisNo} (out : b ∉ as) :
    (s.stopAll as r).ax b = s.ax b := ax_foldl_other (fun _ _ _ ne => stopAxisFrom_other ne) as out s

/-! #### The partner stop (R76) -/

section PartnerStop

variable {s : State} {p : AxisNo}

theorem partnerStop_driving (h : (s.ax p).motion = .driving) : s.partnerStop p = s.setAx p { s.ax p with
    motion := .stopping, phase := none, blanking := false, backoff := none, move := none,
    check := (s.ax p).check.map (fun j => { j with pulse := none }),
    stop := some ⟨.idle false, .quick, s.dutyNow p, false, 0, false, false⟩ } := by
  simp only [State.partnerStop, h, startStop_eq, modAx_eq, setAx_setAx, ax_setAx_self]
  rfl

theorem partnerStop_checking (h : (s.ax p).motion = .checking) : s.partnerStop p = s.setAx p { s.ax p with
    motion := .stopping, phase := none, blanking := false, backoff := none, move := none,
    check := (s.ax p).check.map (fun j => { j with pulse := none }),
    stop := some ⟨.idle false, .coast, s.dutyNow p, false, 0, false, false⟩ } := by
  simp only [State.partnerStop, h, startStop_eq, modAx_eq, setAx_setAx, ax_setAx_self]
  rfl

theorem partnerStop_bound (h : (s.ax p).motion = .stopping ∨ (s.ax p).motion = .engaging) :
    s.partnerStop p = s.setAx p (s.ax p).partnerStopped := by
  rcases h with h | h <;> simp only [State.partnerStop, h, modAx_eq]

theorem partnerStop_queued (h : (s.ax p).motion = .queued) :
    s.partnerStop p = (s.leaveQueue p).setAx p ((s.ax p).toIdle false) := by
  simp only [State.partnerStop, h]
  rfl

theorem partnerStop_blocked (h : (s.ax p).motion = .blocked) : s.partnerStop p = s.setAx p ((s.ax p).toIdle false) := by
  simp only [State.partnerStop, h, modAx_eq]

theorem partnerStop_idle (h : (s.ax p).motion = .idle) : s.partnerStop p = s.modAx p Axis.dropMove := by
  simp only [State.partnerStop, h]

theorem partnerStop_spares (h : (s.ax p).motion = .fault ∨ (s.ax p).motion = .backoff) : s.partnerStop p = s := by
  rcases h with h | h <;> simp only [State.partnerStop, h]

theorem partnerStop_oneMoved (s : State) (p : AxisNo) : OneMoved s (s.partnerStop p) p := by
  cases h : (s.ax p).motion with
  | driving => rw [partnerStop_driving h]; exact .setAx s p _
  | stopping => rw [partnerStop_bound (.inl h)]; exact .setAx s p _
  | engaging => rw [partnerStop_bound (.inr h)]; exact .setAx s p _
  | queued => rw [partnerStop_queued h]; exact .leaves s p _
  | blocked => rw [partnerStop_blocked h]; exact .setAx s p _
  | checking => rw [partnerStop_checking h]; exact .setAx s p _
  | idle => rw [partnerStop_idle h]; exact .setAx s p _
  | fault => rw [partnerStop_spares (.inl h)]; exact .refl s p
  | backoff => rw [partnerStop_spares (.inr h)]; exact .refl s p

theorem partnerStopped_bound {x : Axis} {st : Stop} (stop : x.stop = some st) (going : st.dest ≠ .fault) :
    x.partnerStopped = { x with move := none, noted := none, stop := some { st with dest := .idle false } } := by
  simp only [Axis.partnerStopped, stop, going, if_false]
  rfl

theorem partnerStopped_faulted {x : Axis} {st : Stop} (stop : x.stop = some st) (faulted : st.dest = .fault) :
    x.partnerStopped = x := by
  simp only [Axis.partnerStopped, stop, faulted, if_true]

theorem partnerStopped_bare {x : Axis} (stop : x.stop = none) : x.partnerStopped =
    { x with move := none, noted := none, stop := some ⟨.idle false, .coast, 0, false, 0, false, false⟩ } := by
  simp only [Axis.partnerStopped, stop]
  rfl

theorem partnerStopped_keeps (x : Axis) : x.partnerStopped.owner = x.owner ∧ x.partnerStopped.fault = x.fault := by
  unfold Axis.partnerStopped
  repeat' split
  all_goals exact ⟨rfl, rfl⟩

/-- A partner stop leaves the owner and the fault record of its axis. -/
theorem partnerStop_keeps (s : State) (p : AxisNo) : ((s.partnerStop p).ax p).owner = (s.ax p).owner ∧
    ((s.partnerStop p).ax p).fault = (s.ax p).fault := by
  cases h : (s.ax p).motion with
  | driving => rw [partnerStop_driving h, ax_setAx_self]; exact ⟨rfl, rfl⟩
  | stopping => rw [partnerStop_bound (.inl h), ax_setAx_self]; exact partnerStopped_keeps _
  | engaging => rw [partnerStop_bound (.inr h), ax_setAx_self]; exact partnerStopped_keeps _
  | queued => rw [partnerStop_queued h, ax_setAx_self]; exact ⟨rfl, rfl⟩
  | blocked => rw [partnerStop_blocked h, ax_setAx_self]; exact ⟨rfl, rfl⟩
  | checking => rw [partnerStop_checking h, ax_setAx_self]; exact ⟨rfl, rfl⟩
  | idle => rw [partnerStop_idle h, ax_modAx_self]; exact ⟨rfl, rfl⟩
  | fault => rw [partnerStop_spares (.inl h)]; exact ⟨rfl, rfl⟩
  | backoff => rw [partnerStop_spares (.inr h)]; exact ⟨rfl, rfl⟩

theorem partnerStop_motionOnly (s : State) (p : AxisNo) : MotionOnly s (s.partnerStop p) :=
  (partnerStop_oneMoved s p).motionOnly (partnerStop_keeps s p).1

theorem partnerStop_fault (s : State) (p a : AxisNo) : ((s.partnerStop p).ax a).fault = (s.ax a).fault := by
  by_cases e : a = p
  · rw [e, (partnerStop_keeps s p).2]
  · rw [(partnerStop_oneMoved s p).other e]

end PartnerStop

/-! #### Backoffs begun and cut short (R57, R59, R77, R78) -/

/-- An axis whose backoff is cut short has none that a second cut would end. -/
theorem cutAxis_cutAxis (mode : StopMode) (x : Axis) : cutAxis mode (cutAxis mode x) = cutAxis mode x := by
  cases h : x.backoff with
  | none => simp only [cutAxis, h]
  | some j => simp only [cutAxis, h, Axis.cutShort]

theorem cutAxis_none {x : Axis} (h : x.backoff = none) (mode : StopMode) : cutAxis mode x = x := by
  simp only [cutAxis, h]

theorem cutAxis_some {x : Axis} {j : Backoff} (h : x.backoff = some j) (mode : StopMode) : cutAxis mode x = { x with
    motion := .stopping, blanking := false, backoff := none,
    fault := x.fault.map (fun f => if f.kind = .obstruction then { f with backoff := .cutShort } else f),
    stop := some ⟨if x.fault = none then .idle false else .fault, mode, 0, false, 0, false, j.rest⟩ } := by
  simp only [cutAxis, h]
  exact cutShort_eq x mode j.rest

/-- An axis in BRAKE of a backoff; `faulted` marks the axis whose obstruction began it. -/
def intoBrake (dir : Dir) (distance : Nat) (faulted : Bool) (x : Axis) : Axis :=
  { x with motion := .backoff, phase := none, blanking := false, stop := none, noted := none,
           backoff := some ⟨.brake, dir, distance, 0, faulted, match x.stop with
             | some st => st.arrived
             | none => false⟩ }

section Backoffs

variable {s : State} {a b : AxisNo} {mode : StopMode}

theorem ax_cutBackoff (mem : b ∈ s.members a) :
    (s.cutBackoff a mode).ax b = cutAxis (if b = a then mode else .quick) (s.ax b) :=
  ax_foldl_modAx (f := fun c => cutAxis (if c = a then mode else .quick)) (cutAxis_cutAxis _) mem s

theorem ax_cutBackoff_other (out : b ∉ s.members a) : (s.cutBackoff a mode).ax b = s.ax b :=
  ax_foldl_other (fun t _ _ ne => ax_modAx_ne t _ ne) _ out s

theorem cutBackoff_motionOnly (s : State) (a : AxisNo) (mode : StopMode) : MotionOnly s (s.cutBackoff a mode) :=
  MotionOnly.foldl s _ _ (fun t b => .modAx t b _ (fun x => by
    cases x.backoff <;> rfl))

theorem beginBackoff_eq (s : State) (a : AxisNo) (dir : Dir) (n : Nat) : s.beginBackoff a dir n =
    (s.members a).foldl (fun t b => t.modAx b (intoBrake dir n (decide (b = a)))) s := rfl

theorem ax_beginBackoff (two : s.partner a ≠ some a) (mem : b ∈ s.members a) (dir : Dir) (n : Nat) :
    (s.beginBackoff a dir n).ax b = intoBrake dir n (decide (b = a)) (s.ax b) := by
  rw [beginBackoff_eq]
  refine ax_foldl_own (P := fun _ => True) (fun _ _ _ => trivial) (fun t c d ne => ?_) (fun t _ => ?_) (nodup_members two) mem
    trivial
  · exact ax_modAx_ne t _ ne
  · exact ax_modAx_self t b _

theorem beginBackoff_motionOnly (s : State) (a : AxisNo) (dir : Dir) (n : Nat) : MotionOnly s (s.beginBackoff a dir n) :=
  MotionOnly.foldl s _ _ (fun t b => .modAx t b _ (fun _ => rfl))

/-- A backoff that begins writes no fault record. -/
theorem beginBackoff_fault (s : State) (a : AxisNo) (dir : Dir) (n : Nat) (b : AxisNo) :
    ((s.beginBackoff a dir n).ax b).fault = (s.ax b).fault := by
  rw [beginBackoff_eq]
  refine foldl_rel (R := fun u v : State => (v.ax b).fault = (u.ax b).fault) (fun _ => rfl) (fun h k => k.trans h) _ _
    (fun t c => ?_) s
  rw [ax_modAx]
  split
  · next e => rw [e]; rfl
  · rfl

end Backoffs

/-! #### What a fault does to the motion of its axis (R63) -/

theorem endsBackoff_iff (k : FaultKind) (step : BackoffStep) : endsBackoff k step = true ↔
    k = .short ∨ k = .skew ∨ ((k = .obstruction ∨ k = .noStop ∨ k = .keepoutBreach) ∧ step = .reverse) := by
  cases k <;> simp [endsBackoff]

section FaultMotion

variable {s : State} {a b : AxisNo} {k : FaultKind}

theorem faultMotion_due (s : State) (a : AxisNo) (k : FaultKind) (z : Pinch) :
    s.faultMotion a k (some z) = s.beginBackoff a (flip z.dir) z.distance := rfl

theorem faultMotion_checking (h : (s.ax a).motion = .checking) : s.faultMotion a k none = s.startStop a .fault .coast := by
  simp only [State.faultMotion, h]

theorem faultMotion_engaging (h : (s.ax a).motion = .engaging) : s.faultMotion a k none =
    s.modAx a (fun x => { x with stop := some ⟨.fault, .coast, 0, false, 0, false, false⟩ }) := by
  simp only [State.faultMotion, h]
  rfl

theorem faultMotion_stopping (h : (s.ax a).motion = .stopping) : s.faultMotion a k none =
    s.modAx a (fun x => { x with stop := x.stop.map (fun st => st.cut k) }) := by
  simp only [State.faultMotion, h]

theorem faultMotion_queued (h : (s.ax a).motion = .queued) :
    s.faultMotion a k none = (s.leaveQueue a).setAx a (s.ax a).toFault := by
  simp only [State.faultMotion, h]
  rfl

theorem faultMotion_waits (h : (s.ax a).motion = .idle ∨ (s.ax a).motion = .blocked) :
    s.faultMotion a k none = s.setAx a (s.ax a).toFault := by
  rcases h with h | h <;> simp only [State.faultMotion, h, modAx_eq]

theorem faultMotion_fault (h : (s.ax a).motion = .fault) : s.faultMotion a k none = s := by
  simp only [State.faultMotion, h]

theorem faultMotion_cuts {j : Backoff} (h : (s.ax a).motion = .backoff) (backoff : (s.ax a).backoff = some j)
    (ends : endsBackoff k j.step = true) : s.faultMotion a k none = s.cutBackoff a k.stopMode := by
  simp only [State.faultMotion, h, backoff, ends, if_true]

theorem faultMotion_goesOn (h : (s.ax a).motion = .backoff)
    (goes : ∀ j, (s.ax a).backoff = some j → ¬ endsBackoff k j.step = true) : s.faultMotion a k none = s := by
  cases backoff : (s.ax a).backoff with
  | none => simp only [State.faultMotion, h, backoff]
  | some j => simp only [State.faultMotion, h, backoff, goes j backoff, Bool.false_eq_true, if_false]

/-- Where no backoff ends, a fault changes the motion of its own axis alone. -/
theorem faultMotion_oneMoved (h : (s.ax a).motion ≠ .backoff) : OneMoved s (s.faultMotion a k none) a := by
  cases motion : (s.ax a).motion with
  | driving => rw [faultMotion_driving motion, startStop_eq]; exact .setAx s a _
  | checking => rw [faultMotion_checking motion, startStop_eq]; exact .setAx s a _
  | engaging => rw [faultMotion_engaging motion]; exact .setAx s a _
  | stopping => rw [faultMotion_stopping motion]; exact .setAx s a _
  | queued => rw [faultMotion_queued motion]; exact .leaves s a _
  | idle => rw [faultMotion_waits (.inl motion)]; exact .setAx s a _
  | blocked => rw [faultMotion_waits (.inr motion)]; exact .setAx s a _
  | fault => rw [faultMotion_fault motion]; exact .refl s a
  | backoff => exact absurd motion h

/-- Where no backoff ends, a fault leaves the owner and the record of its axis. -/
theorem faultMotion_keeps (h : (s.ax a).motion ≠ .backoff) : ((s.faultMotion a k none).ax a).owner = (s.ax a).owner ∧
    ((s.faultMotion a k none).ax a).fault = (s.ax a).fault := by
  cases motion : (s.ax a).motion with
  | driving => rw [faultMotion_driving motion, startStop_eq, ax_setAx_self]; exact ⟨rfl, rfl⟩
  | checking => rw [faultMotion_checking motion, startStop_eq, ax_setAx_self]; exact ⟨rfl, rfl⟩
  | engaging => rw [faultMotion_engaging motion, ax_modAx_self]; exact ⟨rfl, rfl⟩
  | stopping => rw [faultMotion_stopping motion, ax_modAx_self]; exact ⟨rfl, rfl⟩
  | queued => rw [faultMotion_queued motion, ax_setAx_self]; exact ⟨rfl, rfl⟩
  | idle => rw [faultMotion_waits (.inl motion), ax_setAx_self]; exact ⟨rfl, rfl⟩
  | blocked => rw [faultMotion_waits (.inr motion), ax_setAx_self]; exact ⟨rfl, rfl⟩
  | fault => rw [faultMotion_fault motion]; exact ⟨rfl, rfl⟩
  | backoff => exact absurd motion h

/-- The fault cuts a backoff of the axis short (R59). -/
def CutsBackoff (x : Axis) (k : FaultKind) (z : Option Pinch) : Prop :=
  z = none ∧ x.motion = .backoff ∧ ∃ j, x.backoff = some j ∧ endsBackoff k j.step = true

theorem faultMotion_cut (h : CutsBackoff (s.ax a) k z) : s.faultMotion a k z = s.cutBackoff a k.stopMode := by
  obtain ⟨rfl, motion, j, backoff, ends⟩ := h
  exact faultMotion_cuts motion backoff ends

theorem faultMotion_motionOnly (s : State) (a : AxisNo) (k : FaultKind) (z : Option Pinch) :
    MotionOnly s (s.faultMotion a k z) := by
  cases z with
  | some z => exact beginBackoff_motionOnly s a _ _
  | none =>
    by_cases motion : (s.ax a).motion = .backoff
    · by_cases cut : CutsBackoff (s.ax a) k none
      · rw [faultMotion_cut cut]
        exact cutBackoff_motionOnly s a _
      · rw [faultMotion_goesOn motion (fun j backoff ends => cut ⟨rfl, motion, j, backoff, ends⟩)]
        exact .refl s
    · exact (faultMotion_oneMoved motion).motionOnly (faultMotion_keeps motion).1

theorem faultMotion_fault_cut {z : Option Pinch} (h : CutsBackoff (s.ax a) k z) : ((s.faultMotion a k z).ax a).fault =
    (s.ax a).fault.map (fun f => if f.kind = .obstruction then { f with backoff := .cutShort } else f) := by
  rw [faultMotion_cut h, ax_cutBackoff (self_mem_members s a)]
  obtain ⟨-, -, j, backoff, -⟩ := h
  rw [cutAxis_some backoff]

theorem faultMotion_fault_kept {z : Option Pinch} (h : ¬ CutsBackoff (s.ax a) k z) :
    ((s.faultMotion a k z).ax a).fault = (s.ax a).fault := by
  cases z with
  | some z => exact beginBackoff_fault s a _ _ a
  | none =>
    by_cases motion : (s.ax a).motion = .backoff
    · rw [faultMotion_goesOn motion (fun j backoff ends => h ⟨rfl, motion, j, backoff, ends⟩)]
    · exact (faultMotion_keeps motion).2

end FaultMotion

/-! #### The owner told of a first fault (R64, R162) -/

/-- What follows a fault: requests leave the queue, reports join theirs. -/
structure Onward (s t : State) : Prop where
  queue : t.queue.Sublist s.queue
  reports : ∃ more, t.link.reports = s.link.reports ++ more

namespace Onward

variable {s t u : State}

theorem refl (s : State) : Onward s s := ⟨List.Sublist.refl _, [], (List.append_nil _).symm⟩

theorem trans (h : Onward s t) (k : Onward t u) : Onward s u := by
  obtain ⟨first, e⟩ := h.reports
  obtain ⟨more, e'⟩ := k.reports
  exact ⟨k.queue.trans h.queue, first ++ more, by rw [e', e, List.append_assoc]⟩

theorem of_same (queue : t.queue = s.queue) (link : t.link = s.link) : Onward s t :=
  ⟨by rw [queue], [], by rw [link, List.append_nil]⟩

theorem setRun (s : State) (r : RunnerNo) (x : Option Run) : Onward s (s.setRun r x) := .of_same rfl rfl

theorem of_motionOnly (h : MotionOnly s t) : Onward s t := ⟨h.queue, [], by rw [h.link, List.append_nil]⟩

theorem report (s : State) (r : Report) : Onward s (s.report r) := ⟨by rw [report_queue], (TellsOnly.report s r).reports⟩

end Onward

section Pauses

variable {s : State} {r q : RunnerNo} {run : Run} {w : Reason}

/-- A pause reason changes the runner's record, and either stops axes or is reported. -/
theorem pauseFor_shape (s : State) (r : RunnerNo) (w : Reason) : ∃ x,
    (∃ as, s.pauseFor r w = (s.setRun r x).stopAll as .pause) ∨ ∃ n, s.pauseFor r w = (s.setRun r x).report n := by
  have same (h : s.pauseFor r w = s) : ∃ x, (∃ as, s.pauseFor r w = (s.setRun r x).stopAll as .pause) ∨
      ∃ n, s.pauseFor r w = (s.setRun r x).report n := ⟨s.run r, .inl ⟨[], by rw [h, setRun_self]; rfl⟩⟩
  cases is : s.run r with
  | none => exact same (pauseFor_free is)
  | some run =>
    cases state : run.state with
    | running => exact ⟨_, .inl ⟨_, pauseFor_running is state⟩⟩
    | pausing => exact ⟨_, .inl ⟨[], pauseFor_pausing is state⟩⟩
    | paused =>
      have paused := pauseFor_paused (w := w) is state
      by_cases had : run.reasons.has w = true
      · exact same (paused.trans (if_pos had))
      · exact ⟨_, .inr ⟨_, paused.trans (if_neg had)⟩⟩
    | halting => exact same (pauseFor_halting is state)

theorem pauseFor_onward (s : State) (r : RunnerNo) (w : Reason) : Onward s (s.pauseFor r w) := by
  obtain ⟨x, ⟨as, h⟩ | ⟨n, h⟩⟩ := pauseFor_shape s r w
  · rw [h]
    exact (Onward.setRun s r x).trans (.of_motionOnly (stopAll_motionOnly _ as .pause))
  · rw [h]
    exact (Onward.setRun s r x).trans (.report _ n)

theorem pauseFor_owner (s : State) (r : RunnerNo) (w : Reason) (b : AxisNo) :
    ((s.pauseFor r w).ax b).owner = (s.ax b).owner := by
  obtain ⟨x, ⟨as, h⟩ | ⟨n, h⟩⟩ := pauseFor_shape s r w
  · rw [h, (stopAll_motionOnly _ _ _).owner]
    rfl
  · rw [h, report_ax]
    rfl

theorem run_pauseFor_other (ne : q ≠ r) : (s.pauseFor r w).run q = s.run q := by
  obtain ⟨x, ⟨as, h⟩ | ⟨n, h⟩⟩ := pauseFor_shape s r w
  · rw [h, run_congr (stopAll_motionOnly _ _ _).runners, run_setRun_ne s x ne]
  · rw [h, run_congr (report_runners _ _), run_setRun_ne s x ne]

/-- The runner that a reason reaches, unless it is HALTING: a RUNNING one enters PAUSING, and the reason is in the set. -/
theorem run_pauseFor (is : s.run r = some run) (going : run.state ≠ .halting) : (s.pauseFor r w).run r = some { run with
    state := if run.state = .running then .pausing else run.state, reasons := run.reasons.add w } := by
  cases state : run.state with
  | running => rw [pauseFor_running is state, run_congr (stopAll_motionOnly _ _ _).runners, run_setRun_self]; rfl
  | pausing => rw [pauseFor_pausing is state, run_setRun_self, if_neg (by decide), ← state]
  | paused =>
    rw [pauseFor_paused is state, if_neg (show ¬ RunState.paused = .running from RunState.noConfusion), ← state]
    split
    · next had => rw [is, (add_eq_self_iff _ w).mpr had]
    · rw [State.runPaused, run_congr (report_runners _ _), run_setRun_self]
  | halting => exact absurd state going

/-- A pause stops the axes with an ACTIVE move alone. -/
theorem ax_pauseFor_still {b : AxisNo} (is : s.run r = some run) (still : b ∉ s.busyAxes run) :
    (s.pauseFor r w).ax b = s.ax b := by
  cases state : run.state with
  | running => rw [pauseFor_running is state, ax_stopAll_other still]; rfl
  | pausing => rw [pauseFor_pausing is state]; rfl
  | paused =>
    rw [pauseFor_paused is state]
    split
    · rfl
    · exact report_ax _ _ b
  | halting => rw [pauseFor_halting is state]

end Pauses

/-- A run told of the first fault of one of its axes: the first fault is kept, and the ACTIVE move of the axis is READY again
(R162). -/
def toldRun (s : State) (run : Run) (a : AxisNo) (k : FaultKind) : Run :=
  { run with
    firstFault := if run.firstFault = none then some (a, k) else run.firstFault
    moves := run.moves.mapIdx (fun i m =>
      if m.state = .active ∧ s.moveOn run i a = true then { m with state := .ready } else m) }

/-- Which axes a move occupies the plans and the gangs alone say. -/
theorem toldRun_congr {s t : State} (config : ∀ b, (t.ax b).config = (s.ax b).config) (places : t.places = s.places)
    (slots : t.slots = s.slots) (run : Run) (a : AxisNo) (k : FaultKind) : toldRun t run a k = toldRun s run a k := by
  have on (i : Nat) : t.moveOn run i a = s.moveOn run i a := by
    rw [Bool.eq_iff_iff, moveOn_eq_true_iff, moveOn_eq_true_iff]
    simp only [State.moveEntry, places, slots, members_congr config]
  simp only [toldRun, on]

/-- No move of the run is ACTIVE any more on the axis or on its gang partner. -/
theorem not_busy_told {s : State} {a b : AxisNo} (mem : b ∈ s.members a) (run : Run) (k : FaultKind) :
    b ∉ s.busyAxes (toldRun s run a k) := by
  have idle : s.activeOn (toldRun s run a k) b = none := by
    rw [activeOn_eq_none_iff]
    intro j m e is active entry on
    obtain ⟨n, -, rfl⟩ := Option.map_eq_some_iff.mp (List.getElem?_mapIdx.symm.trans is)
    have here : s.moveOn run j a = true := moveOn_eq_true_iff.mpr ⟨e, entry, mem_members_trans (mem_members_symm mem) on⟩
    by_cases was : n.state = .active
    · rw [if_pos ⟨was, here⟩] at active
      exact absurd active MoveState.noConfusion
    · rw [if_neg (fun h => was h.1)] at active
      exact was active
  intro busy
  have := (List.mem_filter.mp busy).2
  rw [idle] at this
  exact absurd this Bool.false_ne_true

/-- The result of an operation that a fault has decided, a second fault does not change. -/
theorem faultResult_faultResult (op : LinkOp) (k : FaultKind) : faultResult (faultResult op k) k = faultResult op k := by
  have cases : faultResult op k = op ∨ faultResult op k = { op with result := some (.fault, some k), window := none } := by
    unfold faultResult
    split
    · exact .inl rfl
    · exact .inr rfl
  rcases cases with h | h <;> rw [h]
  · exact h
  · rfl

section Told

variable {s : State} {a b : AxisNo} {k : FaultKind}

theorem tellOwnerFault_none (h : (s.ax a).owner = .none) : s.tellOwnerFault a k = s := by
  simp only [State.tellOwnerFault, h]

theorem tellOwnerFault_link {op : LinkOp} (h : (s.ax a).owner = .link op) :
    s.tellOwnerFault a k = s.modOp a (fun op => faultResult op k) := by
  simp only [State.tellOwnerFault, h]

variable {r : RunnerNo} {run : Run}

theorem tellOwnerFault_free (h : (s.ax a).owner = .runner r) (is : s.run r = none) : s.tellOwnerFault a k = s := by
  simp only [State.tellOwnerFault, h, State.tellRunnerFault, is]

theorem tellOwnerFault_halting (h : (s.ax a).owner = .runner r) (is : s.run r = some run) (halting : run.state = .halting) :
    s.tellOwnerFault a k = s := by
  simp only [State.tellOwnerFault, h, State.tellRunnerFault, is, halting, if_true]

theorem tellOwnerFault_runner (h : (s.ax a).owner = .runner r) (is : s.run r = some run) (going : run.state ≠ .halting) :
    s.tellOwnerFault a k = (s.setRun r (some (toldRun s run a k))).pauseFor r .fault := by
  simp only [State.tellOwnerFault, h, State.tellRunnerFault, is, going, if_false, toldRun, State.backToReady,
    Option.isNone_iff_eq_none, Bool.and_eq_true, decide_eq_true_eq]

/-- Of a gang, both axes have the operation whose end the fault decides. -/
theorem ax_tellOwnerFault_link {op : LinkOp} (h : (s.ax a).owner = .link op) (mem : b ∈ s.members a) :
    (s.tellOwnerFault a k).ax b = withOp (fun op => faultResult op k) (s.ax b) := by
  rw [tellOwnerFault_link h, modOp_eq]
  refine ax_foldl_modAx (f := fun _ => withOp (fun op => faultResult op k)) (fun x => ?_) mem s
  cases owner : x.owner with
  | link op => simp only [withOp, owner, faultResult_faultResult]
  | none => simp only [withOp, owner]
  | runner r => simp only [withOp, owner]

/-- The owner of an axis is told of a fault by a change of the owners of its gang, or by a pause of the run that owns it. -/
theorem tellOwnerFault_cases (s : State) (a : AxisNo) (k : FaultKind) : s.tellOwnerFault a k = s ∨
    (∃ op, (s.ax a).owner = .link op) ∨
    ∃ r run, s.tellOwnerFault a k = (s.setRun r (some (toldRun s run a k))).pauseFor r .fault := by
  cases owner : (s.ax a).owner with
  | none => exact .inl (tellOwnerFault_none owner)
  | link op => exact .inr (.inl ⟨op, rfl⟩)
  | runner r =>
    cases is : s.run r with
    | none => exact .inl (tellOwnerFault_free owner is)
    | some run =>
      by_cases halting : run.state = .halting
      · exact .inl (tellOwnerFault_halting owner is halting)
      · exact .inr (.inr ⟨r, run, tellOwnerFault_runner owner is halting⟩)

theorem tellOwnerFault_onward (s : State) (a : AxisNo) (k : FaultKind) : Onward s (s.tellOwnerFault a k) := by
  rcases tellOwnerFault_cases s a k with h | ⟨op, owner⟩ | ⟨r, run, h⟩
  · rw [h]
    exact .refl s
  · rw [tellOwnerFault_link owner]
    exact .of_same (modAll_queue _ _ _) (modAll_link _ _ _)
  · rw [h]
    exact (Onward.setRun s r _).trans (pauseFor_onward _ r .fault)

end Told

/-- Two axes differ in their owner at most. -/
def Reowned (x y : Axis) : Prop := y = { x with owner := y.owner }

theorem Reowned.refl (x : Axis) : Reowned x x := rfl

theorem Reowned.fault {x y : Axis} (h : Reowned x y) : y.fault = x.fault := by rw [h]

/-- Of an axis with a first fault and of its gang partner, their owner being told changes the owner alone. -/
theorem tellOwnerFault_reowns {s : State} {a b : AxisNo} (mem : b ∈ s.members a) (k : FaultKind) :
    Reowned (s.ax b) ((s.tellOwnerFault a k).ax b) := by
  rcases tellOwnerFault_cases s a k with h | ⟨op, owner⟩ | ⟨r, run, h⟩
  · rw [h]
    exact .refl _
  · rw [ax_tellOwnerFault_link owner mem]
    rfl
  · rw [h, ax_pauseFor_still (run_setRun_self _ _ _) (not_busy_told mem run k)]
    exact .refl _

end Sys2Proof.Laws

namespace Sys2Proof.Laws

open Sys2Proof.Machine Sys2Proof.Safety Sys2Proof.Proofs

/-! #### A fault recorded and taking its effect (R61 to R63) -/

/-- The record of an axis at a fault: a first one writes it, a later one marks it as further (R61, R62). -/
def faultRecord (x : Axis) (k : FaultKind) (c : Cause) (e : Option EntryNo) : FaultRec :=
  match x.fault with
  | none => ⟨k, c, x.pos, .none, e, false⟩
  | some f => { f with further := true }

/-- The state in which a fault is recorded and reported, and has no effect yet. -/
def recorded (s : State) (a : AxisNo) (k : FaultKind) (c : Cause) (e : Option EntryNo) (z : Option Pinch) : State :=
  (s.setAx a { s.ax a with fault := some (faultRecord (s.ax a) k c e) }).report
    (.axisFault a (!(s.ax a).fault.isNone) k c (s.ax a).pos z.isSome e (s.ownerTag a))

/-- The state in which a fault has taken its effect on the motion, its owner not told yet. -/
def struck (s : State) (a : AxisNo) (k : FaultKind) (c : Cause) (e : Option EntryNo) (z : Option Pinch) : State :=
  (recorded s a k c e z).faultMotion a k z

section Struck

variable {s : State} {a b : AxisNo} {k : FaultKind} {c : Cause} {e : Option EntryNo} {z : Option Pinch}

theorem ax_recorded : (recorded s a k c e z).ax a = { s.ax a with fault := some (faultRecord (s.ax a) k c e) } := by
  rw [recorded, report_ax, ax_setAx_self]

theorem ax_recorded_other (ne : b ≠ a) : (recorded s a k c e z).ax b = s.ax b := by
  rw [recorded, report_ax, ax_setAx_ne _ _ ne]

theorem recorded_sameDrive (b : AxisNo) : SameDrive (s.ax b) ((recorded s a k c e z).ax b) := by
  by_cases h : b = a
  · rw [h, ax_recorded]
    exact ⟨rfl, rfl, rfl, rfl, rfl, rfl, rfl, rfl, rfl, rfl, rfl⟩
  · rw [ax_recorded_other h]
    exact ⟨rfl, rfl, rfl, rfl, rfl, rfl, rfl, rfl, rfl, rfl, rfl⟩

theorem motion_recorded {m : Motion} (h : (s.ax a).motion = m) : ((recorded s a k c e z).ax a).motion = m :=
  (recorded_sameDrive a).motion.trans h

theorem backoff_recorded {j : Backoff} (h : (s.ax a).backoff = some j) : ((recorded s a k c e z).ax a).backoff = some j :=
  (recorded_sameDrive a).backoff.trans h

/-- The record of a fault has no part in the duty. -/
theorem dutyNow_recorded : (recorded s a k c e z).dutyNow a = s.dutyNow a :=
  dutyNow_congr recorded_sameDrive (by rw [recorded, report_store]; rfl) (by rw [ax_recorded])

theorem recorded_members (b : AxisNo) : (recorded s a k c e z).members b = s.members b :=
  members_congr (fun d => (recorded_sameDrive d).config) b

theorem recorded_partner (b : AxisNo) : (recorded s a k c e z).partner b = s.partner b :=
  partner_congr (fun d => (recorded_sameDrive d).config) b

theorem struck_motionOnly : MotionOnly (recorded s a k c e z) (struck s a k c e z) := faultMotion_motionOnly _ a k z

theorem struck_controls : Controls False s (struck s a k c e z) := by
  have written := (Controls.refl (F := False) s).modAx a _ (fun x => KeptAxis.recordFault x ⟨k, c, x.pos, .none, e, false⟩)
  have noted := written.report (.axisFault a (!(s.ax a).fault.isNone) k c (s.ax a).pos z.isSome e (s.ownerTag a))
  exact noted.faultMotion a k z

theorem struck_owner (b : AxisNo) : ((struck s a k c e z).ax b).owner = (s.ax b).owner :=
  (struck_motionOnly.owner b).trans (recorded_sameDrive b).owner

theorem struck_runners : (struck s a k c e z).runners = s.runners := by
  rw [struck_motionOnly.runners, recorded, report_runners, setAx_runners]

theorem struck_run (r : RunnerNo) : (struck s a k c e z).run r = s.run r := run_congr struck_runners r

theorem struck_members (b : AxisNo) : (struck s a k c e z).members b = s.members b :=
  members_congr (fun d => (struck_controls.axes d).config) b

theorem told_partner (b : AxisNo) : ((struck s a k c e z).tellOwnerFault a k).partner b = s.partner b :=
  (struck_controls.tellOwnerFault a k).partner b

/-- Where no backoff ends, a fault changes its own axis alone. -/
theorem ax_struck_other (ne : b ≠ a) (still : (s.ax a).motion ≠ .backoff) : (struck s a k c e none).ax b = s.ax b := by
  have moved := faultMotion_oneMoved (s := recorded s a k c e none) (a := a) (k := k) (by rw [ax_recorded]; exact still)
  exact (moved.other ne).trans (ax_recorded_other ne)

/-- The first fault of an axis writes its record, a later one marks it as further (R61, R62). -/
theorem faultRecord_first {x : Axis} (first : x.fault = none) (k : FaultKind) (c : Cause) (e : Option EntryNo) :
    faultRecord x k c e = ⟨k, c, x.pos, .none, e, false⟩ := by
  simp only [faultRecord, first]

theorem faultRecord_further {x : Axis} {g : FaultRec} (further : x.fault = some g) (k : FaultKind) (c : Cause)
    (e : Option EntryNo) : faultRecord x k c e = { g with further := true } := by
  simp only [faultRecord, further]

/-- What a fault leaves of its record: CUT_SHORT in that of an OBSTRUCTION where the fault ends a backoff (R59, R61). -/
theorem fault_struck_cut (cut : CutsBackoff (s.ax a) k z) : ((struck s a k c e z).ax a).fault =
    some (if (faultRecord (s.ax a) k c e).kind = .obstruction then { faultRecord (s.ax a) k c e with backoff := .cutShort }
      else faultRecord (s.ax a) k c e) := by
  have cut' : CutsBackoff ((recorded s a k c e z).ax a) k z := by rw [ax_recorded]; exact cut
  rw [struck, faultMotion_fault_cut cut', ax_recorded]
  rfl

theorem fault_struck_kept (goes : ¬ CutsBackoff (s.ax a) k z) :
    ((struck s a k c e z).ax a).fault = some (faultRecord (s.ax a) k c e) := by
  have goes' : ¬ CutsBackoff ((recorded s a k c e z).ax a) k z := by rw [ax_recorded]; exact goes
  rw [struck, faultMotion_fault_kept goes', ax_recorded]

end Struck

/-! #### A fault raised (R61 to R64, R76) -/

section Raise

variable {s : State} {a b : AxisNo} {k : FaultKind} {c : Cause} {e : Option EntryNo} {z : Option Pinch}

/-- A further fault has its effect on the motion, and nothing more follows (R62). -/
theorem raiseFault_further (further : (s.ax a).fault ≠ none) : s.raiseFault a k c e z = struck s a k c e z :=
  if_neg (by rwa [Option.isNone_iff_eq_none])

/-- A first fault whose owner alone is told. -/
theorem raiseFault_tells (first : (s.ax a).fault = none)
    (spares : ¬ stopsPartner k z.isSome (s.ax a).motion = true ∨ s.partner a = none) :
    s.raiseFault a k c e z = (struck s a k c e z).tellOwnerFault a k := by
  refine (if_pos (Option.isNone_iff_eq_none.mpr first)).trans ?_
  by_cases stops : stopsPartner k z.isSome (s.ax a).motion = true
  · have alone : ((struck s a k c e z).tellOwnerFault a k).partner a = none :=
      (told_partner a).trans (spares.resolve_left (not_not.mpr stops))
    refine (if_pos stops).trans ?_
    split
    · rfl
    · next p found => exact absurd (alone.symm.trans found) (Option.some_ne_none p).symm
  · exact if_neg stops

/-- A first fault that stops the gang partner too (R76). -/
theorem raiseFault_stops (first : (s.ax a).fault = none) (stops : stopsPartner k z.isSome (s.ax a).motion = true)
    (gang : s.partner a = some b) :
    s.raiseFault a k c e z = ((struck s a k c e z).tellOwnerFault a k).partnerStop b := by
  have gang' : ((struck s a k c e z).tellOwnerFault a k).partner a = some b := (told_partner a).trans gang
  refine (if_pos (Option.isNone_iff_eq_none.mpr first)).trans ((if_pos stops).trans ?_)
  split
  · next alone => exact absurd (gang'.symm.trans alone) (Option.some_ne_none b)
  · next p found =>
    obtain rfl : b = p := Option.some.inj (gang'.symm.trans found)
    rfl

/-- After a first fault the owner is told, and a partner stop may follow. -/
theorem raiseFault_first (first : (s.ax a).fault = none) :
    s.raiseFault a k c e z = (struck s a k c e z).tellOwnerFault a k ∨
    ∃ b, s.partner a = some b ∧ s.raiseFault a k c e z = ((struck s a k c e z).tellOwnerFault a k).partnerStop b := by
  by_cases stops : stopsPartner k z.isSome (s.ax a).motion = true
  · cases gang : s.partner a with
    | none => exact .inl (raiseFault_tells first (.inr gang))
    | some b => exact .inr ⟨b, rfl, raiseFault_stops first stops gang⟩
  · exact .inl (raiseFault_tells first (.inl stops))

theorem raiseFault_motionOnly (first : (s.ax a).fault = none) :
    MotionOnly ((struck s a k c e z).tellOwnerFault a k) (s.raiseFault a k c e z) := by
  rcases raiseFault_first (k := k) (c := c) (e := e) (z := z) first with h | ⟨b, -, h⟩
  · rw [h]
    exact .refl _
  · rw [h]
    exact partnerStop_motionOnly _ b

theorem raiseFault_onward : Onward (struck s a k c e z) (s.raiseFault a k c e z) := by
  by_cases first : (s.ax a).fault = none
  · exact (tellOwnerFault_onward _ a k).trans (.of_motionOnly (raiseFault_motionOnly first))
  · rw [raiseFault_further first]
    exact .refl _

/-- Of the axes of a gang, those that no partner stop reaches are as the fault left them, but for their owner. -/
theorem raiseFault_reowns (mem : b ∈ s.members a)
    (spared : b = a ∧ s.partner a ≠ some a ∨ (s.ax a).fault ≠ none ∨
      ¬ stopsPartner k z.isSome (s.ax a).motion = true) :
    Reowned ((struck s a k c e z).ax b) ((s.raiseFault a k c e z).ax b) := by
  by_cases first : (s.ax a).fault = none
  · have told := tellOwnerFault_reowns (s := struck s a k c e z) (a := a) (b := b) (by rw [struck_members]; exact mem) k
    by_cases spares : ¬ stopsPartner k z.isSome (s.ax a).motion = true
    · rw [raiseFault_tells first (.inl spares)]
      exact told
    · obtain ⟨rfl, two⟩ : b = a ∧ s.partner a ≠ some a :=
        spared.resolve_right (not_or.mpr ⟨not_not.mpr first, spares⟩)
      rcases raiseFault_first (k := k) (c := c) (e := e) (z := z) first with h | ⟨p, gang, h⟩
      · rw [h]
        exact told
      · have ne : b ≠ p := fun eq => two (eq ▸ gang)
        rw [h, (partnerStop_oneMoved _ p).other ne]
        exact told
  · rw [raiseFault_further first]
    exact .refl _

/-- What follows a fault leaves its record. -/
theorem fault_raiseFault : ((s.raiseFault a k c e z).ax a).fault = ((struck s a k c e z).ax a).fault := by
  by_cases first : (s.ax a).fault = none
  · have told := (tellOwnerFault_reowns (self_mem_members (struck s a k c e z) a) k).fault
    rcases raiseFault_first (k := k) (c := c) (e := e) (z := z) first with h | ⟨p, -, h⟩
    · rw [h, told]
    · rw [h, partnerStop_fault, told]
  · rw [raiseFault_further first]

/-- The record after a fault: as the fault writes it, but CUT_SHORT in that of an OBSTRUCTION whose backoff the fault ends (R59,
R61). -/
theorem fault_raiseFault_record {f : FaultRec} (record : faultRecord (s.ax a) k c e = f) :
    ∃ g, ((s.raiseFault a k c e z).ax a).fault = some g ∧ g.kind = f.kind ∧ g.cause = f.cause ∧ g.pos = f.pos ∧
      g.entry = f.entry ∧ g.further = f.further ∧
      (CutsBackoff (s.ax a) k z ∧ f.kind = .obstruction → g.backoff = .cutShort) ∧
      (¬ (CutsBackoff (s.ax a) k z ∧ f.kind = .obstruction) → g.backoff = f.backoff) := by
  rw [fault_raiseFault]
  by_cases cut : CutsBackoff (s.ax a) k z
  · rw [fault_struck_cut cut, record]
    by_cases kind : f.kind = .obstruction
    · exact ⟨_, congrArg some (if_pos kind), rfl, rfl, rfl, rfl, rfl, fun _ => rfl, fun goes => absurd ⟨cut, kind⟩ goes⟩
    · exact ⟨_, congrArg some (if_neg kind), rfl, rfl, rfl, rfl, rfl, fun ends => absurd ends.2 kind, fun _ => rfl⟩
  · rw [fault_struck_kept cut, record]
    exact ⟨_, rfl, rfl, rfl, rfl, rfl, rfl, fun ends => absurd ends.1 cut, fun _ => rfl⟩

theorem raiseFault_measured (b : AxisNo) : Measured (s.ax b) ((s.raiseFault a k c e z).ax b) :=
  Controls.measured ((Controls.refl (F := False) s).raiseFault a k c e z) b

/-- The report of a fault joins the queue where it has a place, before those of what follows (R64). -/
theorem reports_raiseFault (room : s.link.reports.length < 16) : ∃ tail, (s.raiseFault a k c e z).link.reports =
    s.link.reports ++ .axisFault a (s.ax a).fault.isSome k c (s.ax a).pos z.isSome e (s.ownerTag a) :: tail := by
  obtain ⟨tail, h⟩ := (raiseFault_onward (s := s) (a := a) (k := k) (c := c) (e := e) (z := z)).reports
  refine ⟨tail, ?_⟩
  have own : (struck s a k c e z).link.reports =
      s.link.reports ++ [.axisFault a (s.ax a).fault.isSome k c (s.ax a).pos z.isSome e (s.ownerTag a)] := by
    rw [struck_motionOnly.link, recorded, State.report, if_pos (by exact room), Option.not_isNone]
    rfl
  rw [h, own, List.append_assoc]
  rfl

end Raise

/-! #### The faulted axis by its motion (R59, R63) -/

/-- An axis as a fault leaves it, but for its record and its owner. -/
def FaultedAs (x y : Axis) : Prop := y = { x with fault := y.fault, owner := y.owner }

theorem FaultedAs.of_reowned {x y z : Axis} (h : y = { x with fault := y.fault }) (k : Reowned y z) : FaultedAs x z := by
  rw [Reowned, h] at k
  rw [FaultedAs, k]

section Own

variable {s : State} {a b : AxisNo} {k : FaultKind} {c : Cause} {e : Option EntryNo} (two : s.partner a ≠ some a)
include two

theorem raiseFault_own {z : Option Pinch} : Reowned ((struck s a k c e z).ax a) ((s.raiseFault a k c e z).ax a) :=
  raiseFault_reowns (self_mem_members s a) (.inl ⟨rfl, two⟩)

theorem raiseFault_driving (h : (s.ax a).motion = .driving) : FaultedAs { s.ax a with
    motion := .stopping, phase := none, blanking := false, backoff := none,
    check := (s.ax a).check.map (fun j => { j with pulse := none }),
    stop := some ⟨.fault, k.stopMode, s.dutyNow a, decide (k.stopMode = .controlled), 0, false, false⟩ }
    ((s.raiseFault a k c e none).ax a) := by
  refine .of_reowned ?_ (raiseFault_own two)
  rw [struck, faultMotion_driving (motion_recorded h), startStop_eq, ax_setAx_self, dutyNow_recorded, ax_recorded]

theorem raiseFault_checking (h : (s.ax a).motion = .checking) : FaultedAs { s.ax a with
    motion := .stopping, phase := none, blanking := false, backoff := none,
    check := (s.ax a).check.map (fun j => { j with pulse := none }),
    stop := some ⟨.fault, .coast, s.dutyNow a, false, 0, false, false⟩ } ((s.raiseFault a k c e none).ax a) := by
  refine .of_reowned ?_ (raiseFault_own two)
  rw [struck, faultMotion_checking (motion_recorded h), startStop_eq, ax_setAx_self, dutyNow_recorded, ax_recorded]
  rfl

theorem raiseFault_engaging (h : (s.ax a).motion = .engaging) :
    FaultedAs { s.ax a with stop := some ⟨.fault, .coast, 0, false, 0, false, false⟩ }
      ((s.raiseFault a k c e none).ax a) := by
  refine .of_reowned ?_ (raiseFault_own two)
  rw [struck, faultMotion_engaging (motion_recorded h), ax_modAx_self, ax_recorded]

theorem raiseFault_stopping {st : Stop} (h : (s.ax a).motion = .stopping) (stop : (s.ax a).stop = some st) :
    FaultedAs { s.ax a with stop := some (st.cut k) } ((s.raiseFault a k c e none).ax a) := by
  refine .of_reowned ?_ (raiseFault_own two)
  rw [struck, faultMotion_stopping (motion_recorded h), ax_modAx_self, ax_recorded]
  dsimp only
  rw [stop]
  rfl

theorem raiseFault_cuts {j : Backoff} (h : (s.ax a).motion = .backoff) (backoff : (s.ax a).backoff = some j)
    (ends : endsBackoff k j.step = true) : FaultedAs { s.ax a with
      motion := .stopping, blanking := false, backoff := none,
      stop := some ⟨.fault, k.stopMode, 0, false, 0, false, j.rest⟩ } ((s.raiseFault a k c e none).ax a) := by
  refine .of_reowned ?_ (raiseFault_own two)
  rw [struck, faultMotion_cuts (motion_recorded h) (backoff_recorded backoff) ends, ax_cutBackoff (self_mem_members _ a),
    if_pos rfl, cutAxis_some (backoff_recorded backoff), ax_recorded]
  rfl

theorem raiseFault_goesOn (h : (s.ax a).motion = .backoff)
    (goes : ∀ j, (s.ax a).backoff = some j → ¬ endsBackoff k j.step = true) :
    FaultedAs (s.ax a) ((s.raiseFault a k c e none).ax a) := by
  refine .of_reowned ?_ (raiseFault_own two)
  rw [struck, faultMotion_goesOn (motion_recorded h) (by rw [ax_recorded]; exact goes), ax_recorded]

theorem raiseFault_waits (h : (s.ax a).motion = .idle ∨ (s.ax a).motion = .blocked) :
    FaultedAs (s.ax a).toFault ((s.raiseFault a k c e none).ax a) := by
  refine .of_reowned ?_ (raiseFault_own two)
  rw [struck, faultMotion_waits (by rw [ax_recorded]; exact h), ax_setAx_self, ax_recorded]
  rfl

theorem raiseFault_queued (h : (s.ax a).motion = .queued) : FaultedAs (s.ax a).toFault ((s.raiseFault a k c e none).ax a) := by
  refine .of_reowned ?_ (raiseFault_own two)
  rw [struck, faultMotion_queued (motion_recorded h), ax_setAx_self, ax_recorded]
  rfl

theorem raiseFault_faulted (h : (s.ax a).motion = .fault) : FaultedAs (s.ax a) ((s.raiseFault a k c e none).ax a) := by
  refine .of_reowned ?_ (raiseFault_own two)
  rw [struck, faultMotion_fault (motion_recorded h), ax_recorded]

/-- Both axes of a gang enter BRAKE where a backoff is due (R56, R57, R77). -/
theorem raiseFault_backsOff (mem : b ∈ s.members a) (z : Pinch) :
    FaultedAs (intoBrake (flip z.dir) z.distance (decide (b = a)) (s.ax b)) ((s.raiseFault a k c e (some z)).ax b) := by
  refine .of_reowned ?_ (raiseFault_reowns mem (.inr (.inr (by simp [stopsPartner]))))
  rw [struck, faultMotion_due, ax_beginBackoff (by rw [recorded_partner]; exact two) (by rw [recorded_members]; exact mem)]
  by_cases own : b = a
  · rw [own, ax_recorded]
    rfl
  · rw [ax_recorded_other own]

end Own

/-- A backoff that begins writes no record on the gang partner (R77). -/
theorem raiseFault_backsOff_fault {s : State} {a b : AxisNo} {k : FaultKind} {c : Cause} {e : Option EntryNo}
    (gang : s.partner a = some b) (ne : b ≠ a) (z : Pinch) :
    ((s.raiseFault a k c e (some z)).ax b).fault = (s.ax b).fault := by
  have back : Reowned ((struck s a k c e (some z)).ax b) ((s.raiseFault a k c e (some z)).ax b) :=
    raiseFault_reowns (partner_mem_members gang) (.inr (.inr (by simp [stopsPartner])))
  rw [back.fault, struck, faultMotion_due, beginBackoff_fault, ax_recorded_other ne]

/-- The requests of a QUEUED axis leave the queue at its fault. -/
theorem queue_raiseFault {s : State} {a : AxisNo} {k : FaultKind} {c : Cause} {e : Option EntryNo} {q : GrantRequest}
    (h : (s.ax a).motion = .queued) (mem : q ∈ (s.raiseFault a k c e none).queue) : q.axis ≠ a ∧ q.partner ≠ some a := by
  have stays := raiseFault_onward.queue.subset mem
  rw [struck, faultMotion_queued (motion_recorded h)] at stays
  exact (mem_leaveQueue.mp stays).2

/-! #### The gang partner of a faulted axis (R76, R78) -/

theorem stopsPartner_iff {k : FaultKind} {m : Motion} : stopsPartner k false m = true ↔
    k ≠ .skew ∧ k ≠ .noChannel ∧ m ≠ .backoff := by
  simp [stopsPartner, and_assoc]

section Partner

variable {s : State} {a b : AxisNo} {k : FaultKind} {c : Cause} {e : Option EntryNo}

/-- A first fault stops the partner, whose owner may have been told before. -/
theorem raiseFault_partner (gang : s.partner a = some b) (ne : b ≠ a) (first : (s.ax a).fault = none)
    (still : (s.ax a).motion ≠ .backoff) (skew : k ≠ .skew) (channel : k ≠ .noChannel) :
    ∃ t : State, Reowned (s.ax b) (t.ax b) ∧ s.raiseFault a k c e none = t.partnerStop b := by
  refine ⟨_, ?_, raiseFault_stops first (stopsPartner_iff.mpr ⟨skew, channel, still⟩) gang⟩
  have told := tellOwnerFault_reowns (s := struck s a k c e none) (a := a) (b := b)
    (by rw [struck_members]; exact partner_mem_members gang) k
  rwa [ax_struck_other ne still] at told

/-- A fault in a joint backoff reaches the partner by the end of the backoff alone (R78). -/
theorem raiseFault_joint (gang : s.partner a = some b) (motion : (s.ax a).motion = .backoff) :
    Reowned ((struck s a k c e none).ax b) ((s.raiseFault a k c e none).ax b) :=
  raiseFault_reowns (partner_mem_members gang) (.inr (.inr (fun h => (stopsPartner_iff.mp h).2.2 motion)))

theorem ax_struck_cut {j : Backoff} (gang : s.partner a = some b) (ne : b ≠ a) (motion : (s.ax a).motion = .backoff)
    (backoff : (s.ax a).backoff = some j) (ends : endsBackoff k j.step = true) :
    (struck s a k c e none).ax b = cutAxis .quick (s.ax b) := by
  rw [struck, faultMotion_cuts (motion_recorded motion) (backoff_recorded backoff) ends,
    ax_cutBackoff (by rw [recorded_members]; exact partner_mem_members gang), if_neg ne, ax_recorded_other ne]

theorem ax_struck_goesOn (ne : b ≠ a) (motion : (s.ax a).motion = .backoff)
    (goes : ∀ j, (s.ax a).backoff = some j → ¬ endsBackoff k j.step = true) : (struck s a k c e none).ax b = s.ax b := by
  rw [struck, faultMotion_goesOn (motion_recorded motion) (by rw [ax_recorded]; exact goes), ax_recorded_other ne]

/-- NO_CHANNEL of one axis of a gang leaves the other as it is (R76). -/
theorem raiseFault_noChannel_spares (gang : s.partner a = some b) (ne : b ≠ a) :
    Reowned (s.ax b) ((s.raiseFault a .noChannel c e none).ax b) := by
  have same : (struck s a .noChannel c e none).ax b = s.ax b := by
    by_cases motion : (s.ax a).motion = .backoff
    · exact ax_struck_goesOn ne motion (fun j _ ends => Bool.false_ne_true ends)
    · exact ax_struck_other ne motion
  have reowned := raiseFault_reowns (s := s) (k := .noChannel) (c := c) (e := e) (z := none) (partner_mem_members gang)
    (.inr (.inr (fun stops => (stopsPartner_iff.mp stops).2.1 rfl)))
  rwa [same] at reowned

end Partner

/-! #### The owner told at a fault (R64, R162) -/

section Owners

variable {s : State} {a b : AxisNo} {k : FaultKind} {c : Cause} {e : Option EntryNo} {z : Option Pinch}

/-- Who owns an axis a fault does not change, but for the end it decides of a link operation. -/
theorem owner_raiseFault (h : (s.ax a).fault ≠ none ∨ ∀ op, (s.ax a).owner ≠ .link op) (b : AxisNo) :
    ((s.raiseFault a k c e z).ax b).owner = (s.ax b).owner := by
  by_cases first : (s.ax a).fault = none
  · rw [(raiseFault_motionOnly first).owner]
    rcases tellOwnerFault_cases (struck s a k c e z) a k with same | ⟨op, owner⟩ | ⟨r, run, paused⟩
    · rw [same, struck_owner]
    · exact absurd ((struck_owner a).symm.trans owner) (h.resolve_left (not_not.mpr first) op)
    · rw [paused, pauseFor_owner]
      exact struck_owner b
  · rw [raiseFault_further first, struck_owner]

theorem owner_raiseFault_link {op : LinkOp} (first : (s.ax a).fault = none) (owner : (s.ax a).owner = .link op)
    (mem : b ∈ s.members a) :
    ((s.raiseFault a k c e z).ax b).owner = (withOp (fun op => faultResult op k) (s.ax b)).owner := by
  rw [(raiseFault_motionOnly first).owner, ax_tellOwnerFault_link ((struck_owner a).trans owner)
    (by rw [struck_members]; exact mem)]
  simp only [withOp, struck_owner]

theorem runners_raiseFault_further (further : (s.ax a).fault ≠ none) : (s.raiseFault a k c e z).runners = s.runners := by
  rw [raiseFault_further further, struck_runners]

section Told

variable {r : RunnerNo} {run : Run} (owner : (s.ax a).owner = .runner r) (is : s.run r = some run)
include owner is

/-- The run told of a fault as the plans and gangs before the fault say. -/
theorem struck_tells (going : run.state ≠ .halting) : (struck s a k c e z).tellOwnerFault a k =
    ((struck s a k c e z).setRun r (some (toldRun s run a k))).pauseFor r .fault := by
  rw [tellOwnerFault_runner ((struck_owner a).trans owner) ((struck_run r).trans is) going,
    toldRun_congr (fun b => (struck_controls.axes b).config) struck_controls.places struck_controls.slots]

variable (first : (s.ax a).fault = none)
include first

theorem run_raiseFault_halting (halting : run.state = .halting) (q : RunnerNo) :
    (s.raiseFault a k c e z).run q = s.run q := by
  rw [run_congr (raiseFault_motionOnly first).runners,
    tellOwnerFault_halting ((struck_owner a).trans owner) ((struck_run r).trans is) halting, struck_run]

theorem run_raiseFault (going : run.state ≠ .halting) : (s.raiseFault a k c e z).run r = some { toldRun s run a k with
    state := if run.state = .running then .pausing else run.state, reasons := { run.reasons with fault := true } } := by
  rw [run_congr (raiseFault_motionOnly first).runners, struck_tells owner is going,
    run_pauseFor (run := toldRun s run a k) (run_setRun_self _ _ _) going]
  rfl

theorem run_raiseFault_other (going : run.state ≠ .halting) {q : RunnerNo} (ne : q ≠ r) :
    (s.raiseFault a k c e z).run q = s.run q := by
  rw [run_congr (raiseFault_motionOnly first).runners, struck_tells owner is going, run_pauseFor_other ne,
    run_setRun_ne _ _ ne, struck_run]

end Told

end Owners

/-! #### The skew check (R74, R82) -/

section Skew

variable {s : State} {a b : AxisNo}

theorem checkSkew_alone (alone : s.partner a = none) : s.checkSkew a = s := by
  simp only [State.checkSkew, alone]

theorem checkSkew_unplaced (gang : s.partner a = some b) (h : (s.ax a).pos = none ∨ (s.ax b).pos = none) :
    s.checkSkew a = s := by
  have none : s.skew a b = none := by
    unfold State.skew
    split
    · next p q at_p at_q =>
      rcases h with h | h
      · exact absurd (at_p.symm.trans h) (Option.some_ne_none p)
      · exact absurd (at_q.symm.trans h) (Option.some_ne_none q)
    · rfl
  simp only [State.checkSkew, gang, none]

theorem checkSkew_placed {p q : Nat} {c d : AxisConfig} (gang : s.partner a = some b) (at_p : (s.ax a).pos = some p)
    (at_q : (s.ax b).pos = some q) (configA : (s.ax a).config = some c) (configB : (s.ax b).config = some d) :
    s.checkSkew a = if apart p q ≤ min c.skewLimit d.skewLimit then s
      else if (s.ax a).inGangMotion = true ∨ (s.ax b).inGangMotion = true then
        (if (s.ax a).skewRaised = true then s
        else (((s.members a).foldl (fun t x => t.raiseFault x .skew (.skew (apart p q)) none none)
          (s.modAll (s.members a) (fun x => { x with skewRaised := true }))).passSince s))
      else if (s.ax a).motion.still = true ∧ (s.ax b).motion.still = true ∧ s.power.state ≠ .sleep then
        (s.members a).foldl (fun t x => t.suspect x .skew) s
      else s := by
  have limit : s.skewLimit a b = min c.skewLimit d.skewLimit := by
    simp only [State.skewLimit, configA, configB]
    rfl
  have skew : s.skew a b = some (apart p q) := by simp only [State.skew, at_p, at_q]
  simp only [State.checkSkew, gang, skew, limit, Bool.or_eq_true, Bool.and_eq_true, decide_eq_true_eq, and_assoc]
  rfl

end Skew

end Sys2Proof.Laws

namespace Sys2Proof.Proofs

open Sys2Proof.Machine Sys2Proof.Laws Sys2Proof.Safety

/-- Settles O54: the record, the faulted axis and its gang partner by their motion, the skew check, and what the owner is told. -/
theorem faultsAreRecordedAndStopTheAxis : Obligations.FaultsAreRecordedAndStopTheAxis := by
  unfold Obligations.FaultsAreRecordedAndStopTheAxis
  refine ⟨fun s a k c e z => ?record, fun s a k c e two => ?own, fun s a k c e z two => ?backoff,
    fun s a b k c e gang ne first still skew channel => ?partner, fun s a mode b => ?cut,
    fun s a b k c e j gang ne motion backoff motionB => ?joint, fun s a => ?skew, fun s a k c e z => ?told, fun s a k => ?tells⟩
  case record =>
    intro ends cuts
    have cuts_iff (first : FaultKind) : cuts first ↔ CutsBackoff (s.ax a) k z ∧ first = .obstruction := by
      simp only [cuts, ends, CutsBackoff, endsBackoff_iff]
      exact ⟨fun ⟨due, motion, kind, cut⟩ => ⟨⟨due, motion, cut⟩, kind⟩,
        fun ⟨⟨due, motion, cut⟩, kind⟩ => ⟨due, motion, kind, cut⟩⟩
    refine ⟨fun first => ?_, fun g further => ?_, raiseFault_measured, reports_raiseFault⟩
    · simp only [cuts_iff]
      exact fault_raiseFault_record (faultRecord_first first k c e)
    · simp only [cuts_iff]
      exact fault_raiseFault_record (faultRecord_further further k c e)
  case own =>
    intro x t y becomes atRest mode ends
    have mode_eq : mode = k.stopMode := by cases k <;> rfl
    rw [mode_eq]
    refine ⟨raiseFault_driving two, raiseFault_checking two, raiseFault_engaging two,
      fun st h stop => raiseFault_stopping two h stop, fun b h backoff cut => ?_, fun b h backoff goes => ?_,
      raiseFault_waits two, fun h => ⟨raiseFault_queued two h, fun q mem => queue_raiseFault h mem⟩, raiseFault_faulted two⟩
    · have cut := (endsBackoff_iff k b.step).mpr cut
      refine ⟨raiseFault_cuts two h backoff cut, fun f is kind => ?_⟩
      obtain ⟨g, stored, same, -, -, -, -, short, -⟩ :=
        fault_raiseFault_record (s := s) (a := a) (k := k) (c := c) (e := e) (z := none) rfl
      obtain rfl : g = f := Option.some.inj (stored.symm.trans is)
      exact short ⟨⟨rfl, h, b, backoff, cut⟩, same.symm.trans kind⟩
    · refine raiseFault_goesOn two h (fun j stored => ?_)
      obtain rfl : b = j := Option.some.inj (backoff.symm.trans stored)
      exact mt (endsBackoff_iff k b.step).mp goes
  case backoff =>
    intro t backsOff
    refine ⟨raiseFault_backsOff two (self_mem_members s a) z, fun b gang ne => ⟨?_, raiseFault_backsOff_fault gang ne z⟩⟩
    exact raiseFault_backsOff two (partner_mem_members gang) z
  case partner =>
    intro x y becomes atRest
    obtain ⟨t, own, raised⟩ := raiseFault_partner (c := c) (e := e) gang ne first still skew channel
    have reached : y = (t.partnerStop b).ax b := congrArg (State.ax · b) raised
    have motion : (t.ax b).motion = x.motion := by rw [own]
    have stop : (t.ax b).stop = x.stop := by rw [own]
    have tested : (t.ax b).lastCheck = x.lastCheck := by rw [own]
    simp only [becomes, reached]
    have underway (h : x.motion = .stopping ∨ x.motion = .engaging) : (t.partnerStop b).ax b = (t.ax b).partnerStopped := by
      rw [partnerStop_bound (by rw [motion]; exact h), ax_setAx_self]
    refine ⟨(partnerStop_fault t b b).trans own.fault, fun h => ?_, fun st h known => ⟨fun bound => ?_, fun bound => ?_⟩,
      fun h bare => ?_, fun h => ?_, fun h => ?_, fun h => ?_, fun h => ?_⟩
    · rw [partnerStop_driving (motion.trans h), ax_setAx_self]
      exact ⟨rfl, rfl, rfl, rfl⟩
    · rw [underway h, partnerStopped_faulted (stop.trans known) bound]
      exact own
    · rw [underway h, partnerStopped_bound (stop.trans known) bound]
      exact ⟨motion, rfl, rfl, rfl⟩
    · rw [underway (.inr h), partnerStopped_bare (stop.trans bare), own]
    · have rests : (t.partnerStop b).ax b = (t.ax b).toIdle false := by
        rcases h with h | h
        · rw [partnerStop_queued (motion.trans h), ax_setAx_self]
        · rw [partnerStop_blocked (motion.trans h), ax_setAx_self]
      rw [rests, own]
      rfl
    · rw [partnerStop_checking (motion.trans h), ax_setAx_self]
      exact ⟨rfl, rfl, rfl, rfl, tested⟩
    · rw [partnerStop_idle (motion.trans h), ax_modAx_self, own]
      rfl
    · rw [partnerStop_spares (by rw [motion]; exact h)]
      exact own
  case cut =>
    intro x y
    refine ⟨fun j mem backoff => ?_, fun h => ?_⟩
    · exact (ax_cutBackoff mem).trans (cutAxis_some backoff _)
    · by_cases mem : b ∈ s.members a
      · exact (ax_cutBackoff mem).trans (cutAxis_none (h.resolve_left (not_not.mpr mem)) _)
      · exact ax_cutBackoff_other mem
  case joint =>
    intro x y becomes ends
    have back := raiseFault_joint (k := k) (c := c) (e := e) gang motion
    refine ⟨fun i cut stored => ?_, fun h => ?_⟩
    · rw [ax_struck_cut gang ne motion backoff ((endsBackoff_iff k j.step).mpr cut), cutAxis_some stored] at back
      exact back
    · by_cases cut : ends
      · rw [ax_struck_cut gang ne motion backoff ((endsBackoff_iff k j.step).mpr cut),
          cutAxis_none (h.resolve_left (not_not.mpr cut))] at back
        exact back
      · rw [ax_struck_goesOn ne motion (fun i stored => by
          obtain rfl : j = i := Option.some.inj (backoff.symm.trans stored)
          exact mt (endsBackoff_iff k j.step).mp cut)] at back
        exact back
  case skew =>
    refine ⟨checkSkew_alone, fun b => checkSkew_unplaced, fun b p q c d gang at_p at_q configA configB => ?_⟩
    intro limit moves rests moving still
    have check := checkSkew_placed gang at_p at_q configA configB
    simp only [inGangMotion_iff, still_iff] at check
    rw [check]
    refine ⟨fun fits => if_pos fits, fun beyond moves raised => ?_, fun beyond moves unraised => ?_,
      fun beyond stands rest => ?_, fun beyond stands unrest => ?_⟩
    · rw [if_neg (Nat.not_le.mpr beyond), if_pos moves, if_pos raised]
    · rw [if_neg (Nat.not_le.mpr beyond), if_pos moves, if_neg (by rw [unraised]; exact Bool.false_ne_true)]
    · rw [if_neg (Nat.not_le.mpr beyond), if_neg stands, if_pos rest]
    · rw [if_neg (Nat.not_le.mpr beyond), if_neg stands, if_neg unrest]
  case told =>
    intro t
    refine ⟨fun further => ⟨owner_raiseFault (.inl further), runners_raiseFault_further further⟩,
      fun op b first owner mem => ?_, fun r run first owner is => ?_⟩
    · refine (owner_raiseFault_link first owner mem).trans ?_
      cases h : (s.ax b).owner with
      | link p => simp only [withOp, h]; rfl
      | none => simp only [withOp, h]
      | runner r => simp only [withOp, h]
    · refine ⟨?_, fun q ne => ?_, owner_raiseFault (.inr (fun op linked => Owner.noConfusion (owner.symm.trans linked)))⟩
      · split
        · next halting => exact (run_raiseFault_halting owner is first halting r).trans is
        · next going => exact run_raiseFault owner is first going
      · by_cases halting : run.state = .halting
        · exact run_raiseFault_halting owner is first halting q
        · exact run_raiseFault_other owner is first halting ne
  case tells =>
    exact ⟨tellOwnerFault_none, fun r run owner is =>
      ⟨tellOwnerFault_halting owner is, tellOwnerFault_runner owner is⟩⟩

end Sys2Proof.Proofs

/-! ### ACK, trips and retirement -/

namespace Sys2Proof.Laws

open Sys2Proof.Machine Sys2Proof.Safety

/-! #### ACK (R65) -/

section Ack

variable {tag axis : Byte} {u : State} {a : AxisNo} {f : FaultRec}

theorem ackTaken_sound (awake : u.resetting = false) (named : finOf 12 axis = some a) (sound : (u.ax a).fault = none) :
    ackTaken tag axis u = u.reply 0x12 tag .ok [] := by
  simp only [ackTaken, awake, named, sound, Bool.false_eq_true, if_false]

theorem ackTaken_busy (awake : u.resetting = false) (named : finOf 12 axis = some a) (faulted : (u.ax a).fault = some f)
    (underway : (u.ax a).motion ≠ .fault) : ackTaken tag axis u = u.reply 0x12 tag .busy [] := by
  simp only [ackTaken, awake, named, faulted, underway, Bool.false_eq_true, if_false, State.refuse]

theorem ackTaken_clears (awake : u.resetting = false) (named : finOf 12 axis = some a) (faulted : (u.ax a).fault = some f)
    (rests : (u.ax a).motion = .fault) : ackTaken tag axis u =
      (u.setAx a { u.ax a with fault := none, motion := .idle }).reply 0x12 tag .ok [BitVec.ofNat 8 f.kind.code] := by
  simp only [ackTaken, awake, named, faulted, rests, Bool.false_eq_true, if_false, if_true]
  rfl

end Ack

/-! #### SHORT_TRIP and COOLDOWN_END (R94 to R96) -/

theorem inTest_iff (x : Axis) : x.inTest = true ↔
    x.motion = .checking ∨ (x.motion = .stopping ∧ x.stop.map Stop.dest = some .checkDone) := by
  unfold Axis.inTest
  cases x.motion <;> simp

theorem shortResult_test {x : Axis} (h : x.inTest = true) : x.shortResult = { x with lastCheck := some .short } := if_pos h

theorem shortResult_other {x : Axis} (h : ¬ x.inTest = true) : x.shortResult = x := if_neg h

theorem exec_shortTrip {s : State} (running : s.power.inReset = false) (c : ChanNo) :
    exec (.shortTrip c) s = .next (shortTripEffect c s).settle := event_runs running _

theorem exec_cooldownEnd {s : State} (running : s.power.inReset = false) (c : ChanNo) :
    exec (.cooldownEnd c) s = .next (cooldownEffect c s).settle := event_runs running _

section Trip

variable {s : State} {c : ChanNo} {a : AxisNo}

theorem shortTripEffect_granted (granted : (s.ch c).state = .granted) (connected : (s.ch c).axis = some a) :
    shortTripEffect c s = (((s.setCh c (s.ch c).trip).setAx a (s.ax a).shortResult).raiseFault a .short (.channel c)
      none none).passSince s := by
  simp only [shortTripEffect, granted, connected]
  rfl

theorem shortTripEffect_undue (h : (s.ch c).state ≠ .granted ∨ (s.ch c).axis = none) : shortTripEffect c s = s := by
  unfold shortTripEffect
  split
  · next granted connected =>
    rcases h with other | bare
    · exact absurd granted other
    · exact absurd (connected.symm.trans bare) (Option.some_ne_none _)
  · rfl

theorem cooldownEffect_due (tripped : (s.ch c).state = .tripped) (opened : (s.ch c).axis = none) : cooldownEffect c s =
    if 3 ≤ (s.ch c).trips then ((s.setCh c (s.ch c).cooled).strand c).passSince (s.setCh c (s.ch c).cooled)
    else (s.setCh c (s.ch c).cooled).grantPass := if_pos ⟨tripped, opened⟩

theorem cooldownEffect_undue (h : (s.ch c).state ≠ .tripped ∨ (s.ch c).axis ≠ none) : cooldownEffect c s = s :=
  if_neg (by rintro ⟨tripped, opened⟩; exact h.elim (· tripped) (· opened))

end Trip

theorem cooled_free {x : Channel} (h : x.trips < 3) : x.cooled = { x with state := .free, cooldown := none } := by
  rw [Channel.cooled, if_neg (by omega)]

theorem cooled_retired {x : Channel} (h : 3 ≤ x.trips) : x.cooled = { x with state := .retired, cooldown := none } := by
  rw [Channel.cooled, if_pos h]

end Sys2Proof.Laws

namespace Sys2Proof.Proofs

open Sys2Proof.Machine Sys2Proof.Laws Sys2Proof.Safety

/-- Settles O21: each answer is one branch of the request. -/
theorem ackClearsTheFault : Obligations.AckClearsTheFault := by
  intro tag axis s a h named u
  have awake := resetting_listens h
  exact ⟨fun sound => exec_answers h rfl (ackTaken_sound awake named sound),
    fun f faulted underway => exec_answers h rfl (ackTaken_busy awake named faulted underway),
    fun f faulted rests => exec_answers h rfl (ackTaken_clears awake named faulted rests)⟩

/-- Settles O59: a trip by the test it may end, a cooldown by the trips counted, and NO_CHANNEL of a stranded gang. -/
theorem tripsAndRetirement : Obligations.TripsAndRetirement := by
  refine ⟨fun s c running => ?_, fun s a b c => ⟨rfl, rfl, fun gang ne _ => raiseFault_noChannel_spares gang ne⟩⟩
  intro x tripped
  have trips (a : AxisNo) (granted : x.state = .granted) (connected : x.axis = some a) : exec (.shortTrip c) s =
      .next (State.settle (((tripped.setAx a (s.ax a).shortResult).raiseFault a .short (.channel c) none none).passSince s)) := by
    rw [exec_shortTrip running, shortTripEffect_granted granted connected]
    rfl
  refine ⟨fun a granted connected still going => ?_, fun a granted connected checking => ?_,
    fun a st granted connected stopping stop done => ?_, fun undue => ?_, fun cooling opened few => ?_,
    fun cooling opened many => ?_, fun undue => ?_⟩
  · have other : ¬ (s.ax a).inTest = true := by
      rw [inTest_iff, Option.map_eq_some_iff]
      rintro (checking | ⟨-, st, stop, done⟩)
      · exact still checking
      · exact going st stop done
    have same : tripped.setAx a (s.ax a) = tripped := setAx_self tripped a
    rw [trips a granted connected, shortResult_other other, same]
  · rw [trips a granted connected, shortResult_test ((inTest_iff _).mpr (.inl checking))]
  · have ends : (s.ax a).stop.map Stop.dest = some .checkDone := by rw [stop, Option.map_some, done]
    rw [trips a granted connected, shortResult_test ((inTest_iff _).mpr (.inr ⟨stopping, ends⟩))]
  · rw [exec_shortTrip running, shortTripEffect_undue undue]
  · rw [exec_cooldownEnd running, cooldownEffect_due cooling opened, if_neg (Nat.not_le.mpr few), cooled_free few]
  · intro r
    rw [exec_cooldownEnd running, cooldownEffect_due cooling opened, if_pos many, cooled_retired many]
    rfl
  · rw [exec_cooldownEnd running, cooldownEffect_undue undue]

end Sys2Proof.Proofs

/-! ### Keep-out: deeper movement, the question, and the blocks of a position change -/

namespace Sys2Proof.Laws

open Sys2Proof.Machine Sys2Proof.Safety

/-! #### Deeper or leaving (R122) -/

section Deeper

variable {travel lo hi p : Nat} {d : Dir}

theorem isDeeper_below (below : p < lo) : isDeeper travel lo hi (some p) d = true ↔ d = .high := by
  simp only [isDeeper, if_pos below, decide_eq_true_eq]

theorem isDeeper_above (order : lo ≤ hi) (above : hi < p) : isDeeper travel lo hi (some p) d = true ↔ d = .low := by
  simp only [isDeeper, if_neg (Nat.not_lt.mpr (order.trans above.le)), if_pos above, decide_eq_true_eq]

variable (low : lo ≤ p) (high : p ≤ hi)
include low high

/-- Inside the region its exit edges decide, those that are no bound of the travel. -/
theorem isDeeper_inside : isDeeper travel lo hi (some p) d =
    if lo = 0 then (if hi = travel then true else decide (d = .low))
    else if hi = travel then decide (d = .high)
    else if p - lo < hi - p then decide (d = .high)
    else if hi - p < p - lo then decide (d = .low)
    else false := by
  simp only [isDeeper, if_neg (Nat.not_lt.mpr low), if_neg (Nat.not_lt.mpr high)]
  by_cases bottom : lo = 0 <;> by_cases top : hi = travel <;> simp [bottom, top]

theorem isDeeper_trapped (bottom : lo = 0) (top : hi = travel) : isDeeper travel lo hi (some p) d = true := by
  rw [isDeeper_inside low high, if_pos bottom, if_pos top]

theorem isDeeper_exitHigh (bottom : lo = 0) (top : hi ≠ travel) : isDeeper travel lo hi (some p) d = true ↔ d = .low := by
  rw [isDeeper_inside low high, if_pos bottom, if_neg top, decide_eq_true_eq]

theorem isDeeper_exitLow (bottom : lo ≠ 0) (top : hi = travel) : isDeeper travel lo hi (some p) d = true ↔ d = .high := by
  rw [isDeeper_inside low high, if_neg bottom, if_pos top, decide_eq_true_eq]

variable (bottom : lo ≠ 0) (top : hi ≠ travel)
include bottom top

theorem isDeeper_nearLow (near : p - lo < hi - p) : isDeeper travel lo hi (some p) d = true ↔ d = .high := by
  rw [isDeeper_inside low high, if_neg bottom, if_neg top, if_pos near, decide_eq_true_eq]

theorem isDeeper_nearHigh (near : hi - p < p - lo) : isDeeper travel lo hi (some p) d = true ↔ d = .low := by
  rw [isDeeper_inside low high, if_neg bottom, if_neg top, if_neg (Nat.lt_asymm near), if_pos near, decide_eq_true_eq]

theorem isDeeper_middle (middle : p - lo = hi - p) : isDeeper travel lo hi (some p) d = false := by
  rw [isDeeper_inside low high, if_neg bottom, if_neg top, if_neg middle.not_lt, if_neg middle.not_gt]

end Deeper

/-! #### Conflict and deeper movement of an entry (R121, R122) -/

section Conflict

variable {s t : State} {e : KeepoutEntry} {a : AxisNo}

/-- The axis occupies its guarded region of the entry, or has no position (R121). -/
def InGuard (s : State) (e : KeepoutEntry) (x : AxisNo) : Prop :=
  (s.ax x).pos = none ∨ ∃ p, (s.ax x).pos = some p ∧ loOf e x ≤ p + e.guard ∧ p ≤ hiOf e x + e.guard

theorem conflict_iff : s.conflict e = true ↔ e.enabled = true ∧ InGuard s e e.axisA ∧ InGuard s e e.axisB := by
  simp only [State.conflict, State.occupied, Bool.and_eq_true, occupies_iff, region_eq, and_assoc, InGuard]

theorem deeperIn_iff {dirs : List Dir} : s.deeperIn e a dirs = true ↔
    ∃ d ∈ dirs, isDeeper (s.travel a) (loOf e a) (hiOf e a) (s.ax a).pos d = true := by
  simp only [State.deeperIn, region_eq, List.any_eq_true]

theorem travel_unconfigured (h : (s.ax a).config = none) : s.travel a = 0 := by
  simp only [State.travel, h, Option.map_none, Option.getD_none]

theorem travel_config {c : AxisConfig} (h : (s.ax a).config = some c) : s.travel a = c.travel := by
  simp only [State.travel, h, Option.map_some, Option.getD_some]

theorem conflict_congr (kept : PlacesKept s t) : t.conflict e = s.conflict e := by
  simp only [State.conflict, State.occupied, (kept _).pos]

theorem deeperIn_congr (kept : PlacesKept s t) (dirs : List Dir) : t.deeperIn e a dirs = s.deeperIn e a dirs := by
  simp only [State.deeperIn, State.travel, (kept a).config, (kept a).pos]

theorem names_iff : e.names a = true ↔ e.axisA = a ∨ e.axisB = a := by
  simp only [KeepoutEntry.names, Bool.or_eq_true, decide_eq_true_eq]

theorem other_axisA (e : KeepoutEntry) : e.other e.axisA = e.axisB := if_pos rfl

theorem other_axisB (e : KeepoutEntry) : e.other e.axisB = e.axisA := by
  unfold KeepoutEntry.other
  split
  · next same => exact same.symm
  · rfl

end Conflict

/-! #### The lowest-numbered entry that passes a test (R123, R124) -/

section FirstHit

variable {s : State} {p : KeepoutEntry → Bool} {x b : AxisNo} {n : EntryNo}

/-- The entry passes the test, with the other axis it names. -/
def Hit (s : State) (p : KeepoutEntry → Bool) (x : AxisNo) (n : EntryNo) (b : AxisNo) : Prop :=
  ∃ e, s.entries[n] = some e ∧ p e = true ∧ b = e.other x

/-- One entry put to the test. -/
def hitOf (s : State) (p : KeepoutEntry → Bool) (x : AxisNo) (n : EntryNo) : Option (EntryNo × AxisNo) :=
  match s.entries[n] with
  | none => none
  | some e => if p e then some (n, e.other x) else none

theorem hitOf_eq_some {hit : EntryNo × AxisNo} : hitOf s p x n = some hit ↔ hit.1 = n ∧ Hit s p x n hit.2 := by
  obtain ⟨m, b⟩ := hit
  unfold hitOf Hit
  cases s.entries[n] with
  | none => simp
  | some e =>
    simp only [Option.ite_none_right_eq_some, Option.some.injEq, Prod.mk.injEq, exists_eq_left']
    tauto

theorem hitOf_eq_none : hitOf s p x n = none ↔ ∀ b, ¬ Hit s p x n b := by
  rw [Option.eq_none_iff_forall_not_mem]
  exact ⟨fun none b hit => none (n, b) (hitOf_eq_some.mpr ⟨rfl, hit⟩), fun none _ hit => none _ (hitOf_eq_some.mp hit).2⟩

theorem firstHit_eq_some : allEntries.findSome? (hitOf s p x) = some (n, b) ↔
    Hit s p x n b ∧ ∀ m, m < n → ∀ c, ¬ Hit s p x m c := by
  rw [findSome_eq_some_iff_least (by decide) mem_allEntries]
  simp only [hitOf_eq_some, hitOf_eq_none]
  constructor
  · rintro ⟨_, ⟨rfl, here⟩, below⟩
    exact ⟨here, below⟩
  · exact fun ⟨here, below⟩ => ⟨n, ⟨rfl, here⟩, below⟩

theorem firstHit_eq_none : allEntries.findSome? (hitOf s p x) = none ↔ ∀ m c, ¬ Hit s p x m c := by
  simp only [List.findSome?_eq_none_iff, hitOf_eq_none, mem_allEntries, forall_true_left]

end FirstHit

/-! #### The question (R123) -/

/-- The question of R123 put to one entry. -/
def entryAsks (s : State) (a : AxisNo) (dirs : List Dir) (e : KeepoutEntry) : Bool :=
  e.names a && s.conflict e && s.deeperIn e a dirs

theorem ask_eq_firstHit (s : State) (a : AxisNo) (dirs : List Dir) :
    s.ask a dirs = allEntries.findSome? (hitOf s (entryAsks s a dirs) a) := rfl

theorem hit_entryAsks_iff {s : State} {a b : AxisNo} {dirs : List Dir} {n : EntryNo} : Hit s (entryAsks s a dirs) a n b ↔
    ∃ e, s.entries[n] = some e ∧ e.enabled = true ∧
      (e.axisA = a ∧ b = e.axisB ∨ e.axisA ≠ a ∧ e.axisB = a ∧ b = e.axisA) ∧ InGuard s e e.axisA ∧ InGuard s e e.axisB ∧
      ∃ d ∈ dirs, isDeeper (s.travel a) (loOf e a) (hiOf e a) (s.ax a).pos d = true := by
  refine exists_congr fun e => and_congr_right fun _ => ?_
  rw [← names_other_iff, ← deeperIn_iff, entryAsks, Bool.and_eq_true, Bool.and_eq_true, conflict_iff]
  tauto

/-! #### The directions judged (R122) -/

section Directions

variable {s : State} {a : AxisNo}

theorem nowDirs_driving (h : (s.ax a).motion = .driving) : s.nowDirs a = [(s.ax a).driveDir] := by
  simp only [State.nowDirs, h]

theorem nowDirs_backoff {k : Backoff} (h : (s.ax a).motion = .backoff) (backoff : (s.ax a).backoff = some k) :
    s.nowDirs a = if k.step = .reverse then [k.dir] else [] := by
  simp only [State.nowDirs, h, backoff]

theorem nowDirs_checking {k : CheckRec} (h : (s.ax a).motion = .checking) (check : (s.ax a).check = some k) :
    s.nowDirs a = k.pulse.toList := by
  simp only [State.nowDirs, h, check, Option.bind_some]

theorem nowDirs_waiting (driving : (s.ax a).motion ≠ .driving) (backoff : (s.ax a).motion ≠ .backoff)
    (checking : (s.ax a).motion ≠ .checking) : s.nowDirs a = s.wantDirs a := by
  cases h : (s.ax a).motion with
  | driving => exact absurd h driving
  | backoff => exact absurd h backoff
  | checking => exact absurd h checking
  | idle | queued | engaging | stopping | blocked | fault => simp only [State.nowDirs, h]

theorem wantDirs_test (h : (s.ax a).check ≠ none) : s.wantDirs a = [.low, .high] :=
  if_pos (Option.isSome_iff_ne_none.mpr h)

theorem wantDirs_idle (check : (s.ax a).check = none) (move : (s.ax a).move = none) : s.wantDirs a = [] := by
  simp [State.wantDirs, Axis.testing, check, move]

theorem wantDirs_move {m : MoveRec} (check : (s.ax a).check = none) (move : (s.ax a).move = some m) :
    s.wantDirs a = (s.moveDir a m).toList := by
  simp [State.wantDirs, Axis.testing, check, move]

variable {m : MoveRec}

theorem moveDir_homing {c : AxisConfig} (homing : (s.ax a).homing = true) (config : (s.ax a).config = some c) :
    s.moveDir a m = some c.refEnd := by
  simp only [State.moveDir, homing, config, if_true, Option.map_some]

variable (other : (s.ax a).homing = false)
include other

/-- A direction of its own is that of the axis. -/
theorem moveDir_own {d : Dir} (own : towards (s.ax a).pos m.target m.endFlag = some d) : s.moveDir a m = some d := by
  simp only [State.moveDir, other, own, Bool.false_eq_true, if_false]

/-- An axis at the target takes the direction of its partner. -/
theorem moveDir_partner (own : towards (s.ax a).pos m.target m.endFlag = none) :
    s.moveDir a m = (s.partner a).bind (fun b => towards (s.ax b).pos m.target m.endFlag) := by
  simp only [State.moveDir, other, own, Bool.false_eq_true, if_false]
  cases s.partner a <;> rfl

end Directions

section Towards

variable {p target : Nat} {endFlag : Bool}

theorem towards_high (h : p < target) : towards (some p) target endFlag = some .high := by
  simp only [towards, if_pos h]

theorem towards_low (h : target < p) : towards (some p) target endFlag = some .low := by
  simp only [towards, if_neg (Nat.lt_asymm h), if_pos h]

theorem towards_bound (h : p = target) : towards (some p) target true = some (if target = 0 then .low else .high) := by
  simp only [towards, if_neg h.not_lt, if_neg h.not_gt, if_true]

theorem towards_there (h : p = target) : towards (some p) target false = none := by
  simp only [towards, if_neg h.not_lt, if_neg h.not_gt, Bool.false_eq_true, if_false]

end Towards

/-! #### The axes that a position change may block (R124) -/

/-- The axis is in a motion state that the table of R124 names. -/
def Blockable (x : Axis) : Prop :=
  x.motion = .driving ∨ x.motion = .queued ∨ x.motion = .checking ∨ (x.motion = .engaging ∧ x.stop = none) ∨
    (x.motion = .backoff ∧ x.backoff.map Backoff.step = some .reverse)

theorem Blockable.turning {x : Axis} (able : Blockable x) (h : x.motion = .backoff) :
    x.backoff.map Backoff.step = some .reverse := by
  simpa [Blockable, h] using able

theorem takesBlock_iff {s : State} {a : AxisNo} : s.takesBlock a = true ↔ Blockable (s.ax a) := by
  cases h : (s.ax a).motion with
  | backoff => cases k : (s.ax a).backoff <;> simp [State.takesBlock, Blockable, h, k]
  | driving | queued | checking | engaging | idle | stopping | blocked | fault => simp [State.takesBlock, Blockable, h]

section BlockGang

variable {s : State} {a b : AxisNo} {n : EntryNo}

theorem blockGang_backoff (h : (s.ax a).motion = .backoff) : s.blockGang a n b = s.cutBackoff a .quick := by
  simp only [State.blockGang, h]

theorem blockGang_queued (h : (s.ax a).motion = .queued) :
    s.blockGang a n b = (s.stopAll (s.members a) (.block n b)).blockEntry (s.members a) := by
  simp only [State.blockGang, h]

theorem blockGang_stops (queued : (s.ax a).motion ≠ .queued) (backoff : (s.ax a).motion ≠ .backoff) :
    s.blockGang a n b = s.stopAll (s.members a) (.block n b) := by
  cases h : (s.ax a).motion with
  | queued => exact absurd h queued
  | backoff => exact absurd h backoff
  | idle | engaging | driving | stopping | blocked | fault | checking => simp only [State.blockGang, h]

end BlockGang

/-! #### The block of a single axis (R40, R42, R59, R69) -/

/-- What a block leaves of a single axis that it may reach; `duty` is the duty at its output. -/
def blockAxis (duty : Nat) (n : EntryNo) (b : AxisNo) (x : Axis) : Axis :=
  match x.motion with
  | .driving => { x with
      motion := .stopping, phase := none, blanking := false, backoff := none,
      check := x.check.map (fun k => { k with pulse := none }),
      stop := some ⟨.blocked n b, .controlled, duty, true, 0, false, false⟩ }
  | .checking => { x with
      motion := .stopping, phase := none, blanking := false, backoff := none,
      check := x.check.map (fun k => { k with pulse := none }),
      stop := some ⟨.blocked n b, .coast, duty, false, 0, false, false⟩ }
  | .engaging => { x with stop := some ⟨.blocked n b, .coast, 0, false, 0, false, false⟩ }
  | .backoff => cutAxis .quick x
  | .idle | .queued | .stopping | .blocked | .fault => x

section BlockAxis

variable {duty : Nat} {n : EntryNo} {b : AxisNo} {x : Axis}

theorem blockAxis_driving (h : x.motion = .driving) : blockAxis duty n b x = { x with
    motion := .stopping, phase := none, blanking := false, backoff := none,
    check := x.check.map (fun k => { k with pulse := none }),
    stop := some ⟨.blocked n b, .controlled, duty, true, 0, false, false⟩ } := by
  simp only [blockAxis, h]

theorem blockAxis_checking (h : x.motion = .checking) : blockAxis duty n b x = { x with
    motion := .stopping, phase := none, blanking := false, backoff := none,
    check := x.check.map (fun k => { k with pulse := none }),
    stop := some ⟨.blocked n b, .coast, duty, false, 0, false, false⟩ } := by
  simp only [blockAxis, h]

theorem blockAxis_engaging (h : x.motion = .engaging) : blockAxis duty n b x =
    { x with stop := some ⟨.blocked n b, .coast, 0, false, 0, false, false⟩ } := by
  simp only [blockAxis, h]

theorem blockAxis_backoff (h : x.motion = .backoff) (turning : x.backoff.map Backoff.step = some .reverse) :
    blockAxis duty n b x = x.cutShort .quick ((x.backoff.map Backoff.rest).getD false) := by
  obtain ⟨k, backoff, -⟩ := Option.map_eq_some_iff.mp turning
  simp only [blockAxis, h, cutAxis, backoff, Option.map_some, Option.getD_some]

/-- An axis that a block has reached is blocked no more. -/
theorem blockAxis_spent (unqueued : x.motion ≠ .queued) (takes : Blockable x) : ¬ Blockable (blockAxis duty n b x) := by
  rcases takes with h | h | h | ⟨h, -⟩ | ⟨h, turning⟩
  · simp [blockAxis_driving h, Blockable]
  · exact absurd h unqueued
  · simp [blockAxis_checking h, Blockable]
  · simp [blockAxis_engaging h, Blockable, h]
  · simp [blockAxis_backoff h turning, Blockable, Axis.cutShort]

theorem blockAxis_samePlace (duty : Nat) (n : EntryNo) (b : AxisNo) (x : Axis) : SamePlace x (blockAxis duty n b x) := by
  cases h : x.motion with
  | driving => rw [blockAxis_driving h]; exact ⟨rfl, rfl, rfl, rfl, .inl rfl⟩
  | checking => rw [blockAxis_checking h]; exact ⟨rfl, rfl, rfl, rfl, .inl rfl⟩
  | engaging => rw [blockAxis_engaging h]; exact ⟨rfl, rfl, rfl, rfl, .inl rfl⟩
  | backoff =>
    simp only [blockAxis, h, cutAxis]
    split
    · exact SamePlace.refl x
    · exact ⟨rfl, rfl, rfl, rfl, .inl rfl⟩
  | idle | queued | stopping | blocked | fault => simp only [blockAxis, h]; exact SamePlace.refl x

theorem blockAxis_unqueued (unqueued : x.motion ≠ .queued) (takes : Blockable x) :
    (blockAxis duty n b x).motion ≠ .queued := fun queued => blockAxis_spent unqueued takes (.inr (.inl queued))

theorem blockGang_single {s : State} {a : AxisNo} (alone : s.partner a = none) (unqueued : (s.ax a).motion ≠ .queued)
    (takes : Blockable (s.ax a)) : s.blockGang a n b = s.setAx a (blockAxis (s.dutyNow a) n b (s.ax a)) := by
  have stops (backoff : (s.ax a).motion ≠ .backoff) :
      s.blockGang a n b = s.stopAxisFrom (s.dutyNow a) a (.block n b) := by
    rw [blockGang_stops unqueued backoff, members_alone alone]
    rfl
  rcases takes with h | h | h | ⟨h, bare⟩ | ⟨h, -⟩
  · rw [stops (by simp [h]), stopAxisFrom_driving h, startStopFrom_eq, blockAxis_driving h]
    rfl
  · exact absurd h unqueued
  · rw [stops (by simp [h]), stopAxisFrom_checking_block h, startStopFrom_eq, blockAxis_checking h]
    rfl
  · rw [stops (by simp [h]), stopAxisFrom_bare h bare, blockAxis_engaging h]
    rfl
  · rw [blockGang_backoff h, cutBackoff_alone alone]
    simp only [blockAxis, h]

end BlockAxis

/-! #### What a single axis does by its own record alone -/

section Single

variable {s t : State} {x : AxisNo} (same : t.ax x = s.ax x) (alone : s.partner x = none) (alone' : t.partner x = none)
include same alone alone'

theorem nowDirs_single : t.nowDirs x = s.nowDirs x := by
  simp only [State.nowDirs, State.wantDirs, State.moveDir, same, alone, alone']

theorem dutyNow_single (store : t.store = s.store) : t.dutyNow x = s.dutyNow x := by
  simp only [State.dutyNow, State.driveDuty, State.scale, leadSkew_alone alone, leadSkew_alone alone', same, store]

end Single

/-! #### The walk over the entries (R124, log 41) -/

section Walk

variable {s t : State} {a x z : AxisNo} {n : EntryNo} {e : KeepoutEntry}

/-- An entry in conflict blocks the axis: the table of motion states names it, and its movement is deeper. -/
def strikes (s : State) (e : KeepoutEntry) (x : AxisNo) : Bool := s.takesBlock x && s.deeperIn e x (s.nowDirs x)

theorem strikes_iff : strikes s e x = true ↔ Blockable (s.ax x) ∧ s.deeperIn e x (s.nowDirs x) = true := by
  rw [strikes, Bool.and_eq_true, takesBlock_iff]

/-- The block of one axis by one entry in conflict. -/
def strike (t : State) (n : EntryNo) (e : KeepoutEntry) (x : AxisNo) : State :=
  if strikes t e x then t.blockGang x n (e.other x) else t

/-- The blocks of one entry at a position change of axis `a`. -/
def entryBlocks (a : AxisNo) (t : State) (n : EntryNo) : State :=
  match t.entries[n] with
  | none => t
  | some e => if e.enabled && e.names a && t.conflict e then strike (strike t n e e.axisA) n e e.axisB else t

theorem blocks_eq_walk (s : State) (a : AxisNo) : s.blocks a = allEntries.foldl (entryBlocks a) s := by
  unfold State.blocks
  congr 1
  funext t n
  unfold entryBlocks
  cases t.entries[n] with
  | none => rfl
  | some e =>
    simp only [State.blocksOf, Bool.and_eq_true (e.enabled && e.names a), ite_and]
    rfl

/-- `t` is reached from `s`, whose axes are all single, in a walk that leaves the records, the positions and the profiles as
they are and makes no axis wait in QUEUED. -/
structure Singly (s t : State) : Prop where
  alone : ∀ b, s.partner b = none
  unqueued : ∀ b, (t.ax b).motion ≠ .queued
  entries : t.entries = s.entries
  store : t.store = s.store
  places : PlacesKept s t

theorem Singly.partner (h : Singly s t) (b : AxisNo) : t.partner b = none :=
  (partner_of_placesKept h.places b).trans (h.alone b)

/-- An axis after one entry in conflict is put to it. -/
def leftBy (s : State) (n : EntryNo) (e : KeepoutEntry) (x : AxisNo) : Axis :=
  if strikes s e x then blockAxis (s.dutyNow x) n (e.other x) (s.ax x) else s.ax x

theorem strike_single (h : Singly s t) : strike t n e z = t.setAx z (leftBy t n e z) := by
  unfold strike leftBy
  split
  · next hit => exact blockGang_single (h.partner z) (h.unqueued z) (strikes_iff.mp hit).1
  · exact (setAx_self t z).symm

/-- What an entry does to an axis that the walk has not changed it would have done at its beginning. -/
theorem leftBy_congr (h : Singly s t) (same : t.ax x = s.ax x) : leftBy t n e x = leftBy s n e x := by
  have takes : t.takesBlock x = s.takesBlock x := by simp only [State.takesBlock, same]
  rw [leftBy, leftBy, strikes, strikes, takes, nowDirs_single same (h.alone x) (h.partner x), deeperIn_congr h.places, same,
    dutyNow_single same (h.alone x) (h.partner x) h.store]

theorem leftBy_spent (spent : ¬ Blockable (s.ax x)) : leftBy s n e x = s.ax x := by
  rw [leftBy, if_neg (fun hit => spent (strikes_iff.mp hit).1)]

theorem Singly.afterStrike (h : Singly s t) : Singly s (strike t n e z) := by
  have place : SamePlace (t.ax z) (leftBy t n e z) := by
    unfold leftBy
    split
    · exact blockAxis_samePlace _ _ _ _
    · exact SamePlace.refl _
  have unqueued : (leftBy t n e z).motion ≠ .queued := by
    unfold leftBy
    split
    · next hit => exact blockAxis_unqueued (h.unqueued z) (strikes_iff.mp hit).1
    · exact h.unqueued z
  rw [strike_single h]
  refine ⟨h.alone, fun b => ?_, h.entries, h.store, h.places.trans (setAx_placesKept place)⟩
  rw [ax_setAx]
  split
  · exact unqueued
  · exact h.unqueued b

theorem ax_strike_spent (h : Singly s t) (spent : ¬ Blockable (t.ax x)) : (strike t n e z).ax x = t.ax x := by
  rw [strike_single h, ax_setAx]
  split
  · next own => rw [← own, leftBy_spent spent]
  · rfl

theorem ax_strike_own (h : Singly s t) (same : t.ax x = s.ax x) : (strike t n e x).ax x = leftBy s n e x := by
  rw [strike_single h, ax_setAx_self, leftBy_congr h same]

theorem ax_strike_other (h : Singly s t) (ne : x ≠ z) : (strike t n e z).ax x = t.ax x := by
  rw [strike_single h, ax_setAx_ne _ _ ne]

/-- An axis that can be blocked after an entry is one that the entry has not blocked. -/
theorem leftBy_blockable (unqueued : (s.ax x).motion ≠ .queued) (able : Blockable (leftBy s n e x)) :
    leftBy s n e x = s.ax x := by
  unfold leftBy at able ⊢
  split at able
  · next hit => exact absurd able (blockAxis_spent unqueued (strikes_iff.mp hit).1)
  · next miss => exact if_neg miss

/-- The two axes of an entry in conflict are put to it one after the other: each that it names is left as its own test leaves
it, once even where the entry names it twice. -/
theorem ax_strikeBoth (h : Singly s t) (same : t.ax x = s.ax x) :
    (strike (strike t n e e.axisA) n e e.axisB).ax x = if e.names x then leftBy s n e x else s.ax x := by
  have after : Singly s (strike t n e e.axisA) := h.afterStrike
  by_cases first : x = e.axisA
  · have own : (strike t n e e.axisA).ax x = leftBy s n e x := by rw [← first, ax_strike_own h same]
    rw [if_pos (names_iff.mpr (.inl first.symm))]
    by_cases spent : Blockable (leftBy s n e x)
    · have kept : leftBy s n e x = s.ax x := leftBy_blockable (same ▸ h.unqueued x) spent
      by_cases second : x = e.axisB
      · rw [← second, ax_strike_own after (own.trans kept)]
      · rw [ax_strike_other after second, own]
    · rw [ax_strike_spent after (own ▸ spent), own]
  · have kept : (strike t n e e.axisA).ax x = s.ax x := (ax_strike_other h first).trans same
    by_cases second : x = e.axisB
    · rw [if_pos (names_iff.mpr (.inr second.symm)), ← second, ax_strike_own after kept]
    · have out : ¬ e.names x = true := by
        rw [names_iff]
        exact fun named => named.elim (first ·.symm) (second ·.symm)
      rw [if_neg out, ax_strike_other after second, kept]

theorem Singly.afterEntry (h : Singly s t) : Singly s (entryBlocks a t n) := by
  unfold entryBlocks
  split
  · exact h
  · split
    · exact h.afterStrike.afterStrike
    · exact h

theorem ax_entryBlocks_spent (h : Singly s t) (spent : ¬ Blockable (t.ax x)) : (entryBlocks a t n).ax x = t.ax x := by
  unfold entryBlocks
  split
  · rfl
  · split
    · next e _ _ =>
      have first := ax_strike_spent (n := n) (e := e) (z := e.axisA) h spent
      exact (ax_strike_spent h.afterStrike (first.symm ▸ spent)).trans first
    · rfl

theorem ax_walk_spent (h : Singly s t) (spent : ¬ Blockable (t.ax x)) (l : List EntryNo) :
    (l.foldl (entryBlocks a) t).ax x = t.ax x := by
  induction l generalizing t with
  | nil => rfl
  | cons n l ih =>
    have step := ax_entryBlocks_spent (a := a) (n := n) h spent
    rw [List.foldl_cons, ih h.afterEntry (step.symm ▸ spent), step]

/-- The entry blocks axis `x` at a position change of axis `a`. -/
def blocksAxis (s : State) (a x : AxisNo) (e : KeepoutEntry) : Bool :=
  e.enabled && e.names a && s.conflict e && e.names x && s.deeperIn e x (s.nowDirs x)

/-- An axis after the entry that blocks it, where one does. -/
def blockedAs (s : State) (x : AxisNo) : Option (EntryNo × AxisNo) → Axis
  | none => s.ax x
  | some (n, b) => blockAxis (s.dutyNow x) n b (s.ax x)

theorem ax_entryBlocks (h : Singly s t) (same : t.ax x = s.ax x) (able : Blockable (s.ax x)) :
    (entryBlocks a t n).ax x = blockedAs s x (hitOf s (blocksAxis s a x) x n) := by
  unfold entryBlocks hitOf
  rw [h.entries]
  cases s.entries[n] with
  | none => exact same
  | some e =>
    dsimp only
    rw [conflict_congr h.places, blocksAxis, apply_ite (State.ax · x), ax_strikeBoth h same, same, leftBy, strikes,
      takesBlock_iff.mpr able, Bool.true_and]
    by_cases meets : (e.enabled && e.names a && s.conflict e) = true
    · by_cases named : e.names x = true
      · by_cases deeper : s.deeperIn e x (s.nowDirs x) = true <;> simp [meets, named, deeper, blockedAs]
      · simp [named, blockedAs]
    · simp [meets, blockedAs]

/-- Of the entries that would block an axis the first in the walk does, and it alone. -/
theorem ax_walk (able : Blockable (s.ax x)) (l : List EntryNo) (h : Singly s t) (same : t.ax x = s.ax x) :
    (l.foldl (entryBlocks a) t).ax x = blockedAs s x (l.findSome? (hitOf s (blocksAxis s a x) x)) := by
  induction l generalizing t with
  | nil => exact same
  | cons n l ih =>
    have step := ax_entryBlocks (a := a) (n := n) h same able
    rw [List.foldl_cons, List.findSome?_cons]
    cases here : hitOf s (blocksAxis s a x) x n with
    | none => exact ih h.afterEntry (by rw [step, here]; rfl)
    | some hit =>
      rw [here] at step
      have spent : ¬ Blockable (blockedAs s x (some hit)) := blockAxis_spent (same ▸ h.unqueued x) able
      rw [ax_walk_spent h.afterEntry (step.symm ▸ spent), step]

theorem hit_blocksAxis_iff {b : AxisNo} : Hit s (blocksAxis s a x) x n b ↔
    ∃ e, s.entries[n] = some e ∧ e.enabled = true ∧ (e.axisA = a ∨ e.axisB = a) ∧ s.conflict e = true ∧
      (e.axisA = x ∧ b = e.axisB ∨ e.axisA ≠ x ∧ e.axisB = x ∧ b = e.axisA) ∧ s.deeperIn e x (s.nowDirs x) = true := by
  refine exists_congr fun e => and_congr_right fun _ => ?_
  simp only [← names_other_iff, ← names_iff, blocksAxis, Bool.and_eq_true]
  tauto

section Blocks

variable (alone : ∀ b, s.partner b = none) (unqueued : ∀ b, (s.ax b).motion ≠ .queued)
include alone unqueued

theorem Singly.refl : Singly s s := ⟨alone, unqueued, rfl, rfl, PlacesKept.refl s⟩

theorem ax_blocks_unblocked (h : ¬ Blockable (s.ax x) ∨ ∀ n b, ¬ Hit s (blocksAxis s a x) x n b) :
    (s.blocks a).ax x = s.ax x := by
  have start := Singly.refl alone unqueued
  rw [blocks_eq_walk]
  by_cases able : Blockable (s.ax x)
  · rw [ax_walk able _ start rfl, firstHit_eq_none.mpr (h.resolve_left (not_not.mpr able)), blockedAs]
  · exact ax_walk_spent start able _

theorem ax_blocks_blocked {b : AxisNo} (able : Blockable (s.ax x)) (here : Hit s (blocksAxis s a x) x n b)
    (below : ∀ m, m < n → ∀ c, ¬ Hit s (blocksAxis s a x) x m c) :
    (s.blocks a).ax x = blockAxis (s.dutyNow x) n b (s.ax x) := by
  rw [blocks_eq_walk, ax_walk able _ (Singly.refl alone unqueued) rfl, firstHit_eq_some.mpr ⟨here, below⟩, blockedAs]

end Blocks

end Walk

end Sys2Proof.Laws

namespace Sys2Proof.Proofs

open Sys2Proof.Machine Sys2Proof.Laws Sys2Proof.Safety

/-- Settles O30: the table of R122 by the place of the position, the question as the first entry that passes it, and the blocks
of a position change by a walk over the entries in which an axis is struck once at most. -/
theorem deeperFollowsTheTable : Obligations.DeeperFollowsTheTable := by
  refine ⟨?table, ?question, ?directions, ?blocks, ?gang, ?walk, ?readings, ?wanted, fun _ _ => anyBlocked_iff⟩
  case table =>
    intro travel lo hi p d order _ _
    exact ⟨isDeeper_below, isDeeper_above order, isDeeper_nearLow, isDeeper_nearHigh, isDeeper_middle, isDeeper_exitLow,
      isDeeper_exitHigh, isDeeper_trapped, rfl⟩
  case question =>
    intro s a dirs lo hi inside holds
    have one (n : EntryNo) (b : AxisNo) : holds n b ↔ Hit s (entryAsks s a dirs) a n b := hit_entryAsks_iff.symm
    simp only [one, ask_eq_firstHit]
    exact ⟨fun n b => firstHit_eq_some, firstHit_eq_none⟩
  case directions =>
    intro s a x
    refine ⟨nowDirs_driving, fun k => nowDirs_backoff, fun k => nowDirs_checking, nowDirs_waiting, wantDirs_test,
      wantDirs_idle, fun m check move => ?_⟩
    have want : s.wantDirs a = (s.moveDir a m).toList := wantDirs_move check move
    have own (other : x.homing = false) {d : Dir} (h : towards x.pos m.target m.endFlag = some d) : s.wantDirs a = [d] := by
      rw [want, moveDir_own other h, Option.toList_some]
    refine ⟨fun c homing config => ?_, fun other unplaced => ?_, fun p other placed => ?_⟩
    · rw [want, moveDir_homing homing config, Option.toList_some]
    · exact own other (by rw [unplaced]; rfl)
    · have there (at_target : p = m.target) (plain : m.endFlag = false) : s.wantDirs a =
          ((s.partner a).bind (fun b => towards (s.ax b).pos m.target m.endFlag)).toList := by
        rw [want, moveDir_partner other]
        rw [placed, plain, towards_there at_target]
      refine ⟨fun lower => ?_, fun higher => ?_, fun at_target flag => ?_, fun at_target plain alone => ?_,
        fun b q at_target plain gang partner => ⟨fun lower => ?_, fun higher => ?_, fun both => ?_⟩⟩
      · exact own other (by rw [placed, towards_high lower])
      · exact own other (by rw [placed, towards_low higher])
      · exact own other (by rw [placed, flag, towards_bound at_target])
      · rw [there at_target plain, alone]
        rfl
      · rw [there at_target plain, gang, Option.bind_some, partner, towards_high lower, Option.toList_some]
      · rw [there at_target plain, gang, Option.bind_some, partner, towards_low higher, Option.toList_some]
      · rw [there at_target plain, gang, Option.bind_some, partner, plain, towards_there both, Option.toList_none]
  case blocks =>
    intro s a x alone unqueued y takes hits
    have able : takes ↔ Blockable y := by
      have waits := unqueued x
      simp only [takes, Blockable, Option.map_eq_some_iff]
      tauto
    have one (n : EntryNo) (b : AxisNo) : hits n b ↔ Hit s (blocksAxis s a x) x n b := hit_blocksAxis_iff.symm
    simp only [able, one]
    refine ⟨ax_blocks_unblocked alone unqueued, fun n b blockable here below => ?_⟩
    have struck := ax_blocks_blocked alone unqueued blockable here below
    refine ⟨fun h => ?_, fun h => ?_, fun h => ?_, fun h => ?_⟩
    · rw [struck, blockAxis_driving h]
    · rw [struck, blockAxis_checking h]
    · rw [struck, blockAxis_engaging h]
    · rw [struck, blockAxis_backoff h (blockable.turning h)]
      rfl
  case gang => exact fun s a n b => ⟨blockGang_stops, blockGang_backoff, blockGang_queued⟩
  case walk =>
    intro s a takes deeper taken entry
    have list : allEntries = List.finRange 24 := by decide
    have step : entry = entryBlocks a := by
      funext t n
      have one (e : KeepoutEntry) (u : State) (x b : AxisNo) (other : b = e.other x) : taken n e u x b = strike u n e x := by
        have iff : deeper u e x ↔ strikes u e x = true := strikes_iff.symm
        rw [other]
        exact if_congr iff rfl rfl
      dsimp only [entry, entryBlocks]
      cases t.entries[n] with
      | none => rfl
      | some e =>
        dsimp only
        rw [one e t e.axisA e.axisB (other_axisA e).symm, one e _ e.axisB e.axisA (other_axisB e).symm]
        refine if_congr ?_ rfl rfl
        rw [Bool.and_eq_true, Bool.and_eq_true, names_iff, and_assoc]
    rw [blocks_eq_walk, list, step]
  case readings =>
    exact fun s e a dirs => ⟨conflict_iff, deeperIn_iff, travel_unconfigured, fun c => travel_config⟩
  case wanted => exact fun s a m check move => (wantDirs_move check move).symm

end Sys2Proof.Proofs

/-! ### RETIRED channels -/

namespace Sys2Proof.Safety

open Sys2Proof.Machine Sys2Proof.Laws

/-- Every RETIRED channel of the first state is RETIRED in the second (R95). -/
def RetiredKept (s t : State) : Prop := ∀ c, (s.ch c).state = .retired → (t.ch c).state = .retired

section Relation

variable {F : Prop} {s t u : State}

theorem RetiredKept.refl (s : State) : RetiredKept s s := fun _ => id

theorem RetiredKept.trans (h : RetiredKept s t) (k : RetiredKept t u) : RetiredKept s u := fun c => k c ∘ h c

/-- Control may follow: it frees no RETIRED channel. -/
theorem RetiredKept.controls (h : RetiredKept s t) (k : Controls F t u) : RetiredKept s u := h.trans k.retired

theorem RetiredKept.of_chans (h : t.chans = s.chans) : RetiredKept s t := fun c retired => by rwa [ch_congr h]

/-- What changes no channel may follow. -/
theorem RetiredKept.same (h : RetiredKept s t) (k : u.chans = t.chans) : RetiredKept s u := h.trans (.of_chans k)

theorem RetiredKept.ite {p : Prop} [Decidable p] (h : RetiredKept s t) (k : RetiredKept s u) :
    RetiredKept s (if p then t else u) := by
  split
  · exact h
  · exact k

theorem RetiredKept.foldl {α : Type} (s : State) (l : List α) (f : State → α → State)
    (hf : ∀ t a, RetiredKept t (f t a)) : RetiredKept s (l.foldl f s) :=
  foldl_rel RetiredKept.refl RetiredKept.trans l f hf s

/-- A channel that is not RETIRED is replaced. -/
theorem RetiredKept.setCh {c : ChanNo} (h : (s.ch c).state ≠ .retired) (x : Channel) : RetiredKept s (s.setCh c x) :=
  fun d retired => by
    rw [ch_setCh]
    split
    · next same => exact absurd (same ▸ retired) h
    · exact retired

/-- Every channel is changed by what leaves a RETIRED one RETIRED. -/
theorem RetiredKept.modChans (s : State) (f : Channel → Channel) (hf : ∀ x, x.state = .retired → (f x).state = .retired) :
    RetiredKept s (s.modChans f) := fun c retired => by
  rw [ch_modChans]
  exact hf _ retired

theorem ended_keeps_retired (x : Channel) (h : x.state = .retired) : x.ended.state = .retired := if_pos (.inl h)

end Relation

/-! #### The settling (R98) -/

theorem yieldShare_chans (s : State) : s.yieldShare.chans = s.chans := by
  obtain ⟨m, l, e, -⟩ := yieldShare_kept s
  rw [e]

theorem completeReset_retiredKept (s : State) : RetiredKept s s.completeReset := by
  by_cases due : s.power.state = .resetting ∧ s.nothingMoves = true
  · obtain ⟨resetting, still⟩ := due
    intro c retired
    rw [Proofs.ch_completeReset resetting (nothingMoves_iff.mp still)]
    exact ended_keeps_retired _ retired
  · rw [State.completeReset, if_neg due]
    exact .refl s

theorem settle_retiredKept (s : State) : RetiredKept s s.settle := by
  have concluded : RetiredKept s s.engine.restRunners.concludeOps :=
    (Controls.conclude (Controls.refl (F := False) s)).retired
  exact .ite (.refl s) (((concluded.same (yieldShare_chans _)).trans (completeReset_retiredKept _)).same (clocks_chans _))

/-! #### The two forms of a meaning -/

section Forms

variable {s t : State}

theorem frameHeard_chans (s : State) : s.frameHeard.chans = s.chans := by rw [frameHeard_eq]

theorem admitFrame_chans (s : State) (f : Frame) : (s.admitFrame f).chans = s.chans := by
  unfold State.admitFrame
  split <;> rfl

theorem wakeBy_chans (s : State) (c : WakeCause) : (s.wakeBy c).chans = s.chans := by
  unfold State.wakeBy
  split <;> rfl

theorem offerFrame_retiredKept (s : State) (f : Frame) {taken : State → State} (ht : ∀ u, RetiredKept u (taken u)) :
    RetiredKept s (s.offerFrame f taken) := by
  have heard : RetiredKept s s.frameHeard := .of_chans (frameHeard_chans s)
  exact .ite (heard.trans (ht _)) (heard.same (admitFrame_chans _ f))

theorem offer_retiredKept (s : State) (f : Option Frame) {taken : State → State} (ht : ∀ u, RetiredKept u (taken u)) :
    RetiredKept s (s.offer f taken) := by
  unfold State.offer
  refine .ite (.refl s) ?_
  split
  · exact .refl s
  · exact (RetiredKept.of_chans (wakeBy_chans s .link)).trans (settle_retiredKept _)
  all_goals
    split
    · exact .refl s
    · exact (offerFrame_retiredKept s _ ht).trans (settle_retiredKept _)

theorem event_retiredKept {effect : State → State} (e : s.event effect = .next t) (h : RetiredKept s (effect s)) :
    RetiredKept s t := by
  cases e
  exact .ite (.refl s) (h.trans (settle_retiredKept _))

end Forms

/-! #### Requests -/

section Requests

variable (tag : Byte) (s : State)

theorem enterDoze_retiredKept : RetiredKept s s.enterDoze := .of_chans (modAll_chans s _ _)

theorem applySetup_retiredKept (v : Setup) : RetiredKept s (s.applySetup v) := by
  have dwell (u : State) (n : Nat) : RetiredKept u (u.newDwell n) := by
    unfold State.newDwell
    split
    · exact .refl u
    · exact .ite (enterDoze_retiredKept u) (.refl u)
  have timeout (u : State) (n : Nat) : RetiredKept u (u.newBlockTimeout n) :=
    .foldl u _ _ (fun t a => .ite ((Controls.refl (F := False) t).blockExpires a).retired (.refl t))
  unfold State.applySetup
  dsimp only
  generalize hu : ({ s with link := { s.link with setup := v, cadence := _ } } : State) = u
  have stored : RetiredKept s u := .of_chans (by rw [← hu])
  have expired := RetiredKept.ite (p := v.blockTimeout = s.link.setup.blockTimeout) stored
    (stored.trans (timeout u v.blockTimeout))
  exact .ite expired (expired.trans (dwell _ _))

theorem resetMotion_retiredKept (a : AxisNo) : RetiredKept s (s.resetMotion a) := by
  unfold State.resetMotion
  split
  all_goals exact .of_chans rfl

theorem startReset_retiredKept : RetiredKept s s.startReset := by
  have stopped := RetiredKept.foldl s allAxes State.resetMotion resetMotion_retiredKept
  have freed := stopped.same (modAll_chans _ allAxes Axis.atReset)
  unfold State.startReset
  generalize (allAxes.foldl State.resetMotion s).modAll allAxes Axis.atReset = u at freed ⊢
  exact freed.same rfl

theorem handOn_retiredKept (a : AxisNo) (old : Option Nat) : RetiredKept s (s.handOn a old) :=
  ((Controls.refl (F := True) s).handOn trivial a old).retired

theorem suspect_retiredKept (a : AxisNo) (c : RefCause) : RetiredKept s (s.suspect a c) :=
  ((Controls.refl (F := True) s).suspect trivial a c).retired

theorem modAx_retiredKept (a : AxisNo) (f : Axis → Axis) : RetiredKept s (s.modAx a f) := .of_chans rfl

theorem report_retiredKept (r : Report) : RetiredKept s (s.report r) := .of_chans (report_chans s r)

theorem reposition_retiredKept (a : AxisNo) (old : Option AxisConfig) (c : AxisConfig) :
    RetiredKept s (s.reposition a old c) := by
  have loaded := modAx_retiredKept s a (fun x => { x with lashRem := min x.lashRem c.lash })
  have lost := modAx_retiredKept s a (fun x => { x with ref := .unknown, pos := none, overrun := 0 })
  exact .ite (.ite ((loaded.trans (modAx_retiredKept _ a _)).trans (suspect_retiredKept _ a _)) loaded)
    (RetiredKept.trans (.ite lost (lost.trans (report_retiredKept _ _))) (handOn_retiredKept _ a _))

theorem setConfig_retiredKept (a : AxisNo) (c : AxisConfig) : RetiredKept s (s.setConfig a c) :=
  (modAx_retiredKept s a _).trans (reposition_retiredKept _ a _ c)

theorem recompute_retiredKept : RetiredKept s s.recompute := by
  unfold State.recompute
  dsimp only
  generalize hu : ({ s with supply := { s.supply with avail := _ } } : State) = u
  have stored : RetiredKept s u := .of_chans (by rw [← hu])
  have c := Controls.refl (F := False) u
  exact .ite (stored.controls c.grantPass) (.ite (stored.controls c.revoke) stored)

theorem clearEscalation_retiredKept (g : Fin 3) : RetiredKept s (s.clearEscalation g) :=
  .foldl s _ _ (fun t a => .ite (modAx_retiredKept t a _) (.refl t))

theorem startRun_retiredKept (r : RunnerNo) (n : SlotNo) : RetiredKept s (s.startRun r n) := by
  have claimed := ((Controls.refl (F := False) s).setRun r (some (s.newRun n))).modAll (s.newRun n).claim
    (fun x => { x with owner := .runner r }) (fun x => by exact { KeptAxis.refl x with })
  exact ((claimed.setMarks _).notIdle.judgeRun r _).retired

/-! #### A request taken -/

theorem refuse_retiredKept (k : Byte) (r : Result) : RetiredKept s (s.refuse k tag r) := .of_chans rfl

variable {s} in
theorem RetiredKept.reply {t : State} (h : RetiredKept s t) (k : Byte) (r : Result) (d : List Byte) :
    RetiredKept s (t.reply k tag r d) := h.same rfl

variable {s} in
theorem Controls.reply_retiredKept {t : State} (h : Controls False s t) (k : Byte) (r : Result) (d : List Byte) :
    RetiredKept s (t.reply k tag r d) := RetiredKept.reply tag h.retired k r d

theorem axisGetTaken_chans (axis : Byte) (form : Option Byte) : (axisGetTaken tag axis form s).chans = s.chans := by
  unfold axisGetTaken
  repeat' split
  all_goals rfl

theorem profileWriteTaken_chans (bank index : Byte) (v : ProfileArgs) :
    (profileWriteTaken tag bank index v s).chans = s.chans := by
  unfold profileWriteTaken State.setProfile
  repeat' split
  all_goals rfl

theorem profileReadTaken_chans (bank index : Byte) : (profileReadTaken tag bank index s).chans = s.chans := by
  unfold profileReadTaken
  repeat' split
  all_goals rfl

theorem profileSwapTaken_chans : (profileSwapTaken tag s).chans = s.chans := by
  unfold profileSwapTaken
  split <;> rfl

theorem keepoutSetTaken_chans (entry present : Byte) (k : KeepoutArgs) :
    (keepoutSetTaken tag entry present k s).chans = s.chans := by
  unfold keepoutSetTaken
  repeat' split
  all_goals rfl

theorem keepoutGetTaken_chans (entry : Byte) : (keepoutGetTaken tag entry s).chans = s.chans := by
  unfold keepoutGetTaken
  repeat' split
  all_goals rfl

theorem planWriteTaken_chans (start count : Byte) (es : List EntryArgs) :
    (planWriteTaken tag start count es s).chans = s.chans := by
  unfold planWriteTaken
  repeat' split
  all_goals rfl

theorem planReadTaken_chans (first : Byte) (count : Option Byte) : (planReadTaken tag first count s).chans = s.chans := by
  unfold planReadTaken
  repeat' split
  all_goals rfl

theorem planDefineTaken_chans (slot start length marks timeout : Byte) :
    (planDefineTaken tag slot start length marks timeout s).chans = s.chans := by
  unfold planDefineTaken
  repeat' split
  all_goals rfl

theorem runGetTaken_chans (runner : Byte) (first : Option Byte) : (runGetTaken tag runner first s).chans = s.chans := by
  unfold runGetTaken
  repeat' split
  all_goals rfl

theorem powerTaken_chans (mode w h q : Byte) : (powerTaken tag mode w h q s).chans = s.chans := by
  unfold powerTaken
  repeat' split
  all_goals rfl

theorem setupTaken_retiredKept (w c : Half) (b : Byte) (d : Half) : RetiredKept s (setupTaken tag w c b d s) := by
  unfold setupTaken
  refine .ite (refuse_retiredKept tag s _ _) ?_
  split
  · exact refuse_retiredKept tag s _ _
  · exact (applySetup_retiredKept s _).reply tag _ _ _

theorem resetTaken_retiredKept : RetiredKept s (resetTaken tag s) :=
  .ite (refuse_retiredKept tag s _ _) ((startReset_retiredKept s).reply tag _ _ _)

theorem axisSetTaken_retiredKept (axis : Byte) (args : AxisArgs) : RetiredKept s (axisSetTaken tag axis args s) := by
  unfold axisSetTaken
  refine .ite (refuse_retiredKept tag s _ _) ?_
  split
  · exact refuse_retiredKept tag s _ _
  · split
    · exact refuse_retiredKept tag s _ _
    · dsimp only
      split
      · exact refuse_retiredKept tag s _ _
      · exact (setConfig_retiredKept s _ _).reply tag _ _ _

theorem ackTaken_retiredKept (axis : Byte) : RetiredKept s (ackTaken tag axis s) := by
  unfold ackTaken
  refine .ite (refuse_retiredKept tag s _ _) ?_
  split
  · exact refuse_retiredKept tag s _ _
  · split
    · exact (RetiredKept.refl s).reply tag _ _ _
    · exact .ite ((modAx_retiredKept s _ _).reply tag _ _ _) (refuse_retiredKept tag s _ _)

theorem jogAgain_retiredKept (a : AxisNo) (op : LinkOp) (d : Dir) (n : Option Nat) :
    RetiredKept s (s.jogAgain tag a op d n) := by
  have c := Controls.refl (F := False) s
  exact .ite (refuse_retiredKept tag s _ _) (.ite (.ite ((c.modOp a _).reply_retiredKept tag _ _ _)
    (refuse_retiredKept tag s _ _)) ((c.reverseJog a d n).reply_retiredKept tag _ _ _))

theorem jogTaken_retiredKept (axis d m : Byte) (n : Half) : RetiredKept s (jogTaken tag axis d m n s) := by
  unfold jogTaken
  refine .ite (refuse_retiredKept tag s _ _) ?_
  split
  · split
    · exact refuse_retiredKept tag s _ _
    · split
      · exact jogAgain_retiredKept tag s _ _ _ _
      · split
        · exact refuse_retiredKept tag s _ _
        · exact ((Controls.refl s).startJog _ _ _).reply_retiredKept tag _ _ _
  · exact refuse_retiredKept tag s _ _

theorem homeTaken_retiredKept (axis : Byte) : RetiredKept s (homeTaken tag axis s) := by
  unfold homeTaken
  refine .ite (refuse_retiredKept tag s _ _) ?_
  split
  · exact refuse_retiredKept tag s _ _
  · split
    · exact refuse_retiredKept tag s _ _
    · exact ((Controls.refl s).startHome _).reply_retiredKept tag _ _ _

theorem checkTaken_retiredKept (axis : Byte) : RetiredKept s (checkTaken tag axis s) := by
  unfold checkTaken
  refine .ite (refuse_retiredKept tag s _ _) ?_
  split
  · exact refuse_retiredKept tag s _ _
  · split
    · exact refuse_retiredKept tag s _ _
    · exact ((Controls.refl s).startCheck _).reply_retiredKept tag _ _ _

theorem scaleSetTaken_retiredKept (g f : Byte) : RetiredKept s (scaleSetTaken tag g f s) := by
  unfold scaleSetTaken
  refine .ite (refuse_retiredKept tag s _ _) ?_
  split
  · next i n _ _ =>
    have stored : RetiredKept s { s with store := { s.store with scales := s.store.scales.set i n } } := .of_chans rfl
    exact (stored.trans (clearEscalation_retiredKept _ i)).reply tag _ _ _
  · exact refuse_retiredKept tag s _ _

theorem runTaken_retiredKept (slot : Byte) : RetiredKept s (runTaken tag slot s) := by
  unfold runTaken
  refine .ite (refuse_retiredKept tag s _ _) ?_
  split
  · exact refuse_retiredKept tag s _ _
  · refine .ite (refuse_retiredKept tag s _ _) ?_
    split
    · exact (RetiredKept.refl s).reply tag _ _ _
    · dsimp only
      split
      · exact refuse_retiredKept tag s _ _
      · exact refuse_retiredKept tag s _ _
      · exact (startRun_retiredKept s _ _).reply tag _ _ _

theorem pauseTaken_retiredKept (runner : Byte) : RetiredKept s (pauseTaken tag runner s) := by
  have paused (r : RunnerNo) := (((Controls.refl s).pauseFor r .host).passSince s).reply_retiredKept tag 0x31 .ok []
  unfold pauseTaken
  refine .ite (refuse_retiredKept tag s _ _) ?_
  split
  · exact refuse_retiredKept tag s _ _
  · next r _ =>
    split
    · exact paused r
    · exact paused r
    · exact paused r
    · exact refuse_retiredKept tag s _ _
    · exact refuse_retiredKept tag s _ _

theorem resumeTaken_retiredKept (runner : Byte) : RetiredKept s (resumeTaken tag runner s) := by
  unfold resumeTaken
  refine .ite (refuse_retiredKept tag s _ _) ?_
  split
  · exact refuse_retiredKept tag s _ _
  · split
    · exact refuse_retiredKept tag s _ _
    · split
      · exact (RetiredKept.refl s).reply tag _ _ _
      · exact refuse_retiredKept tag s _ _
      · exact ((Controls.refl s).setRun _ _).notIdle.reply_retiredKept tag _ _ _

theorem haltTaken_retiredKept (runner : Byte) : RetiredKept s (haltTaken tag runner s) := by
  have halted (r : RunnerNo) := ((Controls.refl s).haltRunner r .aborted).notIdle.reply_retiredKept tag 0x33 .ok []
  unfold haltTaken
  refine .ite (refuse_retiredKept tag s _ _) ?_
  split
  · exact refuse_retiredKept tag s _ _
  · next r _ =>
    split
    · exact halted r
    · exact halted r
    · exact halted r
    · exact (RetiredKept.refl s).reply tag _ _ _
    · exact refuse_retiredKept tag s _ _

theorem markTaken_retiredKept (m action : Byte) : RetiredKept s (markTaken tag m action s) := by
  have c := Controls.refl (F := False) s
  unfold markTaken
  refine .ite (refuse_retiredKept tag s _ _) ?_
  split
  · exact (Controls.ite (c.clearMark _) (c.setMark _).engine).reply_retiredKept tag _ _ _
  · exact refuse_retiredKept tag s _ _

theorem budgetSetTaken_retiredKept (b : Half) : RetiredKept s (budgetSetTaken tag b s) := by
  unfold budgetSetTaken
  refine .ite (refuse_retiredKept tag s _ _) ?_
  split
  · exact refuse_retiredKept tag s _ _
  · next n _ =>
    have stored : RetiredKept s { s with supply := { s.supply with base := n } } := .of_chans rfl
    exact (stored.trans (recompute_retiredKept _)).reply tag _ _ _

end Requests

/-- No request frees a RETIRED channel. -/
theorem takeRequest_retiredKept (i : Instr) (s : State) : RetiredKept s (takeRequest i s) := by
  cases i with
  | ident tag => exact .of_chans rfl
  | status tag => exact .of_chans rfl
  | setup tag w c b d => exact setupTaken_retiredKept tag s w c b d
  | reset tag => exact resetTaken_retiredKept tag s
  | axisSet tag a args => exact axisSetTaken_retiredKept tag s a args
  | axisGet tag a f => exact .of_chans (axisGetTaken_chans tag s a f)
  | ack tag a => exact ackTaken_retiredKept tag s a
  | jog tag a d m n => exact jogTaken_retiredKept tag s a d m n
  | home tag a => exact homeTaken_retiredKept tag s a
  | check tag a => exact checkTaken_retiredKept tag s a
  | profileWrite tag b i v => exact .of_chans (profileWriteTaken_chans tag s b i v)
  | profileRead tag b i => exact .of_chans (profileReadTaken_chans tag s b i)
  | profileSwap tag => exact .of_chans (profileSwapTaken_chans tag s)
  | scaleSet tag g f => exact scaleSetTaken_retiredKept tag s g f
  | keepoutSet tag e p k => exact .of_chans (keepoutSetTaken_chans tag s e p k)
  | keepoutGet tag e => exact .of_chans (keepoutGetTaken_chans tag s e)
  | planWrite tag st n es => exact .of_chans (planWriteTaken_chans tag s st n es)
  | planRead tag f n => exact .of_chans (planReadTaken_chans tag s f n)
  | planDefine tag sl st l m t => exact .of_chans (planDefineTaken_chans tag s sl st l m t)
  | run tag sl => exact runTaken_retiredKept tag s sl
  | pause tag r => exact pauseTaken_retiredKept tag s r
  | resume tag r => exact resumeTaken_retiredKept tag s r
  | halt tag r => exact haltTaken_retiredKept tag s r
  | mark tag m a => exact markTaken_retiredKept tag s m a
  | runGet tag r f => exact .of_chans (runGetTaken_chans tag s r f)
  | budgetSet tag b => exact budgetSetTaken_retiredKept tag s b
  | power tag m w h q => exact .of_chans (powerTaken_chans tag s m w h q)
  | unknownKind tag kind p => exact refuse_retiredKept tag s kind _
  | _ => exact .refl s

theorem takeFrame_retiredKept (f : Frame) (s : State) : RetiredKept s (takeFrame f s) := by
  unfold takeFrame
  split
  · exact takeRequest_retiredKept _ s
  · exact .of_chans rfl
  · exact .of_chans rfl

/-! #### Standstills, stalls and counts -/

section Motion

variable (s : State)

theorem checkRest_retiredKept (as : List AxisNo) : RetiredKept s (s.checkRest as) := by
  unfold State.checkRest
  dsimp only
  generalize as.map (fun a => (a, (s.ax a).check.map CheckRec.result, (s.chanOf a).getD 0)) = ended
  have idle := (((Controls.refl (F := False) s).releaseAll as).modAll as _ (KeptAxis.toIdle false)).retired
  generalize (s.releaseAll as).modAll as (Axis.toIdle false) = t at idle ⊢
  have noted := RetiredKept.trans idle (.foldl t ended (fun t p => t.modAx p.1 (fun x => { x with lastCheck := p.2.1 }))
    (fun u p => modAx_retiredKept u p.1 _))
  generalize ended.foldl (fun t p => t.modAx p.1 (fun x => { x with lastCheck := p.2.1 })) t = u at noted ⊢
  have opened := noted.controls (((Controls.refl (F := False) u).passSince s).foldl ended
    (fun t p => if p.2.1 = some .opened then t.raiseFault p.1 .opened (.channel p.2.2) none none else t)
    (fun _ p hu => .ite (hu.raiseFault p.1 _ _ _ _) hu))
  split
  · exact opened
  · exact opened.controls ((Controls.refl (F := False) _).tellOutcome _ _ _)

theorem concludeStop_retiredKept (as : List AxisNo) : RetiredKept s (s.concludeStop as) := by
  have c := Controls.refl (F := False) s
  have released := c.releaseAll as
  have rested : RetiredKept s _ := ((released.modAll as _ KeptAxis.rested).passSince s).retired
  exact .ite rested (.ite (released.blockedRest as).retired (.ite (released.heldRest as).retired (.ite rested
    (.ite (c.reversalRest as).retired (.ite (checkRest_retiredKept s as) (released.finish as _).engine.retired)))))

theorem arrive_retiredKept (a : AxisNo) : RetiredKept s (s.arrive a) := by
  have arrived := modAx_retiredKept s a (fun x =>
    { x with stop := x.stop.map (fun st => { st with arrived := true, ramping := false }) })
  exact .ite ((arrived.trans (concludeStop_retiredKept _ _)).controls
    ((Controls.refl (F := True) _).cameToRest trivial a _)) arrived

theorem turn_retiredKept (a : AxisNo) (r : StopReq) : RetiredKept s (s.turn a r) := by
  have turned := (Controls.refl (F := False) s).modAx a (fun x =>
    { x with stop := x.stop.map (fun st => { st with dest := r.dest }) }) (fun x => by exact { KeptAxis.refl x with })
  refine RetiredKept.trans (Controls.passSince (F := False) ?_ s).retired (arrive_retiredKept _ a)
  split
  · exact turned
  · exact .ite turned (turned.stopAxis _ r)

theorem evaluate_retiredKept (a : AxisNo) (m : MoveRec) (c : Corr) : RetiredKept s (s.evaluate a m c) := by
  have note (o : MoveOutcome) : RetiredKept s ((s.modAx a (fun x => { x with noted := some o })).arrive a) :=
    (modAx_retiredKept s a _).trans (arrive_retiredKept _ a)
  unfold State.evaluate
  dsimp only
  split
  · exact note _
  · refine .ite (note _) (.ite (note _) ?_)
    split
    · exact turn_retiredKept s a _
    · exact turn_retiredKept s a _
    · split
      · exact note _
      · split
        · exact turn_retiredKept s a _
        · exact ((Controls.refl (F := False) s).enterCorrect a _).retired

theorem standstillStopping_retiredKept (a : AxisNo) (st : Stop) : RetiredKept s (s.standstillStopping a st) := by
  unfold State.standstillStopping
  split
  · exact evaluate_retiredKept s a _ _
  · exact arrive_retiredKept s a

theorem resync_retiredKept (a : AxisNo) (d : Dir) : RetiredKept s (s.resync a d) := by
  have placed : RetiredKept s (s.setAtBound a d) := modAx_retiredKept s a _
  exact .ite placed (placed.trans (report_retiredKept _ _))

theorem homeAt_retiredKept (a : AxisNo) (d : Dir) : RetiredKept s (s.homeAt a d) := by
  have placed : RetiredKept s (s.setAtBound a d) := modAx_retiredKept s a _
  exact (placed.trans (modAx_retiredKept _ a _)).trans (report_retiredKept _ _)

theorem stallDriving_retiredKept (a : AxisNo) : RetiredKept s (s.stallDriving a) := by
  have c := Controls.refl (F := False) s
  have stopped (o : MoveOutcome) : RetiredKept s _ := (c.stallStop a o).retired
  unfold State.stallDriving
  dsimp only
  split
  · exact ((stopped _).trans (homeAt_retiredKept _ a _)).trans (handOn_retiredKept _ a _)
  · split
    · split
      · exact ((stopped _).trans (resync_retiredKept _ a _)).trans (handOn_retiredKept _ a _)
      · exact (c.obstruct a _).retired
    · exact stopped _

theorem stallReversing_retiredKept (a : AxisNo) : RetiredKept s (s.stallReversing a) := by
  have c := Controls.refl (F := False) s
  have cut : RetiredKept s _ := ((c.cutBackoff a .coast).passSince s).retired
  unfold State.stallReversing
  dsimp only
  split
  · split
    · exact (cut.trans (resync_retiredKept _ a _)).trans (handOn_retiredKept _ a _)
    · exact (c.obstruct a _).retired
  · exact cut

theorem pulseEnd_retiredKept (a : AxisNo) (n : Nat) : RetiredKept s (pulseEnd a n s) := by
  unfold pulseEnd
  split
  · next k _ _ =>
    split
    · have second := modAx_retiredKept s a (fun x =>
        { x with driveDir := .low, check := some { k with pulse := some .low, peakHigh := n } })
      dsimp only
      split
      · exact second.controls (((Controls.refl (F := False) _).blockGang a _ _).passSince _)
      · exact second
    · exact (modAx_retiredKept s a _).controls ((Controls.refl (F := False) _).startStop a _ _)
    · exact .refl s
  · exact .refl s

theorem noStop_retiredKept (a : AxisNo) (k : FaultKind) (e : Cause) (r : RefCause) : RetiredKept s
    ((((s.modAx a (fun x => { x with noStop := true })).raiseFault a k e none none).suspect a r).passSince s) :=
  (modAx_retiredKept s a _).controls ((((Controls.refl (F := True) _).raiseFault a _ _ _ _).suspect trivial a _).passSince s)

theorem applyCount_retiredKept (a : AxisNo) (d : Dir) : RetiredKept s (s.applyCount a d) := by
  have limit (u : State) : RetiredKept u (u.overrunLimit a d) :=
    .ite (.refl u) (.ite (.ite (.refl u) (noStop_retiredKept u a _ _ _)) (suspect_retiredKept u a _))
  unfold State.applyCount
  dsimp only
  split
  · next c _ _ _ =>
    have lashed := modAx_retiredKept s a (fun x =>
      { x with lashDir := d, lashRem := (countLash c.lash (s.ax a).lashDir (s.ax a).lashRem d).1 })
    split
    · split
      · next q o _ =>
        have counted := lashed.trans (modAx_retiredKept _ a (fun x => { x with pos := some q, overrun := o }))
        split
        · exact counted
        · exact counted.controls ((Controls.refl (F := True) _).positionChange trivial a _ _)
      · exact lashed.trans (limit _)
    · exact lashed
  · exact .refl s

theorem backoffCount_retiredKept (a : AxisNo) (d : Dir) (old : Option Nat) : RetiredKept s (s.backoffCount a d old) := by
  unfold State.backoffCount
  dsimp only
  split
  · exact .ite (modAx_retiredKept s a _) (.refl s)
  · exact .refl s

theorem count_retiredKept (a : AxisNo) (d : Dir) : RetiredKept s (s.count a d) := by
  have hand : RetiredKept s (s.handCount a d) := .ite (modAx_retiredKept s a _) (.refl s)
  have search (u : State) : RetiredKept u (u.searchCount a d) := .ite (modAx_retiredKept u a _) (.refl u)
  have ramp (u : State) : RetiredKept u (u.rampCount a d) := modAx_retiredKept u a _
  have limit (u : State) : RetiredKept u (u.checkSearch a) := .ite (noStop_retiredKept u a _ _ _) (.refl u)
  have counted := (((((hand.trans (search _)).trans (ramp _)).trans (applyCount_retiredKept _ a d)).trans (limit _)).trans
    (backoffCount_retiredKept _ a d (s.ax a).pos))
  unfold State.count
  dsimp only
  split
  · exact counted.controls ((Controls.refl (F := False) _).advance a)
  · exact counted

theorem hallEffect_retiredKept (a : AxisNo) (step : HallStep) : RetiredKept s (hallEffect a step s) := by
  have woken : RetiredKept s s.wakeByHand := by
    unfold State.wakeByHand
    split
    · exact .ite (.of_chans (wakeBy_chans s _)) (.refl s)
    · exact .refl s
  unfold hallEffect
  split
  · split
    · exact woken.trans (count_retiredKept _ a _)
    · exact (modAx_retiredKept s a _).trans (suspect_retiredKept _ a _)
  · exact .refl s

end Motion

/-! #### The events that reach a channel (R86, R87, R94 to R96, R98) -/

section Channels

variable (c : ChanNo) (s : State)

theorem settleCloseEffect_retiredKept : RetiredKept s (settleCloseEffect c s) := by
  unfold settleCloseEffect
  split
  · exact .ite ((concludeStop_retiredKept s _).controls ((Controls.refl (F := True) _).cameToRest trivial _ _))
      ((Controls.refl (F := True) s).engaged trivial _ _).retired
  · exact .refl s

theorem settleOpenEffect_retiredKept : RetiredKept s (settleOpenEffect c s) := by
  unfold settleOpenEffect
  dsimp only
  split
  · next state _ =>
    exact (RetiredKept.setCh (by simp [state]) _).controls (Controls.refl (F := False) _).grantPass
  · next state => exact .ite (.setCh (by simp [state]) _) (.refl s)
  · exact .refl s

theorem shortTripEffect_retiredKept : RetiredKept s (shortTripEffect c s) := by
  unfold shortTripEffect
  split
  · next a state _ =>
    have tripped : RetiredKept s (s.setCh c (s.ch c).trip) := .setCh (by simp [state]) _
    exact (tripped.trans (modAx_retiredKept _ a _)).controls
      (((Controls.refl (F := False) _).raiseFault a _ _ _ _).passSince s)
  · exact .refl s

theorem cooldownEffect_retiredKept : RetiredKept s (cooldownEffect c s) := by
  unfold cooldownEffect
  dsimp only
  split
  · next due =>
    obtain ⟨state, -⟩ := due
    have cooled : RetiredKept s (s.setCh c (s.ch c).cooled) := .setCh (by simp [state]) _
    have k := Controls.refl (F := False) (s.setCh c (s.ch c).cooled)
    exact .ite (cooled.controls ((k.strand c).passSince _)) (cooled.controls k.grantPass)
  · exact .refl s

theorem enterSleep_retiredKept : RetiredKept s s.enterSleep := by
  have ended := RetiredKept.modChans s Channel.ended ended_keeps_retired
  unfold State.enterSleep
  dsimp only
  generalize s.modChans Channel.ended = u at ended ⊢
  exact ended.same rfl

end Channels

/-! #### The other events -/

section Events

variable (s : State)

theorem afterExpiryEffect_retiredKept (r : RunnerNo) (i g : Nat) : RetiredKept s (afterExpiryEffect r i g s) := by
  unfold afterExpiryEffect
  split
  · exact .refl s
  · exact .ite (.of_chans rfl) (.refl s)

theorem timeoutEffect_retiredKept (r : RunnerNo) : RetiredKept s (timeoutEffect r s) := by
  unfold timeoutEffect
  split
  · exact .refl s
  · exact .ite ((Controls.refl (F := False) s).haltRunner r _).retired (.refl s)

/-- Runners pause and link operations end, with the pass that follows: the silence of the link and the inhibit line. -/
theorem interrupt_retiredKept (why : Reason) (which : LinkOp → Bool) (o : MoveOutcome) : RetiredKept s
    (((allRunners.foldl (fun t r => t.pauseActive r why) s).endLinkOps which o).passSince s) :=
  ((((Controls.refl (F := False) s).foldl allRunners _ (fun _ r hu => hu.pauseActive r why)).endLinkOps which o).passSince
    s).retired

theorem inhibitEffect_retiredKept (level : Bool) : RetiredKept s (inhibitEffect level s) := by
  have raised : RetiredKept s { s with inhibit := true } := .of_chans rfl
  exact .ite (.refl s) (.ite (raised.trans (interrupt_retiredKept _ _ _ _)) (.of_chans rfl))

theorem lapseEffect_retiredKept : RetiredKept s (lapseEffect s) := by
  unfold lapseEffect
  split
  · have lapsed : RetiredKept s { s with link := { s.link with supervision := .lapsed } } := .of_chans rfl
    exact lapsed.trans (interrupt_retiredKept _ _ _ _)
  · exact .refl s
  · exact .refl s

theorem sampleVoltage_retiredKept (mv : Nat) : RetiredKept s (s.sampleVoltage mv) := by
  have sampled : RetiredKept s { s with supply := bandSample s.supply mv } := .of_chans rfl
  have afresh := sampled.trans (recompute_retiredKept _)
  exact .ite sampled (.ite afresh (afresh.trans (report_retiredKept _ _)))

theorem sampleTemperature_retiredKept (n : Int) : RetiredKept s (s.sampleTemperature n) := by
  have sampled : RetiredKept s { s with supply := thermalSample s.supply n } := .of_chans rfl
  have afresh := sampled.trans (recompute_retiredKept _)
  exact .ite sampled (.ite afresh (afresh.trans (report_retiredKept _ _)))

theorem shareAsserted_retiredKept : RetiredKept s s.shareAsserted := by
  have asked : RetiredKept s { s with supply := { s.supply with shareReq := true, handshake := .draining, avail := 0 } } :=
    .of_chans rfl
  have revoked := asked.controls (Controls.refl (F := False) _).revoke
  unfold State.shareAsserted
  dsimp only
  generalize State.revoke _ = u at revoked ⊢
  have answered : RetiredKept s (if u.nothingMoves then
      { u with supply := { u.supply with handshake := .yielded, shareAck := true } } else u) :=
    .ite (revoked.same rfl) revoked
  exact answered.trans (report_retiredKept _ _)

theorem shareReleased_retiredKept : RetiredKept s s.shareReleased := by
  have quiet : RetiredKept s { s with supply :=
      { s.supply with shareReq := false, handshake := .quiet, shareAck := false } } := .of_chans rfl
  exact (quiet.trans (recompute_retiredKept _)).trans (report_retiredKept _ _)

theorem takeNext_retiredKept : RetiredKept s s.takeNext := by
  unfold State.takeNext
  split
  · split
    · exact .refl s
    · next f fs _ =>
      have taken : RetiredKept s { s with link := { s.link with intake := fs } } := .of_chans rfl
      exact taken.trans (takeFrame_retiredKept f _)
  · exact .refl s

theorem transmitEndEffect_retiredKept : RetiredKept s (transmitEndEffect s) := by
  unfold transmitEndEffect
  split
  · exact .refl s
  · have idle : RetiredKept s { s with link := { s.link with tx := none } } := .of_chans rfl
    exact .ite (idle.trans (enterSleep_retiredKept _))
      ((idle.same (ClockKept.chans (startTx_kept _))).trans (takeNext_retiredKept _))

theorem byteEffect_retiredKept (b : Byte) (e : Bool) : RetiredKept s (byteEffect b e s) := by
  have stored (rx : Rx) : RetiredKept s (s.setRx rx) := .of_chans rfl
  have received : RetiredKept s (s.receive b e) := by
    refine .ite (stored _) ?_
    dsimp only
    split
    · exact stored _
    · next f _ => exact (stored _).trans (offerFrame_retiredKept _ f (takeFrame_retiredKept f))
  unfold byteEffect
  split
  · exact .refl s
  · exact .of_chans (wakeBy_chans s _)
  all_goals exact received

theorem heatAxis_retiredKept (a : AxisNo) : RetiredKept s (s.heatAxis a) := by
  have closed : RetiredKept s (s.closeInterval a) := (modAx_retiredKept s a _).trans (modAx_retiredKept _ a _)
  unfold State.heatAxis
  split
  · exact .refl s
  · dsimp only
    generalize s.closeInterval a = u at closed ⊢
    have counted : RetiredKept u { u with freeIndex := u.freeIndex + 1 } := .of_chans rfl
    exact RetiredKept.trans (RetiredKept.ite closed (closed.trans counted)) (modAx_retiredKept _ a _)

theorem modRuns_chans (f : Run → Run) : (s.modRuns f).chans = s.chans := by
  unfold State.modRuns
  exact foldl_rel (R := fun s t : State => t.chans = s.chans) (fun _ => rfl) (fun h k => k.trans h) allRunners _
    (fun _ _ => rfl) s

theorem tickTimers_retiredKept : RetiredKept s s.tickTimers := by
  unfold State.tickTimers
  dsimp only
  generalize hr : s.modRuns Run.tick = r
  have runs : RetiredKept s r := .of_chans (by rw [← hr, modRuns_chans])
  have owners := runs.same (modAll_chans r allAxes (fun x => { x with owner := x.owner.tick }))
  generalize r.modAll allAxes (fun x => { x with owner := x.owner.tick }) = u at owners ⊢
  have links : RetiredKept s (if u.power.state = .active then
      u.modAll allAxes (fun x => { x with link := x.link.map (BlockLink.tick (u.link.setup.blockTimeout * 1000)) })
      else u) := .ite (owners.same (modAll_chans u _ _)) owners
  generalize (if u.power.state = .active then _ else u) = v at links ⊢
  have cooled := links.trans (.modChans v (fun c => { c with cooldown := c.cooldown.map (fun t => t - 10) }) (fun _ => id))
  generalize v.modChans (fun c => { c with cooldown := c.cooldown.map (fun t => t - 10) }) = w at cooled ⊢
  exact cooled.same rfl

theorem heatTickEffect_retiredKept : RetiredKept s (heatTickEffect s) := by
  have opened (u : State) : RetiredKept u u.openIntervals := .foldl u _ _ (fun t a => modAx_retiredKept t a _)
  have ticked := (((RetiredKept.foldl s allAxes State.heatAxis heatAxis_retiredKept).controls
    ((Controls.refl (F := False) _).raiseOverheats s)).trans (opened _)).trans (tickTimers_retiredKept _)
  have asleep : RetiredKept s s.tickSleep := by
    unfold State.tickSleep
    split
    · exact .refl s
    · exact .ite (.of_chans rfl) (.of_chans rfl)
  unfold heatTickEffect
  split
  · exact .refl s
  · exact asleep
  all_goals exact ticked

theorem wakeEffect_retiredKept (w : WakeSource) : RetiredKept s (wakeEffect w s) := by
  have woke (u : State) (c : WakeCause) : RetiredKept u (u.wakeBy c) := .of_chans (wakeBy_chans u c)
  unfold wakeEffect
  split
  · exact woke s _
  · next level =>
    have taken : RetiredKept s { s with wakeLine := level } := .of_chans rfl
    exact .ite (taken.trans (woke _ _)) taken
  · exact .ite (woke s _) (.refl s)

theorem tellsOnly_retiredKept {s t : State} (h : TellsOnly s t) : RetiredKept s t := by
  obtain ⟨_, _, e, -⟩ := h.rest
  exact .of_chans (by rw [e])

theorem wakeEndEffect_retiredKept : RetiredKept s (wakeEndEffect s) := by
  unfold wakeEndEffect
  split
  · next c o _ _ _ =>
    have begun : RetiredKept s (begunWake s) := .of_chans (modAll_chans s _ _)
    exact (begun.trans (tellsOnly_retiredKept (toldWake_tells s c o))).trans (tellsOnly_retiredKept (wake_tells s c o))
  · exact .refl s

end Events

end Sys2Proof.Safety

/-! ### Every step but a power-on reset -/

namespace Sys2Proof.Proofs

open Sys2Proof.Machine Sys2Proof.Laws Sys2Proof.Safety

section Step

variable {s t : State}

/-- Every command but the two of the reset line keeps RETIRED channels. -/
theorem exec_retiredKept (i : Instr) (on : i ≠ .powerOnReset) (init : i ≠ .initStart) (e : exec i s = .next t) :
    RetiredKept s t := by
  have c := Controls.refl (F := True) s
  have taken := takeRequest_retiredKept i
  cases i with
  | powerOnReset => exact absurd rfl on
  | initStart => exact absurd rfl init
  | hallEdge a step => exact event_retiredKept e (hallEffect_retiredKept s a step)
  | stall a =>
    unfold exec execStall at e
    refine event_retiredKept e (.ite ?_ (.refl s))
    split
    · exact stallDriving_retiredKept s a
    · exact stallReversing_retiredKept s a
  | byteReceived b fe => exact event_retiredKept e (byteEffect_retiredKept s b fe)
  | transmitEnd => exact event_retiredKept e (transmitEndEffect_retiredKept s)
  | interByteGap => exact event_retiredKept e (.ite (.of_chans rfl) (.refl s))
  | cadenceExpiry =>
    refine event_retiredKept e ?_
    unfold cadenceEffect
    split
    · exact .refl s
    · exact .of_chans (report_chans _ _)
  | supervisionLapse => exact event_retiredKept e (lapseEffect_retiredKept s)
  | handMoveRest a => exact event_retiredKept e (.ite (c.closeEpisode a).retired (modAx_retiredKept s a _))
  | blankingEnd a =>
    unfold exec execBlankingEnd at e
    exact event_retiredKept e (modAx_retiredKept s a _)
  | obstructionCurrent a => exact event_retiredKept e (Controls.ite (c.obstruct a _) c).retired
  | controlledStopRampEnd a =>
    unfold exec execControlledStopRampEnd at e
    exact event_retiredKept e (modAx_retiredKept s a _)
  | standstill a =>
    unfold exec execStandstill at e
    refine event_retiredKept e ?_
    split
    · exact .ite (.refl s) (standstillStopping_retiredKept s a _)
    · exact .ite (.refl s) (c.standstillBackoff trivial a _).retired
    · exact .refl s
  | checkPulseEnd a n => exact event_retiredKept e (pulseEnd_retiredKept s a n)
  | escalation a => exact event_retiredKept e (.ite (.of_chans (modAll_chans s _ _)) (.refl s))
  | heatTick => exact event_retiredKept e (heatTickEffect_retiredKept s)
  | jogWindowExpiry a => exact event_retiredKept e (c.windowExpiry a).retired
  | blockTimeout a =>
    unfold exec execBlockTimeout at e
    exact event_retiredKept e (c.blockExpires a).retired
  | settleCloseEnd n => exact event_retiredKept e (settleCloseEffect_retiredKept n s)
  | settleOpenEnd n => exact event_retiredKept e (settleOpenEffect_retiredKept n s)
  | shortTrip n => exact event_retiredKept e (shortTripEffect_retiredKept n s)
  | cooldownEnd n => exact event_retiredKept e (cooldownEffect_retiredKept n s)
  | afterDelayExpiry r m g => exact event_retiredKept e (afterExpiryEffect_retiredKept s r m g)
  | runTimeout r => exact event_retiredKept e (timeoutEffect_retiredKept s r)
  | runnerPaused r =>
    unfold exec execRunnerPaused at e
    exact event_retiredKept e (c.restRunner r).retired
  | haltingEnd r =>
    unfold exec execHaltingEnd at e
    exact event_retiredKept e (c.restRunner r).retired
  | supplySample mv n =>
    cases e
    exact .ite (.refl s) (((sampleVoltage_retiredKept s mv).trans (sampleTemperature_retiredKept _ n)).trans
      (settle_retiredKept _))
  | shareReqChange level =>
    cases e
    have followed : RetiredKept s { s with supply := s.supply.follow level } := .of_chans rfl
    have changed : RetiredKept s (if level then s.shareAsserted else s.shareReleased) :=
      .ite (shareAsserted_retiredKept s) (shareReleased_retiredKept s)
    refine .ite (.refl s) ?_
    split
    · exact followed.trans (settle_retiredKept _)
    · exact followed.trans (settle_retiredKept _)
    all_goals exact changed.trans (settle_retiredKept _)
  | shareYield => exact event_retiredKept e (.of_chans (yieldShare_chans s))
  | inhibitChange level => exact event_retiredKept e (inhibitEffect_retiredKept s level)
  | idleDwellExpiry => exact event_retiredKept e (.ite (enterDoze_retiredKept s) (.refl s))
  | driveStageReady =>
    have ready : RetiredKept s { s with power := { s.power with stage := .ready } } := .of_chans rfl
    exact event_retiredKept e (.ite (ready.controls (Controls.refl (F := False) _).grantPass) (.refl s))
  | sleepEntry => exact event_retiredKept e (.ite (enterSleep_retiredKept s) (.refl s))
  | wakeEvent w =>
    cases e
    exact (wakeEffect_retiredKept s w).trans (settle_retiredKept _)
  | wakeTimeEnd => exact event_retiredKept e (wakeEndEffect_retiredKept s)
  | initEnd =>
    have active : RetiredKept s { s with power := { s.power with state := .active } } := .of_chans rfl
    exact event_retiredKept e (.ite ((active.trans (report_retiredKept _ _)).trans (report_retiredKept _ _)) (.refl s))
  | resettingComplete => exact event_retiredKept e (completeReset_retiredKept s)
  | unknownKind tag kind p =>
    cases e
    exact offer_retiredKept s _ (takeFrame_retiredKept _)
  | ident | status | setup | reset | axisSet | axisGet | ack | jog | home | check | profileWrite | profileRead | profileSwap
  | scaleSet | keepoutSet | keepoutGet | planWrite | planRead | planDefine | run | pause | resume | halt | mark | runGet
  | budgetSet | power =>
    cases e
    exact offer_retiredKept s _ taken

end Step

/-- Settles O8: the queue's rest has the same channels, and every command but the two of the reset line keeps
RETIRED ones. -/
theorem retiredStaysRetired : Obligations.RetiredStaysRetired := by
  unfold Obligations.RetiredStaysRetired
  intro s t c retired on init e
  unfold step at e
  split at e
  · cases e
    exact retired
  · next i rest front =>
    have kept := exec_retiredKept i (fun h => on rest (h ▸ front)) (fun h => init rest (h ▸ front)) e
    exact kept c retired

end Sys2Proof.Proofs

/-! ### Revocation (R90, R106 to R109) -/

namespace Sys2Proof.Laws

open Sys2Proof.Machine Sys2Proof.Safety

/-- An axis is in STOPPING, and its stop is such (R90, R108). -/
def StopsWith (x : Axis) (dests : Stop → Prop) : Prop := x.motion = .stopping ∧ ∃ st, x.stop = some st ∧ dests st

/-- A stop toward completion or a reversal that no revocation has reached: it is charged, and its grant revocable. -/
def Stop.Unrevoked (st : Stop) : Prop := ((∃ k, st.dest = .completion k) ∨ st.dest = .reversal) ∧ st.revoked = false

theorem charged_iff (x : Axis) : x.charged = true ↔
    x.motion = .driving ∨ x.motion = .backoff ∨ x.motion = .checking ∨ (x.motion = .engaging ∧ x.stop = none) ∨
    StopsWith x (fun st => Stop.Unrevoked st ∨ st.dest = .checkDone) := by
  unfold Axis.charged StopsWith Stop.Unrevoked
  cases x.motion with
  | stopping =>
    cases x.stop with
    | none => simp
    | some st =>
      obtain ⟨dest⟩ := st
      cases dest <;> simp
  | _ => simp

theorem revocable_iff (x : Axis) : x.revocable = true ↔
    x.motion = .driving ∨ (x.motion = .engaging ∧ x.stop = none) ∨ StopsWith x Stop.Unrevoked := by
  unfold Axis.revocable StopsWith Stop.Unrevoked
  cases x.motion with
  | stopping =>
    cases x.stop with
    | none => simp
    | some st =>
      obtain ⟨dest⟩ := st
      cases dest <;> simp
  | _ => simp

theorem not_revocable {x : Axis} (driving : x.motion ≠ .driving) (bound : x.motion = .engaging → x.stop ≠ none)
    (stops : ∀ st, x.motion = .stopping → x.stop = some st → ¬ Stop.Unrevoked st) : x.revocable = false := by
  rw [Bool.eq_false_iff, ne_eq, revocable_iff]
  rintro (h | ⟨h, stop⟩ | ⟨h, st, stop, unrevoked⟩)
  · exact driving h
  · exact bound h stop
  · exact stops st h stop unrevoked

/-! #### What a revocation leaves revocable -/

section Revoked

variable {s : State} {a b : AxisNo}

/-- After a revocation the grant of the axis is no longer revocable: its stop is toward held, or it is revoked. -/
theorem revoke_spent (s : State) (n : Nat) (a : AxisNo) : ((s.stopAxisFrom n a .revoke).ax a).revocable = false := by
  cases motion : (s.ax a).motion with
  | driving =>
    rw [stopAxisFrom_driving motion, startStopFrom_eq, ax_setAx_self]
    refine not_revocable (by simp) (by simp) (fun st _ stop => ?_)
    cases stop
    simp [Stop.Unrevoked, StopReq.dest]
  | engaging =>
    cases stop : (s.ax a).stop with
    | none =>
      rw [stopAxisFrom_bare motion stop, ax_setAx_self]
      exact not_revocable (by simp [motion]) (by simp) (fun st h => by simp [motion] at h)
    | some st =>
      rw [stopAxisFrom_bound (.inr motion) stop, ax_setAx_self, meet_eq stop]
      exact not_revocable (by simp [motion]) (by simp) (fun st h => by simp [motion] at h)
  | stopping =>
    cases stop : (s.ax a).stop with
    | none =>
      rw [stopAxisFrom_stopping motion, ax_modAx_self]
      exact not_revocable (by simp [Axis.meet, motion]) (by simp [Axis.meet, motion]) (by simp [Axis.meet, stop])
    | some st =>
      rw [stopAxisFrom_bound (.inl motion) stop, ax_setAx_self, meet_eq stop]
      refine not_revocable (by simp [motion]) (by simp [motion]) (fun st _ stop => ?_)
      cases stop
      simp [Stop.Unrevoked]
  | queued =>
    rw [revoke_queued motion]
    simp [Axis.revocable, motion]
  | blocked =>
    rw [stopAxisFrom_blocked motion StopReq.noConfusion StopReq.noConfusion]
    simp [Axis.revocable, motion]
  | checking =>
    rw [stopAxisFrom_checking motion (fun _ _ => StopReq.noConfusion)]
    simp [Axis.revocable, motion]
  | idle =>
    rw [stopAxisFrom_idle motion StopReq.noConfusion]
    simp [Axis.revocable, motion]
  | backoff =>
    rw [stopAxisFrom_resting (.inl motion)]
    simp [Axis.revocable, motion]
  | fault =>
    rw [stopAxisFrom_resting (.inr motion)]
    simp [Axis.revocable, motion]

/-- A grant that is revocable after a revocation was so before, and is none of those revoked. -/
theorem stopAll_revocable {s : State} {as : List AxisNo} (h : ((s.stopAll as .revoke).ax b).revocable = true) :
    (s.ax b).revocable = true ∧ b ∉ as := by
  unfold State.stopAll at h
  generalize s.dutyNow = duty at h
  induction as generalizing s with
  | nil => exact ⟨h, List.not_mem_nil⟩
  | cons a as ih =>
    obtain ⟨before, others⟩ := ih h
    have ne : b ≠ a := by
      rintro rfl
      rw [revoke_spent] at before
      exact absurd before (by decide)
    rw [stopAxisFrom_other ne] at before
    exact ⟨before, fun mem => (List.mem_cons.mp mem).elim ne others⟩

/-- The axes whose grants are revocable (R108). -/
def revocables (s : State) : Finset AxisNo := Finset.univ.filter (fun a => (s.ax a).revocable = true)

theorem mem_revocables : a ∈ revocables s ↔ (s.ax a).revocable = true := by simp [revocables]

/-- Every revocation leaves fewer revocable grants. -/
theorem revocables_fewer (h : (s.ax a).revocable = true) :
    (revocables (s.stopAll (s.members a) .revoke)).card < (revocables s).card := by
  refine Finset.card_lt_card (Finset.ssubset_iff_of_subset (fun b mem => ?_) |>.mpr ⟨a, mem_revocables.mpr h, fun mem => ?_⟩)
  · exact mem_revocables.mpr (stopAll_revocable (mem_revocables.mp mem)).1
  · exact (stopAll_revocable (mem_revocables.mp mem)).2 (self_mem_members s a)

end Revoked

/-! #### The grant that is revoked next (R107) -/

theorem revokedBefore_iff (x y : Axis) : x.revokedBefore y = true ↔
    x.priority < y.priority ∨ (x.priority = y.priority ∧ y.grantStamp < x.grantStamp) := by
  simp [Axis.revokedBefore]

/-- One step of the search for the grant that is revoked next. -/
def nextOf (s : State) (best : Option AxisNo) (a : AxisNo) : Option AxisNo :=
  if (s.ax a).revocable then
    match best with
    | none => some a
    | some b => if (s.ax a).revokedBefore (s.ax b) then some a else some b
  else best

theorem nextRevoked_eq (s : State) : s.nextRevoked = allAxes.foldl (nextOf s) none := rfl

/-- Of the axes listed this one is revoked first: none goes before it, and of those that it does not go before it has the
lowest number. -/
structure RevokedFirst (s : State) (l : List AxisNo) (a : AxisNo) : Prop where
  mem : a ∈ l
  revocable : (s.ax a).revocable = true
  least : ∀ b ∈ l, (s.ax b).revocable = true →
    ¬ (s.ax b).revokedBefore (s.ax a) = true ∧ (¬ (s.ax a).revokedBefore (s.ax b) = true → a ≤ b)

section Next

variable {s : State} {a b : AxisNo} {best : Option AxisNo}

theorem nextOf_skipped (h : (s.ax a).revocable = false) : nextOf s best a = best := by
  simp only [nextOf, h, Bool.false_eq_true, if_false]

theorem nextOf_first (h : (s.ax a).revocable = true) : nextOf s none a = some a := if_pos h

theorem nextOf_before (h : (s.ax a).revocable = true) (before : (s.ax a).revokedBefore (s.ax b) = true) :
    nextOf s (some b) a = some a := by
  simp only [nextOf, h, before, if_true]

theorem nextOf_after (h : (s.ax a).revocable = true) (after : ¬ (s.ax a).revokedBefore (s.ax b) = true) :
    nextOf s (some b) a = some b := by
  simp only [nextOf, h, after, if_true, Bool.false_eq_true, if_false]

/-- A further axis that is not revocable changes nothing. -/
theorem RevokedFirst.skip {l : List AxisNo} (first : RevokedFirst s l a) (h : (s.ax b).revocable = false) :
    RevokedFirst s (l ++ [b]) a := by
  refine ⟨List.mem_append_left _ first.mem, first.revocable, fun c mem revocable => ?_⟩
  rcases List.mem_append.mp mem with mem | mem
  · exact first.least c mem revocable
  · rw [List.mem_singleton.mp mem, h] at revocable
    exact absurd revocable (by decide)

/-- A further axis that goes before the first one takes its place. -/
theorem RevokedFirst.replace {l : List AxisNo} (first : RevokedFirst s l a) (h : (s.ax b).revocable = true)
    (before : (s.ax b).revokedBefore (s.ax a) = true) : RevokedFirst s (l ++ [b]) b := by
  refine ⟨List.mem_append_right _ (List.mem_singleton_self b), h, fun c mem revocable => ?_⟩
  rcases List.mem_append.mp mem with mem | mem
  · obtain ⟨least, -⟩ := first.least c mem revocable
    rw [revokedBefore_iff] at before least
    rw [revokedBefore_iff, revokedBefore_iff]
    exact ⟨by omega, fun no => absurd no (by omega)⟩
  · rw [List.mem_singleton.mp mem, revokedBefore_iff]
    exact ⟨by omega, fun _ => le_refl b⟩

/-- A further axis of a higher number that does not go before the first one leaves it first. -/
theorem RevokedFirst.keep {l : List AxisNo} (first : RevokedFirst s l a) (later : a < b)
    (after : ¬ (s.ax b).revokedBefore (s.ax a) = true) : RevokedFirst s (l ++ [b]) a := by
  refine ⟨List.mem_append_left _ first.mem, first.revocable, fun c mem revocable => ?_⟩
  rcases List.mem_append.mp mem with mem | mem
  · exact first.least c mem revocable
  · rw [List.mem_singleton.mp mem]
    exact ⟨after, fun _ => later.le⟩

end Next

/-- What the search over a list of axes has found. -/
def Found (s : State) (l : List AxisNo) : Option AxisNo → Prop
  | none => ∀ a ∈ l, (s.ax a).revocable = false
  | some a => RevokedFirst s l a

/-- The search over a list of axes in increasing number finds the one revoked first, where any is revocable. -/
theorem found_foldl (s : State) (l : List AxisNo) (sorted : l.Pairwise (· < ·)) : Found s l (l.foldl (nextOf s) none) := by
  induction l using List.reverseRecOn with
  | nil => exact fun a mem => absurd mem List.not_mem_nil
  | append_singleton l c ih =>
    obtain ⟨front, -, last⟩ := List.pairwise_append.mp sorted
    have found := ih front
    rw [List.foldl_append, List.foldl_cons, List.foldl_nil]
    generalize l.foldl (nextOf s) none = best at found ⊢
    cases best with
    | none =>
      by_cases grant : (s.ax c).revocable = true
      · rw [nextOf_first grant]
        refine ⟨List.mem_append_right _ (List.mem_singleton_self c), grant, fun b mem h => ?_⟩
        rcases List.mem_append.mp mem with mem | mem
        · rw [found b mem] at h
          exact absurd h (by decide)
        · rw [List.mem_singleton.mp mem, revokedBefore_iff]
          exact ⟨by omega, fun _ => le_refl c⟩
      · rw [nextOf_skipped (by simpa using grant)]
        intro b mem
        rcases List.mem_append.mp mem with mem | mem
        · exact found b mem
        · simpa [List.mem_singleton.mp mem] using grant
    | some a =>
      by_cases grant : (s.ax c).revocable = true
      · by_cases before : (s.ax c).revokedBefore (s.ax a) = true
        · rw [nextOf_before grant before]
          exact RevokedFirst.replace found grant before
        · rw [nextOf_after grant before]
          exact RevokedFirst.keep found (last a (RevokedFirst.mem found) c (List.mem_singleton_self c)) before
      · rw [nextOf_skipped (by simpa using grant)]
        exact RevokedFirst.skip found (by simpa using grant)

theorem found_nextRevoked (s : State) : Found s allAxes s.nextRevoked := by
  rw [nextRevoked_eq]
  exact found_foldl s allAxes (by decide)

theorem nextRevoked_eq_none {s : State} : s.nextRevoked = none ↔ ∀ a, (s.ax a).revocable = false := by
  have found := found_nextRevoked s
  cases next : s.nextRevoked with
  | none =>
    rw [next] at found
    exact ⟨fun _ a => found a (mem_allAxes a), fun _ => rfl⟩
  | some a =>
    rw [next] at found
    have grant := RevokedFirst.revocable found
    exact ⟨fun other => absurd other (Option.some_ne_none a), fun spent => by simp [spent a] at grant⟩

theorem revokedFirst_of_next {s : State} {a : AxisNo} (next : s.nextRevoked = some a) : RevokedFirst s allAxes a := by
  have found := found_nextRevoked s
  rwa [next] at found

/-! #### Revocation one grant at a time (R107) -/

section Loop

variable {s : State} {a : AxisNo}

theorem revokeLoop_within (h : s.inUse ≤ s.supply.avail) (n : Nat) : revokeLoop n s = s := by
  cases n with
  | zero => rfl
  | succ n => rw [revokeLoop, if_pos h]

theorem revokeLoop_none (h : s.nextRevoked = none) (n : Nat) : revokeLoop n s = s := by
  cases n with
  | zero => rfl
  | succ n => rw [revokeLoop, h, ite_self]

theorem revokeLoop_next (above : s.supply.avail < s.inUse) (next : s.nextRevoked = some a) (n : Nat) :
    revokeLoop (n + 1) s = revokeLoop n (s.stopAll (s.members a) .revoke) := by
  rw [revokeLoop, if_neg (by omega), next]

theorem stopAll_avail (as : List AxisNo) (r : StopReq) : (s.stopAll as r).supply.avail = s.supply.avail := by
  rw [((Controls.refl (F := False) s).stopAll as r).supply]

/-- As many rounds as there are revocable grants bring the budget in use within the available budget, or leave none. -/
theorem revokeLoop_reaches (n : Nat) (s : State) (enough : (revocables s).card ≤ n) :
    (revokeLoop n s).inUse ≤ s.supply.avail ∨ ∀ a, ((revokeLoop n s).ax a).revocable = false := by
  induction n generalizing s with
  | zero =>
    right
    intro a
    have empty : revocables s = ∅ := Finset.card_eq_zero.mp (Nat.le_zero.mp enough)
    have not_mem : a ∉ revocables s := by simp [empty]
    rw [mem_revocables] at not_mem
    exact Bool.eq_false_iff.mpr not_mem
  | succ n ih =>
    rcases le_or_gt s.inUse s.supply.avail with within | above
    · left
      rwa [revokeLoop_within within]
    · cases next : s.nextRevoked with
      | none =>
        right
        rw [revokeLoop_none next]
        exact nextRevoked_eq_none.mp next
      | some a =>
        have fewer := revocables_fewer (revokedFirst_of_next next).revocable
        rw [revokeLoop_next above next, ← stopAll_avail (s.members a) .revoke]
        exact ih _ (by omega)

theorem revocables_card_le (s : State) : (revocables s).card ≤ 12 := Finset.card_le_univ _

end Loop

end Sys2Proof.Laws

namespace Sys2Proof.Proofs

open Sys2Proof.Machine Sys2Proof.Laws Sys2Proof.Safety

/-- Settles O39: every round of a revocation leaves fewer revocable grants, and takes the one that the search over the axes
in increasing number finds first. -/
theorem revocationReachesTheBudget : Obligations.RevocationReachesTheBudget := by
  unfold Obligations.RevocationReachesTheBudget
  refine ⟨fun s => revokeLoop_reaches 12 s (revocables_card_le s), fun x => ⟨charged_iff x, revocable_iff x⟩,
    fun s => ?inUse, fun s => ?next, fun n s => ⟨fun within => revokeLoop_within within n, fun spent => revokeLoop_none spent n,
      fun a above next => revokeLoop_next above next n⟩, fun s => rfl⟩
  case inUse =>
    refine congrArg List.sum (List.map_congr_left (fun a _ => ?_))
    rw [State.draw]
    cases (s.ax a).config <;> rfl
  case next =>
    intro priority before
    have own (a : AxisNo) : priority a = (s.ax a).priority := by
      simp only [priority, Axis.priority]
      cases (s.ax a).check <;> cases (s.ax a).move <;> rfl
    have order (a b : AxisNo) : before a b ↔ (s.ax a).revokedBefore (s.ax b) = true := by
      rw [revokedBefore_iff, ← own, ← own]
    refine ⟨nextRevoked_eq_none, fun a next => ?_⟩
    have first := revokedFirst_of_next next
    refine ⟨first.revocable, fun b h => ?_⟩
    rw [order, order]
    exact first.least b (mem_allAxes b) h

end Sys2Proof.Proofs

/-! ### BUDGET_SET (R105) -/

namespace Sys2Proof.Laws

open Sys2Proof.Machine Sys2Proof.Safety

/-- The percentages of the bands and the thermal states multiply (R104). -/
theorem availOf_eq (base : Nat) (band : Band) (thermal : Thermal) (h : Handshake) :
    availOf base band thermal h = if h = .quiet then base * (band.factor * thermal.factor) / 10000 else 0 := by
  cases h <;> simp [availOf, Nat.mul_assoc]

/-- An available budget computed afresh in ACTIVE or DOZE (R104, R107). -/
theorem recompute_awake {s v : State} (awake : Awake s) (afresh : v = { s with supply := { s.supply with
      avail := availOf s.supply.base s.supply.band s.supply.thermal s.supply.handshake } }) :
    s.recompute = if s.supply.avail < v.supply.avail then v.grantPass
      else if v.supply.avail < v.inUse then (revokeLoop 12 v).passSince v else v := by
  have other : v.power.state ≠ .resetting := by
    rw [afresh]
    rcases awake with h | h <;> simp [h]
  have revoke : v.revoke = (revokeLoop 12 v).passSince v := if_neg other
  rw [← revoke, afresh]
  rfl

/-- What follows the computing afresh is control: the available budget stands. -/
theorem recompute_avail (s : State) : s.recompute.supply.avail =
    availOf s.supply.base s.supply.band s.supply.thermal s.supply.handshake := by
  unfold State.recompute
  dsimp only
  generalize new : availOf s.supply.base s.supply.band s.supply.thermal s.supply.handshake = n
  generalize computed : ({ s with supply := { s.supply with avail := n } } : State) = u
  have avail : u.supply.avail = n := by rw [← computed]
  have c := Controls.refl (F := False) u
  have kept : Controls False u (if s.supply.avail < n then u.grantPass else if n < u.inUse then u.revoke else u) :=
    .ite c.grantPass (.ite c.revoke c)
  rw [kept.supply]
  exact avail

end Sys2Proof.Laws

namespace Sys2Proof.Proofs

open Sys2Proof.Machine Sys2Proof.Laws Sys2Proof.Safety

/-- Settles O38: the refusals by the range, and the taken value by the computing afresh and what it causes. -/
theorem budgetSetReplacesTheBase : Obligations.BudgetSetReplacesTheBase := by
  unfold Obligations.BudgetSetReplacesTheBase
  intro tag n s u m factor avail v w
  refine ⟨fun h => exec_resets h rfl ?_, fun h out => exec_answers h rfl ?_, fun h low high => exec_answers h rfl ?_⟩
  · rw [budgetSetTaken, resetting_resets h]
    rfl
  · rw [budgetSetTaken, resetting_listens h, inRange_eq_none.mpr out]
    rfl
  · have range : inRange 50 600 n.toNat = some n.toNat := inRange_eq_some.mpr ⟨⟨low, high⟩, rfl⟩
    have new : availOf n.toNat m.band m.thermal m.handshake = avail := by
      rw [availOf_eq]
      simp only [avail, factor]
      cases m.band <;> cases m.thermal <;> rfl
    have awake : Awake { u with supply := { u.supply with base := n.toNat } } := (frameHeard_power s).symm ▸ h.awake
    have computed := recompute_awake (v := v) awake (by simp only [v, ← new]; rfl)
    have told := recompute_avail { u with supply := { u.supply with base := n.toNat } }
    rw [budgetSetTaken, resetting_listens h, range]
    show (State.recompute { u with supply := { u.supply with base := n.toNat } }).reply 0x38 tag .ok _ = _
    rw [told, computed]
    exact congrArg (fun k => w.reply 0x38 tag .ok (b2 k)) new

end Sys2Proof.Proofs

/-! ### Idleness, DOZE and the drive stage (R193, R195 to R197) -/

namespace Sys2Proof.Laws

open Sys2Proof.Machine Sys2Proof.Safety

theorem allAxes_resting_iff {s : State} : allAxes.all (fun a => (s.ax a).motion.resting) = true ↔
    ∀ a, (s.ax a).motion = .idle ∨ (s.ax a).motion = .fault := by
  simp only [List.all_eq_true, resting_iff]
  exact ⟨fun h a => h a (mem_allAxes a), fun h a _ => h a⟩

/-- The part is idle (R195): axes at rest, runners paused or free, an empty queue, no jog window open. -/
theorem idle_iff (s : State) : s.idle = true ↔
    (∀ a, (s.ax a).motion = .idle ∨ (s.ax a).motion = .fault) ∧ (∀ r run, s.run r = some run → run.state = .paused) ∧
    s.queue = [] ∧ (∀ a op, (s.ax a).owner = .link op → op.window = none) := by
  unfold State.idle
  rw [Bool.and_eq_true, Bool.and_eq_true, Bool.and_eq_true, and_assoc, and_assoc]
  refine and_congr allAxes_resting_iff (and_congr ?runners (and_congr List.isEmpty_iff ?windows))
  case runners =>
    simp only [List.all_eq_true, mem_allRunners, forall_const]
    refine forall_congr' (fun r => ?_)
    cases s.run r <;> simp
  case windows =>
    simp only [List.all_eq_true, mem_allAxes, forall_const]
    refine forall_congr' (fun a => ?_)
    cases (s.ax a).owner <;> simp

end Sys2Proof.Laws

namespace Sys2Proof.Proofs

open Sys2Proof.Machine Sys2Proof.Laws Sys2Proof.Safety

/-- Settles O45: each event by its condition, and idleness by its four parts. -/
theorem dozeAndTheDriveStage : Obligations.DozeAndTheDriveStage := by
  unfold Obligations.DozeAndTheDriveStage
  refine ⟨fun s running => ?events, idle_iff, fun s => ⟨rfl, rfl⟩⟩
  case events =>
    intro asleep
    have due : asleep ↔ s.power.state = .active ∧ s.power.dwell.isSome ∧ s.idle := by
      rw [Option.isSome_iff_ne_none]
    have dwell : exec .idleDwellExpiry s = .next (dwellExpiryEffect s).settle := event_runs running _
    have ready : exec .driveStageReady s = .next (stageReadyEffect s).settle := event_runs running _
    rw [dwell, ready, dwellExpiryEffect, stageReadyEffect, due]
    refine ⟨fun h => ?_, fun h => ?_, fun waking awake => ?_, fun h => ?_⟩
    · rw [if_pos h]
      rfl
    · rw [if_neg h]
    · rw [if_pos ⟨waking, awake⟩]
    · rw [if_neg (fun both => h.elim (fun ready => ready both.1) (fun resetting => both.2 resetting))]

end Sys2Proof.Proofs

/-! ### POWER and the entry to SLEEP (R197) -/

namespace Sys2Proof.Laws

open Sys2Proof.Machine Sys2Proof.Safety

/-- Check 2 of R197: mode 0, three flags, and no waking by hand without the watch. -/
def GoodSleep (mode w h q : Byte) : Prop :=
  mode = 0 ∧ w.toNat ≤ 1 ∧ h.toNat ≤ 1 ∧ q.toNat ≤ 1 ∧ ¬ (h = 1 ∧ w = 0)

theorem byte_flag {b : Byte} (h : b.toNat ≤ 1) : b = 0 ∨ b = 1 := by
  rcases (show b.toNat = 0 ∨ b.toNat = 1 by omega) with zero | one
  · exact .inl ((byte_eq_iff b 0 (by decide)).mpr zero)
  · exact .inr ((byte_eq_iff b 1 (by decide)).mpr one)

theorem sleepOptsOf_good {mode w h q : Byte} (good : GoodSleep mode w h q) :
    sleepOptsOf mode w h q = some ⟨w = 1, h = 1, q = 1⟩ := by
  obtain ⟨rfl, watch, hand, quick, allowed⟩ := good
  rw [sleepOptsOf, if_pos rfl, flagOf_eq_some.mpr ⟨watch, rfl⟩, flagOf_eq_some.mpr ⟨hand, rfl⟩,
    flagOf_eq_some.mpr ⟨quick, rfl⟩]
  refine if_neg (fun unwatched => allowed ?_)
  simp only [Bool.and_eq_true, decide_eq_true_eq, Bool.not_eq_true', decide_eq_false_iff_not] at unwatched
  exact ⟨unwatched.1, (byte_flag watch).resolve_right unwatched.2⟩

theorem sleepOptsOf_bad {mode w h q : Byte} (bad : ¬ GoodSleep mode w h q) : sleepOptsOf mode w h q = none := by
  unfold sleepOptsOf
  split
  · next zero =>
    split
    · next watch hand quick =>
      rw [flagOf_eq_some] at watch hand quick
      obtain ⟨w1, rfl⟩ := watch
      obtain ⟨h1, rfl⟩ := hand
      obtain ⟨q1, rfl⟩ := quick
      have unwatched : h = 1 ∧ w = 0 := by
        by_contra allowed
        exact bad ⟨zero, w1, h1, q1, allowed⟩
      obtain ⟨rfl, rfl⟩ := unwatched
      rfl
    · rfl
  · rfl

theorem maySleep_iff {s : State} : s.maySleep = true ↔
    (∀ r, s.run r = none) ∧ ∀ a, (s.ax a).motion = .idle ∨ (s.ax a).motion = .fault := by
  rw [State.maySleep, Bool.and_eq_true, allAxes_resting_iff]
  simp only [List.all_eq_true, mem_allRunners, forall_const, Option.isNone_iff_eq_none]

/-- The channels at the entry to SLEEP are those of the ended part (R98). -/
theorem ch_enterSleep (s : State) (c : ChanNo) : s.enterSleep.ch c = (s.ch c).ended := ch_modChans s Channel.ended c

/-- Every block but the channels at the entry to SLEEP (R115, R177, R197). -/
theorem enterSleep_eq (s : State) : ∃ chans, s.enterSleep = { s with
    chans := chans, supply := s.supply.follow s.supply.shareReq,
    link := { s.link with rx := .hunt, intake := [], slot := none, tx := none },
    power := { s.power with
      state := .sleep, stage := .off, dwell := none, sleepTime := 0, sleepTicks := 0,
      wakeCause := if s.wakeLine then some .line else none } } := by
  obtain ⟨chans, h⟩ := modChans_only s Channel.ended
  exact ⟨chans, by rw [State.enterSleep, h]⟩

section Entry

variable {s : State} {o : SleepOpts}

theorem transmitEndEffect_sleeps {f : TxFrame} (opts : s.power.sleepOpts = some o) (tx : s.link.tx = some f)
    (reply : f.sleepReply = true) :
    transmitEndEffect s = State.enterSleep { s with link := { s.link with tx := none } } := by
  rw [transmitEndEffect, tx]
  exact if_pos (by simp [reply, opts])

theorem sleepEntryEffect_sleeps (opts : s.power.sleepOpts = some o) (awake : Awake s) (slot : s.link.slot = none)
    (tx : s.link.tx = none) : sleepEntryEffect s = s.enterSleep := by
  rw [sleepEntryEffect, tx]
  refine if_pos ?_
  rcases awake with h | h <;> simp [opts, slot, h]

theorem sleepEntryEffect_untaken (opts : s.power.sleepOpts = none) : sleepEntryEffect s = s := by
  rw [sleepEntryEffect, opts]
  exact if_neg (by simp)

end Entry

end Sys2Proof.Laws

namespace Sys2Proof.Proofs

open Sys2Proof.Machine Sys2Proof.Laws Sys2Proof.Safety

/-- POWER by its checks in their order (R197). -/
theorem powerTaken_answers {tag mode w h q : Byte} {s : State} (awake : s.resetting = false) :
    (¬ GoodSleep mode w h q → powerTaken tag mode w h q s = s.reply 0x3A tag .badArg []) ∧
    (GoodSleep mode w h q → s.maySleep = false → powerTaken tag mode w h q s = s.reply 0x3A tag .busy []) ∧
    (GoodSleep mode w h q → s.maySleep = true → powerTaken tag mode w h q s =
      State.reply { s with power := { s.power with sleepOpts := some ⟨w = 1, h = 1, q = 1⟩ } } 0x3A tag .ok []) := by
  refine ⟨fun bad => ?_, fun good busy => ?_, fun good quiet => ?_⟩
  · rw [powerTaken, awake, sleepOptsOf_bad bad]
    rfl
  · rw [powerTaken, awake, sleepOptsOf_good good, busy]
    rfl
  · rw [powerTaken, awake, sleepOptsOf_good good, quiet]
    rfl

/-- Settles O42: the answers by the checks, the two events that are the entry, and the entry block by block. -/
theorem powerTakesThePartToSleep : Obligations.PowerTakesThePartToSleep := by
  unfold Obligations.PowerTakesThePartToSleep
  refine ⟨fun tag mode w h q s listens => ?answers, fun s o f running opts tx reply => ?_,
    fun s o running opts awake slot tx => ?_, fun s running opts => ?_, fun s => ?entry⟩
  case answers =>
    intro u good quiet
    obtain ⟨bad, busy, taken⟩ := powerTaken_answers (tag := tag) (mode := mode) (w := w) (h := h) (q := q)
      (resetting_listens listens)
    exact ⟨fun g => exec_answers listens rfl (bad g),
      fun g n => exec_answers listens rfl (busy g (Bool.eq_false_iff.mpr (fun may => n (maySleep_iff.mp may)))),
      fun g y => exec_answers listens rfl (taken g (maySleep_iff.mpr y))⟩
  · exact (event_runs running _).trans (by rw [transmitEndEffect_sleeps opts tx reply])
  · exact (event_runs running _).trans (by rw [sleepEntryEffect_sleeps opts awake slot tx])
  · exact (event_runs running _).trans (by rw [sleepEntryEffect_untaken opts])
  case entry =>
    have chans := ch_enterSleep s
    obtain ⟨k, entered⟩ := enterSleep_eq s
    generalize s.enterSleep = v at *
    have supply : v.supply = s.supply.follow s.supply.shareReq := by rw [entered]
    rw [follow_own] at supply
    refine ⟨?_, ?_, ?_, ?_, ?_, ?_, ?_, ?_, supply, fun c =>
      ⟨fun h => (chans c).trans (ended_retired h), fun h trips => (chans c).trans (ended_free h trips)⟩, ?_, ?_, ?_, ?_, ?_⟩
    all_goals rw [entered]

end Sys2Proof.Proofs

/-! ### What leaves the supply monitor and the buffers as they are -/

namespace Sys2Proof.Safety

open Sys2Proof.Machine Sys2Proof.Laws

/-- Of the supply monitor the grant counter alone moves between two states, the intake buffer stands, and the report queue keeps
to its places: what motion control does, and every command but those that measure, set or share the supply, end a reset or a
sleep, or receive. -/
structure Undisturbed (s t : State) : Prop where
  monitor : t.supply = { s.supply with grantCounter := t.supply.grantCounter }
  intake : t.link.intake = s.link.intake
  reports : s.link.reports.length ≤ Config.reportQueueSize → t.link.reports.length ≤ Config.reportQueueSize

section Relation

variable {F : Prop} {s t u : State}

theorem Undisturbed.write (supply : t.supply = s.supply) (intake : t.link.intake = s.link.intake)
    (reports : t.link.reports = s.link.reports) : Undisturbed s t where
  monitor := by rw [supply]
  intake := intake
  reports := fun h => by rwa [reports]

theorem Undisturbed.refl (s : State) : Undisturbed s s := .write rfl rfl rfl

theorem Undisturbed.trans (h : Undisturbed s t) (k : Undisturbed t u) : Undisturbed s u where
  monitor := by rw [k.monitor, h.monitor]
  intake := k.intake.trans h.intake
  reports := k.reports ∘ h.reports

theorem Controls.undisturbed (h : Controls F s t) : Undisturbed s t := ⟨h.supply, h.intake, h.reports⟩

/-- Control may follow. -/
theorem Undisturbed.controls (h : Undisturbed s t) (k : Controls F t u) : Undisturbed s u := h.trans k.undisturbed

theorem Undisturbed.ite {p : Prop} [Decidable p] (h : Undisturbed s t) (k : Undisturbed s u) :
    Undisturbed s (if p then t else u) := by
  split
  · exact h
  · exact k

theorem Undisturbed.foldl {α : Type} (s : State) (l : List α) (f : State → α → State)
    (hf : ∀ t a, Undisturbed t (f t a)) : Undisturbed s (l.foldl f s) :=
  foldl_rel Undisturbed.refl Undisturbed.trans l f hf s

/-- The axes may be anything. -/
theorem Undisturbed.modAx (s : State) (a : AxisNo) (f : Axis → Axis) : Undisturbed s (s.modAx a f) := .write rfl rfl rfl

theorem Undisturbed.modAll (s : State) (as : List AxisNo) (f : Axis → Axis) : Undisturbed s (s.modAll as f) :=
  .foldl s as _ (fun t a => .modAx t a f)

theorem Undisturbed.modChans (s : State) (f : Channel → Channel) : Undisturbed s (s.modChans f) :=
  .foldl s _ _ (fun _ _ => .write rfl rfl rfl)

theorem Undisturbed.report (s : State) (r : Report) : Undisturbed s (s.report r) :=
  ((Controls.refl (F := False) s).report r).undisturbed

theorem Undisturbed.reply (h : Undisturbed s t) (k tag : Byte) (r : Result) (d : List Byte) :
    Undisturbed s (t.reply k tag r d) := h.trans (.write rfl rfl rfl)

theorem Undisturbed.handOn (s : State) (a : AxisNo) (old : Option Nat) : Undisturbed s (s.handOn a old) :=
  ((Controls.refl (F := True) s).handOn trivial a old).undisturbed

theorem Undisturbed.suspect (s : State) (a : AxisNo) (c : RefCause) : Undisturbed s (s.suspect a c) :=
  ((Controls.refl (F := True) s).suspect trivial a c).undisturbed

end Relation

/-! #### The work of the requests -/

section Requests

variable (s : State)

/-- A reply changes nothing else. -/
theorem reply_undisturbed (k tag : Byte) (r : Result) (d : List Byte) : Undisturbed s (s.reply k tag r d) :=
  (Undisturbed.refl s).reply k tag r d

theorem enterDoze_undisturbed : Undisturbed s s.enterDoze := by
  have cleared := Undisturbed.modAll s allAxes (fun x => { x with escalated := false })
  unfold State.enterDoze
  generalize s.modAll allAxes (fun x => { x with escalated := false }) = t at cleared ⊢
  exact cleared.trans (.write rfl rfl rfl)

theorem applySetup_undisturbed (v : Setup) : Undisturbed s (s.applySetup v) := by
  have dwell (u : State) (n : Nat) : Undisturbed u (u.newDwell n) := by
    unfold State.newDwell
    split
    · exact .refl u
    · exact .ite (enterDoze_undisturbed u) (.refl u)
  have timeout (u : State) (n : Nat) : Undisturbed u (u.newBlockTimeout n) :=
    .foldl u _ _ (fun t a => .ite ((Controls.refl (F := False) t).blockExpires a).undisturbed (.refl t))
  unfold State.applySetup
  dsimp only
  generalize hu : ({ s with link := { s.link with setup := v, cadence := _ } } : State) = u
  have stored : Undisturbed s u := by rw [← hu]; exact .write rfl rfl rfl
  have expired := Undisturbed.ite (p := v.blockTimeout = s.link.setup.blockTimeout) stored
    (stored.trans (timeout u v.blockTimeout))
  exact .ite expired (expired.trans (dwell _ _))

theorem resetMotion_undisturbed (a : AxisNo) : Undisturbed s (s.resetMotion a) := by
  unfold State.resetMotion
  split
  all_goals exact .write rfl rfl rfl

theorem modRuns_undisturbed (f : Run → Run) : Undisturbed s (s.modRuns f) :=
  .foldl s _ _ (fun _ _ => .write rfl rfl rfl)

theorem startReset_undisturbed : Undisturbed s s.startReset := by
  have stopped := Undisturbed.foldl s allAxes State.resetMotion resetMotion_undisturbed
  have halted := (stopped.trans (.modAll _ allAxes Axis.atReset)).trans (modRuns_undisturbed _ Run.atReset)
  unfold State.startReset
  dsimp only
  generalize State.modRuns _ Run.atReset = t at halted ⊢
  exact halted.trans (.write rfl rfl rfl)

theorem reposition_undisturbed (a : AxisNo) (old : Option AxisConfig) (c : AxisConfig) :
    Undisturbed s (s.reposition a old c) := by
  have lost := Undisturbed.modAx s a (fun x => { x with ref := .unknown, pos := none, overrun := 0 })
  have cut := Undisturbed.modAx s a (fun x => { x with lashRem := min x.lashRem c.lash })
  exact .ite (.ite ((cut.trans (.modAx _ a _)).trans (.suspect _ a _)) cut)
    (Undisturbed.trans (.ite lost (lost.trans (.report _ _))) (.handOn _ a _))

theorem setConfig_undisturbed (a : AxisNo) (c : AxisConfig) : Undisturbed s (s.setConfig a c) :=
  (Undisturbed.modAx s a _).trans (reposition_undisturbed _ a _ c)

theorem scales_undisturbed (g : Fin 3) (n : Nat) :
    Undisturbed s (State.clearEscalation { s with store := { s.store with scales := s.store.scales.set g n } } g) := by
  have stored : Undisturbed s { s with store := { s.store with scales := s.store.scales.set g n } } := .write rfl rfl rfl
  exact stored.trans (.foldl _ _ _ (fun t a => .ite (.modAx t a _) (.refl t)))

theorem startRun_undisturbed (r : RunnerNo) (n : SlotNo) : Undisturbed s (s.startRun r n) := by
  have claimed := ((Controls.refl (F := False) s).setRun r (some (s.newRun n))).modAll (s.newRun n).claim
    (fun x => { x with owner := .runner r }) (fun x => by exact { KeptAxis.refl x with })
  exact ((claimed.setMarks _).notIdle.judgeRun r _).undisturbed

/-- A jog repeated, refused or reversed. -/
theorem jogAgain_undisturbed (tag : Byte) (a : AxisNo) (op : LinkOp) (d : Dir) (n : Option Nat) :
    Undisturbed s (s.jogAgain tag a op d n) := by
  have c := Controls.refl (F := False) s
  exact .ite (reply_undisturbed s _ _ _ _) (.ite (.ite ((c.modOp a _).undisturbed.reply _ _ _ _)
    (reply_undisturbed s _ _ _ _)) ((c.reverseJog a d n).undisturbed.reply _ _ _ _))

/-- Every request but BUDGET_SET: a reply with nothing changed in most branches, else the work of the request and its reply. -/
theorem takeRequest_undisturbed (i : Instr) (other : ∀ tag b, i ≠ .budgetSet tag b) : Undisturbed s (takeRequest i s) := by
  have c := Controls.refl (F := False) s
  have refused := reply_undisturbed s
  cases i with
  | budgetSet tag b => exact absurd rfl (other tag b)
  | setup tag w c b d =>
    simp only [takeRequest, setupTaken]
    repeat' split
    any_goals exact refused _ _ _ _
    exact (applySetup_undisturbed s _).reply _ _ _ _
  | reset tag => exact .ite (refused _ _ _ _) ((startReset_undisturbed s).reply _ _ _ _)
  | axisSet tag a args =>
    simp only [takeRequest, axisSetTaken]
    repeat' split
    any_goals exact refused _ _ _ _
    exact (setConfig_undisturbed s _ _).reply _ _ _ _
  | ack tag a =>
    simp only [takeRequest, ackTaken]
    repeat' split
    any_goals exact refused _ _ _ _
    exact (Undisturbed.modAx s _ _).reply _ _ _ _
  | jog tag a d m n =>
    simp only [takeRequest, jogTaken]
    repeat' split
    any_goals exact refused _ _ _ _
    · exact jogAgain_undisturbed s _ _ _ _ _
    · exact (c.startJog _ _ _).undisturbed.reply _ _ _ _
  | home tag a =>
    simp only [takeRequest, homeTaken]
    repeat' split
    any_goals exact refused _ _ _ _
    exact (c.startHome _).undisturbed.reply _ _ _ _
  | check tag a =>
    simp only [takeRequest, checkTaken]
    repeat' split
    any_goals exact refused _ _ _ _
    exact (c.startCheck _).undisturbed.reply _ _ _ _
  | scaleSet tag g f =>
    simp only [takeRequest, scaleSetTaken]
    repeat' split
    any_goals exact refused _ _ _ _
    exact (scales_undisturbed s _ _).reply _ _ _ _
  | run tag sl =>
    simp only [takeRequest, runTaken]
    repeat' split
    any_goals exact refused _ _ _ _
    exact (startRun_undisturbed s _ _).reply _ _ _ _
  | pause tag r =>
    simp only [takeRequest, pauseTaken]
    repeat' split
    any_goals exact refused _ _ _ _
    all_goals exact ((c.pauseFor _ _).passSince s).undisturbed.reply _ _ _ _
  | resume tag r =>
    simp only [takeRequest, resumeTaken]
    repeat' split
    any_goals exact refused _ _ _ _
    exact (c.setRun _ _).notIdle.undisturbed.reply _ _ _ _
  | halt tag r =>
    simp only [takeRequest, haltTaken]
    repeat' split
    any_goals exact refused _ _ _ _
    all_goals exact (c.haltRunner _ _).notIdle.undisturbed.reply _ _ _ _
  | mark tag m a =>
    simp only [takeRequest, markTaken]
    repeat' split
    any_goals exact refused _ _ _ _
    · exact (c.clearMark _).undisturbed.reply _ _ _ _
    · exact (c.setMark _).engine.undisturbed.reply _ _ _ _
  | ident | unknownKind => exact refused _ _ _ _
  | status => exact .write rfl rfl rfl
  | axisGet | profileWrite | profileRead | profileSwap | keepoutSet | keepoutGet | planWrite | planRead | planDefine | runGet
  | power =>
    simp only [takeRequest, axisGetTaken, profileWriteTaken, profileReadTaken, profileSwapTaken, keepoutSetTaken,
      keepoutGetTaken, planWriteTaken, planReadTaken, planDefineTaken, runGetTaken, powerTaken,
      State.setProfile]
    repeat' split
    all_goals exact .write rfl rfl rfl
  | _ => exact .refl s

end Requests

end Sys2Proof.Safety

namespace Sys2Proof.Safety

open Sys2Proof.Machine Sys2Proof.Laws

/-! #### The ends of stops -/

section Motion

variable (s : State)

theorem checkRest_undisturbed (as : List AxisNo) : Undisturbed s (s.checkRest as) := by
  unfold State.checkRest
  dsimp only
  generalize as.map (fun a => (a, (s.ax a).check.map CheckRec.result, (s.chanOf a).getD 0)) = ended
  have idle := (((Controls.refl (F := False) s).releaseAll as).modAll as _ (KeptAxis.toIdle false)).undisturbed
  generalize (s.releaseAll as).modAll as (Axis.toIdle false) = t at idle ⊢
  have noted := idle.trans (.foldl t ended (fun t p => t.modAx p.1 (fun x => { x with lastCheck := p.2.1 }))
    (fun u p => .modAx u p.1 _))
  generalize ended.foldl (fun t p => t.modAx p.1 (fun x => { x with lastCheck := p.2.1 })) t = u at noted ⊢
  have opened := noted.controls (((Controls.refl (F := False) u).passSince s).foldl ended
    (fun t p => if p.2.1 = some .opened then t.raiseFault p.1 .opened (.channel p.2.2) none none else t)
    (fun _ p hu => .ite (hu.raiseFault p.1 _ _ _ _) hu))
  split
  · exact opened
  · exact opened.controls ((Controls.refl (F := False) _).tellOutcome _ _ _)

theorem concludeStop_undisturbed (as : List AxisNo) : Undisturbed s (s.concludeStop as) := by
  have c := Controls.refl (F := False) s
  have released := c.releaseAll as
  have rested := ((released.modAll as _ KeptAxis.rested).passSince s).undisturbed
  exact .ite rested (.ite (released.blockedRest as).undisturbed (.ite (released.heldRest as).undisturbed (.ite rested
    (.ite (c.reversalRest as).undisturbed (.ite (checkRest_undisturbed s as) (released.finish as _).engine.undisturbed)))))

theorem arrive_undisturbed (a : AxisNo) : Undisturbed s (s.arrive a) := by
  have arrived := Undisturbed.modAx s a (fun x =>
    { x with stop := x.stop.map (fun st => { st with arrived := true, ramping := false }) })
  exact .ite ((arrived.trans (concludeStop_undisturbed _ _)).controls
    ((Controls.refl (F := True) _).cameToRest trivial a _)) arrived

theorem turn_undisturbed (a : AxisNo) (r : StopReq) : Undisturbed s (s.turn a r) := by
  have turned := (Controls.refl (F := False) s).modAx a (fun x =>
    { x with stop := x.stop.map (fun st => { st with dest := r.dest }) }) (fun x => by exact { KeptAxis.refl x with })
  refine Undisturbed.trans (Controls.passSince (F := False) ?_ s).undisturbed (arrive_undisturbed _ a)
  split
  · exact turned
  · exact .ite turned (turned.stopAxis _ r)

theorem evaluate_undisturbed (a : AxisNo) (m : MoveRec) (c : Corr) : Undisturbed s (s.evaluate a m c) := by
  have note (o : MoveOutcome) := (Undisturbed.modAx s a (fun x => { x with noted := some o })).trans (arrive_undisturbed _ a)
  unfold State.evaluate
  dsimp only
  split
  · exact note _
  · refine .ite (note _) (.ite (note _) ?_)
    split
    · exact turn_undisturbed s a _
    · exact turn_undisturbed s a _
    · split
      · exact note _
      · split
        · exact turn_undisturbed s a _
        · exact ((Controls.refl (F := False) s).enterCorrect a _).undisturbed

theorem standstillStopping_undisturbed (a : AxisNo) (st : Stop) : Undisturbed s (s.standstillStopping a st) := by
  unfold State.standstillStopping
  split
  · exact evaluate_undisturbed s a _ _
  · exact arrive_undisturbed s a

/-! #### Stalls and pulses -/

theorem resync_undisturbed (a : AxisNo) (d : Dir) : Undisturbed s (s.resync a d) := by
  have placed : Undisturbed s (s.setAtBound a d) := .write rfl rfl rfl
  exact .ite placed (placed.trans (.report _ _))

theorem homeAt_undisturbed (a : AxisNo) (d : Dir) : Undisturbed s (s.homeAt a d) := by
  have placed : Undisturbed s (s.setAtBound a d) := .write rfl rfl rfl
  exact (placed.trans (.modAx _ a _)).trans (.report _ _)

theorem stallDriving_undisturbed (a : AxisNo) : Undisturbed s (s.stallDriving a) := by
  have c := Controls.refl (F := False) s
  have stopped (o : MoveOutcome) : Undisturbed s _ := (c.stallStop a o).undisturbed
  unfold State.stallDriving
  dsimp only
  split
  · exact ((stopped _).trans (homeAt_undisturbed _ a _)).trans (.handOn _ a _)
  · split
    · split
      · exact ((stopped _).trans (resync_undisturbed _ a _)).trans (.handOn _ a _)
      · exact (c.obstruct a _).undisturbed
    · exact stopped _

theorem stallReversing_undisturbed (a : AxisNo) : Undisturbed s (s.stallReversing a) := by
  have c := Controls.refl (F := False) s
  have cut : Undisturbed s _ := ((c.cutBackoff a .coast).passSince s).undisturbed
  unfold State.stallReversing
  dsimp only
  split
  · split
    · exact (cut.trans (resync_undisturbed _ a _)).trans (.handOn _ a _)
    · exact (c.obstruct a _).undisturbed
  · exact cut

theorem pulseEnd_undisturbed (a : AxisNo) (n : Nat) : Undisturbed s (pulseEnd a n s) := by
  have pulsed (f : Axis → Axis) := Undisturbed.modAx s a f
  unfold pulseEnd
  dsimp only
  repeat' split
  · exact (pulsed _).controls (((Controls.refl (F := False) _).blockGang a _ _).passSince _)
  · exact pulsed _
  · exact (pulsed _).controls ((Controls.refl (F := False) _).startStop a _ _)
  all_goals exact .refl s

/-! #### Counts -/

theorem noStop_undisturbed (a : AxisNo) (k : FaultKind) (e : Cause) (r : RefCause) : Undisturbed s
    ((((s.modAx a (fun x => { x with noStop := true })).raiseFault a k e none none).suspect a r).passSince s) :=
  (Undisturbed.modAx s a _).controls
    ((((Controls.refl (F := True) _).raiseFault a _ _ _ _).suspect trivial a _).passSince s)

theorem overrunLimit_undisturbed (a : AxisNo) (d : Dir) : Undisturbed s (s.overrunLimit a d) :=
  .ite (.refl s) (.ite (.ite (.refl s) (noStop_undisturbed s a _ _ _)) (.suspect s a _))

theorem applyCount_undisturbed (a : AxisNo) (d : Dir) : Undisturbed s (s.applyCount a d) := by
  unfold State.applyCount
  dsimp only
  split
  · next c _ _ _ =>
    have lashed := Undisturbed.modAx s a (fun x =>
      { x with lashDir := d, lashRem := (countLash c.lash (s.ax a).lashDir (s.ax a).lashRem d).1 })
    split
    · split
      · next q o _ =>
        have counted := lashed.trans (.modAx _ a (fun x => { x with pos := some q, overrun := o }))
        exact .ite counted (counted.controls ((Controls.refl (F := True) _).positionChange trivial a _ _))
      · exact lashed.trans (overrunLimit_undisturbed _ a d)
    · exact lashed
  · exact .refl s

theorem backoffCount_undisturbed (a : AxisNo) (d : Dir) (old : Option Nat) : Undisturbed s (s.backoffCount a d old) := by
  unfold State.backoffCount
  dsimp only
  split
  · exact .ite (.modAx s a _) (.refl s)
  · exact .refl s

theorem count_undisturbed (a : AxisNo) (d : Dir) : Undisturbed s (s.count a d) := by
  have hand : Undisturbed s (s.handCount a d) := .ite (.modAx s a _) (.refl s)
  have search (u : State) : Undisturbed u (u.searchCount a d) := .ite (.modAx u a _) (.refl u)
  have ramp (u : State) : Undisturbed u (u.rampCount a d) := .modAx u a _
  have limit (u : State) : Undisturbed u (u.checkSearch a) := .ite (noStop_undisturbed u a _ _ _) (.refl u)
  have counted := (((((hand.trans (search _)).trans (ramp _)).trans (applyCount_undisturbed _ a d)).trans (limit _)).trans
    (backoffCount_undisturbed _ a d (s.ax a).pos))
  exact .ite (counted.controls ((Controls.refl (F := False) _).advance a)) counted

theorem wakeBy_undisturbed (c : WakeCause) : Undisturbed s (s.wakeBy c) := .ite (.write rfl rfl rfl) (.refl s)

theorem hallEffect_undisturbed (a : AxisNo) (step : HallStep) : Undisturbed s (hallEffect a step s) := by
  have woken : Undisturbed s s.wakeByHand := by
    unfold State.wakeByHand
    split
    · exact .ite (wakeBy_undisturbed s _) (.refl s)
    · exact .refl s
  unfold hallEffect
  split
  · split
    · exact woken.trans (count_undisturbed _ a _)
    · exact (Undisturbed.modAx s a _).trans (.suspect _ a _)
  · exact .refl s

end Motion

/-! #### The other events -/

section Events

variable (s : State)

theorem settleCloseEffect_undisturbed (c : ChanNo) : Undisturbed s (settleCloseEffect c s) := by
  unfold settleCloseEffect
  split
  · exact .ite ((concludeStop_undisturbed s _).controls ((Controls.refl (F := True) _).cameToRest trivial _ _))
      ((Controls.refl (F := True) s).engaged trivial _ _).undisturbed
  · exact .refl s

theorem setCh_undisturbed (c : ChanNo) (x : Channel) : Undisturbed s (s.setCh c x) := .write rfl rfl rfl

theorem settleOpenEffect_undisturbed (c : ChanNo) : Undisturbed s (settleOpenEffect c s) := by
  unfold settleOpenEffect
  dsimp only
  split
  · exact (setCh_undisturbed s c _).controls (Controls.refl (F := False) _).grantPass
  · exact .ite (setCh_undisturbed s c _) (.refl s)
  · exact .refl s

theorem shortTripEffect_undisturbed (c : ChanNo) : Undisturbed s (shortTripEffect c s) := by
  unfold shortTripEffect
  split
  · next a _ _ =>
    exact ((setCh_undisturbed s c _).trans (.modAx _ a _)).controls
      (((Controls.refl (F := False) _).raiseFault a _ _ _ _).passSince s)
  · exact .refl s

theorem cooldownEffect_undisturbed (c : ChanNo) : Undisturbed s (cooldownEffect c s) := by
  have cooled := setCh_undisturbed s c (s.ch c).cooled
  have k := Controls.refl (F := False) (s.setCh c (s.ch c).cooled)
  exact .ite (.ite (cooled.controls ((k.strand c).passSince _)) (cooled.controls k.grantPass)) (.refl s)

theorem afterExpiryEffect_undisturbed (r : RunnerNo) (i g : Nat) : Undisturbed s (afterExpiryEffect r i g s) := by
  unfold afterExpiryEffect
  split
  · exact .refl s
  · exact .ite (.write rfl rfl rfl) (.refl s)

theorem timeoutEffect_undisturbed (r : RunnerNo) : Undisturbed s (timeoutEffect r s) := by
  unfold timeoutEffect
  split
  · exact .refl s
  · exact .ite ((Controls.refl (F := False) s).haltRunner r _).undisturbed (.refl s)

/-- Runners pause and link operations end, with the pass that follows: the silence of the link and the inhibit line. -/
theorem interrupt_undisturbed (why : Reason) (which : LinkOp → Bool) (o : MoveOutcome) : Undisturbed s
    (((allRunners.foldl (fun t r => t.pauseActive r why) s).endLinkOps which o).passSince s) :=
  ((((Controls.refl (F := False) s).foldl allRunners _ (fun _ r hu => hu.pauseActive r why)).endLinkOps which o).passSince
    s).undisturbed

theorem inhibitEffect_undisturbed (level : Bool) : Undisturbed s (inhibitEffect level s) := by
  have raised : Undisturbed s { s with inhibit := true } := .write rfl rfl rfl
  exact .ite (.refl s) (.ite (raised.trans (interrupt_undisturbed _ _ _ _)) (.write rfl rfl rfl))

theorem lapseEffect_undisturbed : Undisturbed s (lapseEffect s) := by
  unfold lapseEffect
  split
  · have lapsed : Undisturbed s { s with link := { s.link with supervision := .lapsed } } := .write rfl rfl rfl
    exact lapsed.trans (interrupt_undisturbed _ _ _ _)
  · exact .refl s
  · exact .refl s

theorem cadenceEffect_undisturbed : Undisturbed s (cadenceEffect s) := by
  have restarted : Undisturbed s { s with link := { s.link with cadence := some 0 } } := .write rfl rfl rfl
  unfold cadenceEffect
  split
  · exact .refl s
  · exact restarted.trans (.report _ _)

theorem heatAxis_undisturbed (a : AxisNo) : Undisturbed s (s.heatAxis a) := by
  have closed : Undisturbed s (s.closeInterval a) := .write rfl rfl rfl
  unfold State.heatAxis
  split
  · exact .refl s
  · dsimp only
    generalize s.closeInterval a = u at closed ⊢
    have counted : Undisturbed u { u with freeIndex := u.freeIndex + 1 } := .write rfl rfl rfl
    exact Undisturbed.trans (.ite closed (closed.trans counted)) (.modAx _ a _)

theorem tickTimers_undisturbed : Undisturbed s s.tickTimers := by
  have owners := (modRuns_undisturbed s Run.tick).trans (.modAll _ allAxes (fun x => { x with owner := x.owner.tick }))
  unfold State.tickTimers
  dsimp only
  generalize (s.modRuns Run.tick).modAll allAxes (fun x => { x with owner := x.owner.tick }) = u at owners ⊢
  have links := Undisturbed.trans owners (.ite (p := u.power.state = .active) (.modAll u allAxes (fun x =>
    { x with link := x.link.map (BlockLink.tick (u.link.setup.blockTimeout * 1000)) })) (.refl u))
  generalize (if u.power.state = .active then _ else u) = v at links ⊢
  have cooled := links.trans (.modChans v (fun c => { c with cooldown := c.cooldown.map (fun t => t - 10) }))
  generalize v.modChans (fun c => { c with cooldown := c.cooldown.map (fun t => t - 10) }) = w at cooled ⊢
  exact cooled.trans (.write rfl rfl rfl)

theorem heatTickEffect_undisturbed : Undisturbed s (heatTickEffect s) := by
  have opened (u : State) : Undisturbed u u.openIntervals := .foldl u _ _ (fun t a => .modAx t a _)
  have ticked := (((Undisturbed.foldl s allAxes State.heatAxis heatAxis_undisturbed).controls
    ((Controls.refl (F := False) _).raiseOverheats s)).trans (opened _)).trans (tickTimers_undisturbed _)
  have asleep : Undisturbed s s.tickSleep := by
    unfold State.tickSleep
    split
    · exact .refl s
    · exact .ite (.write rfl rfl rfl) (.write rfl rfl rfl)
  unfold heatTickEffect
  split
  · exact .refl s
  · exact asleep
  all_goals exact ticked

theorem wakeEffect_undisturbed (w : WakeSource) : Undisturbed s (wakeEffect w s) := by
  unfold wakeEffect
  split
  · exact wakeBy_undisturbed s _
  · next level =>
    have taken : Undisturbed s { s with wakeLine := level } := .write rfl rfl rfl
    exact .ite (taken.trans (wakeBy_undisturbed _ _)) taken
  · exact .ite (wakeBy_undisturbed s _) (.refl s)

theorem stageReadyEffect_undisturbed : Undisturbed s (stageReadyEffect s) := by
  have ready : Undisturbed s { s with power := { s.power with stage := .ready } } := .write rfl rfl rfl
  exact .ite (ready.controls (Controls.refl (F := False) _).grantPass) (.refl s)

theorem initEndEffect_undisturbed : Undisturbed s (initEndEffect s) := by
  have active : Undisturbed s { s with power := { s.power with state := .active } } := .write rfl rfl rfl
  exact .ite ((active.trans (.report _ _)).trans (.report _ _)) (.refl s)

theorem frameHeard_undisturbed : Undisturbed s s.frameHeard := by
  rw [frameHeard_eq]
  exact .write rfl rfl rfl

end Events

end Sys2Proof.Safety

/-! ### The law of the available budget -/

namespace Sys2Proof.Safety

open Sys2Proof.Machine Sys2Proof.Laws

section Law

variable {s t : State}

theorem BudgetLawful.of_supply (law : BudgetLawful s) (h : t.supply = s.supply) : BudgetLawful t := by
  unfold BudgetLawful
  rw [h]
  exact law

/-- The law does not read the grant counter. -/
theorem BudgetLawful.undisturbed (law : BudgetLawful s) (h : Undisturbed s t) : BudgetLawful t := by
  unfold BudgetLawful
  rw [h.monitor]
  exact law

/-- What follows the computing afresh is control: a grant pass or a revocation (R104, R107). -/
theorem recompute_controls (s : State) : Controls False { s with supply := { s.supply with
    avail := availOf s.supply.base s.supply.band s.supply.thermal s.supply.handshake } } s.recompute := by
  have c := Controls.refl (F := False) { s with supply := { s.supply with
    avail := availOf s.supply.base s.supply.band s.supply.thermal s.supply.handshake } }
  exact .ite c.grantPass (.ite c.revoke c)

/-- The law holds wherever the available budget has been computed afresh. -/
theorem recompute_budgetLawful (s : State) : BudgetLawful s.recompute := by
  have computed : BudgetLawful { s with supply := { s.supply with
      avail := availOf s.supply.base s.supply.band s.supply.thermal s.supply.handshake } } := rfl
  exact computed.undisturbed (recompute_controls s).undisturbed

/-! #### The settling and the two forms of a meaning -/

/-- DRAINING and YIELDED both leave no budget (R104, R114). -/
theorem yieldShare_budgetLawful (law : BudgetLawful s) : BudgetLawful s.yieldShare := by
  have yielded : BudgetLawful { s with supply := { s.supply with handshake := .yielded, shareAck := true, avail := 0 } } := rfl
  unfold State.yieldShare
  split
  · exact yielded.undisturbed (.report _ _)
  · exact law

theorem completeReset_budgetLawful (law : BudgetLawful s) : BudgetLawful s.completeReset := by
  by_cases due : s.power.state = .resetting ∧ s.nothingMoves = true
  · obtain ⟨resetting, still⟩ := due
    obtain ⟨axes, chans, anew⟩ := restarted_eq s
    have restarted : BudgetLawful (restarted s) := by
      rw [anew]
      rfl
    rw [completeReset_due resetting (nothingMoves_iff.mp still)]
    exact restarted.undisturbed ((Undisturbed.report _ _).trans (.report _ _))
  · rw [State.completeReset, if_neg due]
    exact law

theorem settle_budgetLawful (law : BudgetLawful s) : BudgetLawful s.settle := by
  have concluded : BudgetLawful s.engine.restRunners.concludeOps :=
    law.undisturbed (Controls.conclude (Controls.refl (F := False) s)).undisturbed
  unfold State.settle
  split
  · exact law
  · exact (completeReset_budgetLawful (yieldShare_budgetLawful concluded)).of_supply (clocks_supply _)

theorem offerFrame_budgetLawful (law : BudgetLawful s) (f : Frame) {taken : State → State}
    (ht : ∀ u, BudgetLawful u → BudgetLawful (taken u)) : BudgetLawful (s.offerFrame f taken) := by
  have heard := law.undisturbed (frameHeard_undisturbed s)
  unfold State.offerFrame State.admitFrame
  dsimp only
  split
  · exact ht _ heard
  · split
    · exact heard.of_supply rfl
    · exact heard

/-- A request keeps the law where its taking does. -/
theorem offer_budgetLawful (law : BudgetLawful s) (f : Option Frame) {taken : State → State}
    (ht : ∀ u, BudgetLawful u → BudgetLawful (taken u)) : BudgetLawful (s.offer f taken) := by
  unfold State.offer
  split
  · exact law
  · split
    · exact law
    · exact settle_budgetLawful (law.undisturbed (wakeBy_undisturbed s .link))
    all_goals
      split
      · exact law
      · exact settle_budgetLawful (offerFrame_budgetLawful law _ ht)

/-- An event keeps the law where its effect does. -/
theorem event_budgetLawful (law : BudgetLawful s) {effect : State → State} (e : s.event effect = .next t)
    (he : BudgetLawful (effect s)) : BudgetLawful t := by
  cases e
  split
  · exact law
  · exact settle_budgetLawful he

/-- An event that leaves the supply monitor alone keeps the law. -/
theorem event_undisturbed (law : BudgetLawful s) {effect : State → State} (e : s.event effect = .next t)
    (h : Undisturbed s (effect s)) : BudgetLawful t := event_budgetLawful law e (law.undisturbed h)

/-! #### Requests and frames -/

theorem takeRequest_budgetLawful (law : BudgetLawful s) (i : Instr) : BudgetLawful (takeRequest i s) := by
  by_cases set : ∃ tag b, i = .budgetSet tag b
  · obtain ⟨tag, b, rfl⟩ := set
    simp only [takeRequest, budgetSetTaken]
    repeat' split
    · exact law.of_supply rfl
    · exact law.of_supply rfl
    · exact (recompute_budgetLawful _).of_supply rfl
  · exact law.undisturbed (takeRequest_undisturbed s i (fun tag b e => set ⟨tag, b, e⟩))

theorem takeFrame_budgetLawful (law : BudgetLawful s) (f : Frame) : BudgetLawful (takeFrame f s) := by
  unfold takeFrame
  split
  · exact takeRequest_budgetLawful law _
  · exact law.of_supply rfl
  · exact law.of_supply rfl

theorem enterSleep_budgetLawful (s : State) : BudgetLawful s.enterSleep := by
  obtain ⟨chans, entered⟩ := enterSleep_eq s
  rw [entered]
  rfl

theorem sleepEntryEffect_budgetLawful (law : BudgetLawful s) : BudgetLawful (sleepEntryEffect s) := by
  unfold sleepEntryEffect
  extract_lets sent
  split
  · exact enterSleep_budgetLawful s
  · exact law

theorem takeNext_budgetLawful (law : BudgetLawful s) : BudgetLawful s.takeNext := by
  unfold State.takeNext
  split
  · split
    · exact law
    · next f fs _ =>
      have taken : BudgetLawful { s with link := { s.link with intake := fs } } := law
      exact takeFrame_budgetLawful taken f
  · exact law

theorem transmitEndEffect_budgetLawful (law : BudgetLawful s) : BudgetLawful (transmitEndEffect s) := by
  unfold transmitEndEffect
  split
  · exact law
  · have idle : BudgetLawful { s with link := { s.link with tx := none } } := law
    dsimp only
    split
    · exact enterSleep_budgetLawful _
    · exact takeNext_budgetLawful (idle.of_supply (startTx_kept _).supply)

theorem byteEffect_budgetLawful (law : BudgetLawful s) (b : Byte) (e : Bool) : BudgetLawful (byteEffect b e s) := by
  have stored (rx : Rx) : BudgetLawful (s.setRx rx) := law
  have received : BudgetLawful (s.receive b e) := by
    unfold State.receive
    dsimp only
    split
    · exact stored _
    · split
      · exact stored _
      · next f _ => exact offerFrame_budgetLawful (stored _) f (fun u hu => takeFrame_budgetLawful hu f)
  unfold byteEffect
  split
  · exact law
  · exact law.undisturbed (wakeBy_undisturbed s _)
  all_goals exact received

/-! #### The events of the supply monitor and of the wake -/

/-- A voltage sample moves the band and its counts alone (R102). -/
theorem bandSample_eq (m : Supply) (mv : Nat) : ∃ band falling rising deep, bandSample m mv =
    { m with band := band, falling := falling, rising := rising, fallDeep := deep } := by
  unfold bandSample
  dsimp only
  repeat' split
  all_goals exact ⟨_, _, _, _, rfl⟩

/-- A temperature sample moves the thermal state and its counts alone (R103). -/
theorem thermalSample_eq (m : Supply) (n : Int) : ∃ thermal heating cooling deep, thermalSample m n =
    { m with thermal := thermal, heating := heating, cooling := cooling, heatDeep := deep } := by
  unfold thermalSample
  dsimp only
  repeat' split
  all_goals exact ⟨_, _, _, _, rfl⟩

theorem supplyChange_undisturbed (s : State) (c : SupplyCause) : Undisturbed s (s.supplyChange c) :=
  .ite (.refl s) (.report _ _)

/-- A sample that leaves the band leaves the law; a change of it computes the budget afresh. -/
theorem sampleVoltage_budgetLawful (law : BudgetLawful s) (mv : Nat) : BudgetLawful (s.sampleVoltage mv) := by
  obtain ⟨band, falling, rising, deep, sampled⟩ := bandSample_eq s.supply mv
  unfold State.sampleVoltage
  rw [sampled]
  dsimp only
  split
  · next same =>
    cases same
    exact law
  · exact (recompute_budgetLawful _).undisturbed (supplyChange_undisturbed _ _)

theorem sampleTemperature_budgetLawful (law : BudgetLawful s) (n : Int) : BudgetLawful (s.sampleTemperature n) := by
  obtain ⟨thermal, heating, cooling, deep, sampled⟩ := thermalSample_eq s.supply n
  unfold State.sampleTemperature
  rw [sampled]
  dsimp only
  split
  · next same =>
    cases same
    exact law
  · exact (recompute_budgetLawful _).undisturbed (supplyChange_undisturbed _ _)

/-- SHARE_REQ taken, and every revocable grant revoked (R114). -/
def drained (s : State) : State :=
  State.revoke { s with supply := { s.supply with shareReq := true, handshake := .draining, avail := 0 } }

/-- The handshake YIELDED, SHARE_ACK asserted (R114). -/
def yielded (s : State) : State := { s with supply := { s.supply with handshake := .yielded, shareAck := true } }

theorem drained_supply (s : State) : (drained s).supply = { s.supply with
    shareReq := true, handshake := .draining, avail := 0, grantCounter := (drained s).supply.grantCounter } :=
  (Controls.refl (F := False) _).revoke.supply

theorem shareAsserted_eq (s : State) : s.shareAsserted =
    State.supplyReport (if (drained s).nothingMoves then yielded (drained s) else drained s) .share := rfl

/-- A request leaves no budget, DRAINING or YIELDED (R104, R114). -/
theorem shareAsserted_budgetLawful (s : State) : BudgetLawful s.shareAsserted := by
  have supply := drained_supply s
  rw [shareAsserted_eq]
  generalize drained s = u at supply ⊢
  refine BudgetLawful.undisturbed ?_ (.report _ _)
  split
  · show u.supply.avail = 0
    rw [supply]
  · unfold BudgetLawful
    rw [supply]
    rfl

theorem shareReleased_budgetLawful (s : State) : BudgetLawful s.shareReleased :=
  (recompute_budgetLawful _).undisturbed (.report _ _)

theorem tellsOnly_supply (h : TellsOnly s t) : t.supply = s.supply := by
  obtain ⟨_, _, e, -⟩ := h.rest
  rw [e]

/-- The monitor that a wake starts has its available budget from the state it kept (R117, R200). -/
theorem wakeEndEffect_budgetLawful (law : BudgetLawful s) : BudgetLawful (wakeEndEffect s) := by
  unfold wakeEndEffect
  split
  · next c o _ _ _ =>
    have begun : BudgetLawful (begunWake s) := by
      unfold begunWake
      rfl
    exact begun.of_supply (tellsOnly_supply ((toldWake_tells s c o).trans (wake_tells s c o)))
  · exact law

/-- SHARE_REQ_CHANGE: in INIT and SLEEP the budget follows the level, else the request or the release has its own (R114,
R115). -/
theorem shareReqChange_budgetLawful (law : BudgetLawful s) {level : Bool} (e : execShareReqChange level s = .next t) :
    BudgetLawful t := by
  have followed : BudgetLawful { s with supply := s.supply.follow level } := rfl
  cases e
  split
  · exact law
  · split
    · exact settle_budgetLawful followed
    · exact settle_budgetLawful followed
    all_goals
      cases level
      · exact settle_budgetLawful (shareReleased_budgetLawful s)
      · exact settle_budgetLawful (shareAsserted_budgetLawful s)

end Law

end Sys2Proof.Safety

/-! ### Every step keeps the law of the budget -/

namespace Sys2Proof.Proofs

open Sys2Proof.Machine Sys2Proof.Laws Sys2Proof.Safety

section Step

variable {s t : State}

/-- The power-on values are lawful (R194). -/
theorem powerOn_budgetLawful (s : State) (held : Bool) : BudgetLawful (s.powerOn held) := by
  have reset : BudgetLawful State.reset := rfl
  exact reset.of_supply rfl

/-- Every command keeps the law of the available budget. -/
theorem exec_budgetLawful (law : BudgetLawful s) (i : Instr) (e : exec i s = .next t) : BudgetLawful t := by
  have c := Controls.refl (F := True) s
  have taken (u : State) (hu : BudgetLawful u) := takeRequest_budgetLawful hu i
  cases i with
  | supplySample mv n =>
    cases e
    split
    · exact law
    · exact settle_budgetLawful (sampleTemperature_budgetLawful (sampleVoltage_budgetLawful law mv) n)
  | shareReqChange level => exact shareReqChange_budgetLawful law e
  | shareYield => exact event_budgetLawful law e (yieldShare_budgetLawful law)
  | powerOnReset =>
    cases e
    exact powerOn_budgetLawful s true
  | initStart =>
    cases e
    split
    · exact powerOn_budgetLawful s false
    · exact law
  | resettingComplete => exact event_budgetLawful law e (completeReset_budgetLawful law)
  | wakeTimeEnd => exact event_budgetLawful law e (wakeEndEffect_budgetLawful law)
  | sleepEntry => exact event_budgetLawful law e (sleepEntryEffect_budgetLawful law)
  | transmitEnd => exact event_budgetLawful law e (transmitEndEffect_budgetLawful law)
  | byteReceived b fe => exact event_budgetLawful law e (byteEffect_budgetLawful law b fe)
  | wakeEvent w =>
    cases e
    exact settle_budgetLawful (law.undisturbed (wakeEffect_undisturbed s w))
  | hallEdge a step => exact event_undisturbed law e (hallEffect_undisturbed s a step)
  | stall a =>
    unfold exec execStall at e
    refine event_undisturbed law e (.ite ?_ (.refl s))
    split
    · exact stallDriving_undisturbed s a
    · exact stallReversing_undisturbed s a
  | interByteGap => exact event_undisturbed law e (.ite (.write rfl rfl rfl) (.refl s))
  | cadenceExpiry => exact event_undisturbed law e (cadenceEffect_undisturbed s)
  | supervisionLapse => exact event_undisturbed law e (lapseEffect_undisturbed s)
  | handMoveRest a => exact event_undisturbed law e (.ite (c.closeEpisode a).undisturbed (.modAx s a _))
  | blankingEnd a =>
    unfold exec execBlankingEnd at e
    exact event_undisturbed law e (.modAx s a _)
  | obstructionCurrent a => exact event_undisturbed law e (Controls.ite (c.obstruct a _) c).undisturbed
  | controlledStopRampEnd a =>
    unfold exec execControlledStopRampEnd at e
    exact event_undisturbed law e (.modAx s a _)
  | standstill a =>
    unfold exec execStandstill at e
    refine event_undisturbed law e ?_
    split
    · exact .ite (.refl s) (standstillStopping_undisturbed s a _)
    · exact .ite (.refl s) (c.standstillBackoff trivial a _).undisturbed
    · exact .refl s
  | checkPulseEnd a n => exact event_undisturbed law e (pulseEnd_undisturbed s a n)
  | escalation a => exact event_undisturbed law e (.ite (.modAll s _ _) (.refl s))
  | heatTick => exact event_undisturbed law e (heatTickEffect_undisturbed s)
  | jogWindowExpiry a => exact event_undisturbed law e (c.windowExpiry a).undisturbed
  | blockTimeout a =>
    unfold exec execBlockTimeout at e
    exact event_undisturbed law e (c.blockExpires a).undisturbed
  | settleCloseEnd n => exact event_undisturbed law e (settleCloseEffect_undisturbed s n)
  | settleOpenEnd n => exact event_undisturbed law e (settleOpenEffect_undisturbed s n)
  | shortTrip n => exact event_undisturbed law e (shortTripEffect_undisturbed s n)
  | cooldownEnd n => exact event_undisturbed law e (cooldownEffect_undisturbed s n)
  | afterDelayExpiry r m g => exact event_undisturbed law e (afterExpiryEffect_undisturbed s r m g)
  | runTimeout r => exact event_undisturbed law e (timeoutEffect_undisturbed s r)
  | runnerPaused r =>
    unfold exec execRunnerPaused at e
    exact event_undisturbed law e (c.restRunner r).undisturbed
  | haltingEnd r =>
    unfold exec execHaltingEnd at e
    exact event_undisturbed law e (c.restRunner r).undisturbed
  | inhibitChange level => exact event_undisturbed law e (inhibitEffect_undisturbed s level)
  | idleDwellExpiry => exact event_undisturbed law e (.ite (enterDoze_undisturbed s) (.refl s))
  | driveStageReady => exact event_undisturbed law e (stageReadyEffect_undisturbed s)
  | initEnd => exact event_undisturbed law e (initEndEffect_undisturbed s)
  | unknownKind tag kind p =>
    cases e
    exact offer_budgetLawful law _ (fun u hu => takeFrame_budgetLawful hu _)
  | ident | status | setup | reset | axisSet | axisGet | ack | jog | home | check | profileWrite | profileRead | profileSwap
  | scaleSet | keepoutSet | keepoutGet | planWrite | planRead | planDefine | run | pause | resume | halt | mark | runGet
  | budgetSet | power =>
    cases e
    exact offer_budgetLawful law _ taken

end Step

/-- Settles O6: the queue's rest has the same supply monitor, and every command keeps the law. -/
theorem budgetStaysLawful : Obligations.BudgetStaysLawful := by
  unfold Obligations.BudgetStaysLawful
  intro s t law e
  unfold step at e
  split at e
  · cases e
    exact law
  · next i rest _ => exact exec_budgetLawful (s := { s with pending := rest }) law i e

end Sys2Proof.Proofs

/-! ### The filters of the supply monitor -/

namespace Sys2Proof.Laws

open Sys2Proof.Machine Sys2Proof.Safety

/-! #### Which samples count (R102, R103) -/

theorem band_falls_iff {b : Band} {mv : Nat} :
    b.falls mv = true ↔ b = .normal ∧ mv < 11000 ∨ b = .reduced ∧ mv < 9000 := by
  cases b <;> simp [Band.falls]

theorem band_rises_iff {b : Band} {mv : Nat} :
    b.rises mv = true ↔ b = .reduced ∧ 11400 ≤ mv ∨ b = .hold ∧ 9400 ≤ mv := by
  cases b <;> simp [Band.rises]

theorem thermal_heats_iff {k : Thermal} {t : Int} :
    k.heats t = true ↔ k = .cool ∧ 1250 ≤ t ∨ k = .warm ∧ 1500 ≤ t := by
  cases k <;> simp [Thermal.heats]

theorem thermal_cools_iff {k : Thermal} {t : Int} :
    k.cools t = true ↔ k = .warm ∧ t < 1150 ∨ k = .hot ∧ t < 1300 := by
  cases k <;> simp [Thermal.cools]

/-- No sample counts both ways: the thresholds of rising lie above those of falling. -/
theorem rises_not_falls {b : Band} {mv : Nat} (h : b.rises mv = true) : ¬ b.falls mv = true := by
  rw [band_falls_iff]
  rcases band_rises_iff.mp h with ⟨rfl, high⟩ | ⟨rfl, -⟩
  · simp
    omega
  · simp

theorem cools_not_heats {k : Thermal} {t : Int} (h : k.cools t = true) : ¬ k.heats t = true := by
  rw [thermal_heats_iff]
  rcases thermal_cools_iff.mp h with ⟨rfl, low⟩ | ⟨rfl, -⟩
  · simp
    omega
  · simp

/-! #### The filters, case by case -/

section Filters

variable {m : Supply} {mv : Nat} {t : Int}

theorem bandSample_steady (falls : ¬ m.band.falls mv = true) (rises : ¬ m.band.rises mv = true) :
    bandSample m mv = { m with falling := 0, rising := 0, fallDeep := false } := by
  rw [bandSample, if_neg falls, if_neg rises]

theorem bandSample_falling (falls : m.band.falls mv = true) (few : m.falling < 3) : bandSample m mv =
    { m with falling := m.falling + 1, rising := 0, fallDeep := decide (mv < 9000) && (m.fallDeep || m.falling == 0) } := by
  rw [bandSample, if_pos falls]
  exact if_neg (by omega)

theorem bandSample_fallen (falls : m.band.falls mv = true) (fourth : 3 ≤ m.falling) : bandSample m mv =
    { m with
      band := if m.band = .normal ∧ ¬ (decide (mv < 9000) && (m.fallDeep || m.falling == 0)) = true then .reduced else .hold,
      falling := 0, rising := 0, fallDeep := false } := by
  rw [bandSample, if_pos falls]
  exact if_pos (by omega)

theorem bandSample_rising (rises : m.band.rises mv = true) (few : m.rising < 19) : bandSample m mv =
    { m with rising := m.rising + 1, falling := 0, fallDeep := false } := by
  rw [bandSample, if_neg (rises_not_falls rises), if_pos rises]
  exact if_neg (by omega)

theorem bandSample_risen (rises : m.band.rises mv = true) (twentieth : 19 ≤ m.rising) : bandSample m mv =
    { m with band := if m.band = .hold then .reduced else .normal, falling := 0, rising := 0, fallDeep := false } := by
  rw [bandSample, if_neg (rises_not_falls rises), if_pos rises]
  exact if_pos (by omega)

theorem thermalSample_steady (heats : ¬ m.thermal.heats t = true) (cools : ¬ m.thermal.cools t = true) :
    thermalSample m t = { m with heating := 0, cooling := 0, heatDeep := false } := by
  rw [thermalSample, if_neg heats, if_neg cools]

theorem thermalSample_heating (heats : m.thermal.heats t = true) (few : m.heating < 3) : thermalSample m t =
    { m with heating := m.heating + 1, cooling := 0, heatDeep := decide (1500 ≤ t) && (m.heatDeep || m.heating == 0) } := by
  rw [thermalSample, if_pos heats]
  exact if_neg (by omega)

theorem thermalSample_heated (heats : m.thermal.heats t = true) (fourth : 3 ≤ m.heating) : thermalSample m t =
    { m with
      thermal := if m.thermal = .cool ∧ ¬ (decide (1500 ≤ t) && (m.heatDeep || m.heating == 0)) = true then .warm else .hot,
      heating := 0, cooling := 0, heatDeep := false } := by
  rw [thermalSample, if_pos heats]
  exact if_pos (by omega)

theorem thermalSample_cooling (cools : m.thermal.cools t = true) (few : m.cooling < 19) : thermalSample m t =
    { m with cooling := m.cooling + 1, heating := 0, heatDeep := false } := by
  rw [thermalSample, if_neg (cools_not_heats cools), if_pos cools]
  exact if_neg (by omega)

theorem thermalSample_cooled (cools : m.thermal.cools t = true) (twentieth : 19 ≤ m.cooling) : thermalSample m t =
    { m with thermal := if m.thermal = .hot then .warm else .cool, heating := 0, cooling := 0, heatDeep := false } := by
  rw [thermalSample, if_neg (cools_not_heats cools), if_pos cools]
  exact if_pos (by omega)

end Filters

/-! #### The reports of a change (R116) -/

/-- Both are in INIT, or neither. -/
def BothInit (s t : State) : Prop := t.power.state = .init ↔ s.power.state = .init

theorem BothInit.controls {F : Prop} {s t : State} (h : Controls F s t) : BothInit s t := by
  unfold BothInit
  rcases h.power with e | ⟨doze, active⟩
  · rw [e]
  · simp [doze, active]

/-- Motion control neither enters INIT nor leaves it, so a computing afresh does not. -/
theorem recompute_bothInit (s : State) : BothInit s s.recompute := by
  have computed := BothInit.controls (recompute_controls s)
  exact computed

/-- A change told by the power state before it. -/
theorem supplyChange_told {s t : State} (h : BothInit s t) (c : SupplyCause) :
    t.supplyChange c = if s.power.state = .init then t else t.supplyReport c := by
  unfold State.supplyChange
  simp only [show t.power.state = .init ↔ s.power.state = .init from h]

theorem supplyChange_bothInit (s : State) (c : SupplyCause) : BothInit s (s.supplyChange c) := by
  unfold BothInit State.supplyChange State.supplyReport
  split
  · rfl
  · rw [report_power]

theorem sampleVoltage_bothInit (s : State) (mv : Nat) : BothInit s (s.sampleVoltage mv) := by
  unfold State.sampleVoltage
  dsimp only
  split
  · exact Iff.rfl
  · exact (supplyChange_bothInit _ _).trans (recompute_bothInit _)

theorem sampleVoltage_told (s : State) (mv : Nat) : s.sampleVoltage mv =
    let u : State := { s with supply := bandSample s.supply mv }
    if u.supply.band = s.supply.band then u
    else if s.power.state = .init then u.recompute else u.recompute.supplyReport .band := by
  have same : BothInit s (State.recompute { s with supply := bandSample s.supply mv }) :=
    recompute_bothInit { s with supply := bandSample s.supply mv }
  unfold State.sampleVoltage
  dsimp only
  rw [supplyChange_told same]

theorem sampleTemperature_told {s u : State} (h : BothInit s u) (t : Int) : u.sampleTemperature t =
    let v : State := { u with supply := thermalSample u.supply t }
    if v.supply.thermal = u.supply.thermal then v
    else if s.power.state = .init then v.recompute else v.recompute.supplyReport .thermal := by
  have same : BothInit s (State.recompute { u with supply := thermalSample u.supply t }) :=
    (recompute_bothInit { u with supply := thermalSample u.supply t }).trans h
  unfold State.sampleTemperature
  dsimp only
  rw [supplyChange_told same]

end Sys2Proof.Laws

namespace Sys2Proof.Proofs

open Sys2Proof.Machine Sys2Proof.Laws Sys2Proof.Safety

/-- SUPPLY_SAMPLE outside SLEEP: the voltage with all its effects, then the temperature (R101, log 66). -/
theorem exec_supplySample {s : State} (running : s.power.inReset = false) (awake : s.power.state ≠ .sleep) (mv : Nat) (t : Int) :
    exec (.supplySample mv t) s = .next ((s.sampleVoltage mv).sampleTemperature t).settle := by
  have taken : (s.power.inReset || decide (s.power.state = .sleep)) = false := by simp [running, awake]
  simp only [exec, execSupplySample, taken]
  rfl

/-- Settles O37: the filters case by case, the two samples in their order, and the available budget by R104. -/
theorem supplySamplesMoveTheFilters : Obligations.SupplySamplesMoveTheFilters := by
  unfold Obligations.SupplySamplesMoveTheFilters
  have budget (base : Nat) (band : Band) (thermal : Thermal) (h : Handshake) : availOf base band thermal h =
      if h = .quiet then base * ((match band with
        | .normal => 100
        | .reduced => 50
        | .hold => 0) * (match thermal with
        | .cool => 100
        | .warm => 50
        | .hot => 0)) / 10000 else 0 := by
    rw [availOf_eq]
    cases band <;> cases thermal <;> rfl
  refine ⟨fun m mv t => ?filters, fun mv t s running => ?sample, fun s => (recompute_avail s).trans (budget _ _ _ _), budget,
    fun s c => rfl⟩
  case filters =>
    simp only [← band_falls_iff, ← band_rises_iff, ← thermal_heats_iff, ← thermal_cools_iff]
    exact ⟨bandSample_steady, bandSample_falling, bandSample_fallen, bandSample_rising, bandSample_risen,
      thermalSample_steady, thermalSample_heating, thermalSample_heated, thermalSample_cooling, thermalSample_cooled⟩
  case sample =>
    intro told m u u' k v v'
    refine ⟨fun asleep => ?_, fun awake => ?_⟩
    · simp [exec, execSupplySample, asleep]
    · have voltage : s.sampleVoltage mv = u' := sampleVoltage_told s mv
      have temperature : u'.sampleTemperature t = v' := sampleTemperature_told (voltage ▸ sampleVoltage_bothInit s mv) t
      rw [exec_supplySample running awake, voltage, temperature]

end Sys2Proof.Proofs

/-! ### The share handshake -/

namespace Sys2Proof.Laws

open Sys2Proof.Machine Sys2Proof.Safety

section Handshake

variable {s : State}

/-- The handshake that a level gives, register by register (R104, R115). -/
theorem follow_level (m : Supply) (level : Bool) : m.follow level = { m with
    shareReq := level, handshake := if level then .yielded else .quiet, shareAck := level,
    avail := if level then 0 else availOf m.base m.band m.thermal .quiet } := by
  cases level <;> rfl

/-- DRAINING ends: the part runs and nothing moves (R114). -/
def YieldDue (s : State) : Prop :=
  s.supply.handshake = .draining ∧ s.power.state.runs = true ∧ ∀ a, (s.ax a).motion.moving = false

theorem yieldShare_due (h : YieldDue s) : s.yieldShare = State.supplyReport { s with supply := { s.supply with
    handshake := .yielded, shareAck := true, avail := 0 } } .share := by
  obtain ⟨draining, runs, still⟩ := h
  exact if_pos ⟨draining, nothingMoves_iff.mpr still, runs⟩

theorem yieldShare_undue (h : ¬ YieldDue s) : s.yieldShare = s := by
  refine if_neg (fun due => h ?_)
  obtain ⟨draining, still, runs⟩ := due
  exact ⟨draining, runs, nothingMoves_iff.mp still⟩

theorem shareAsserted_still (h : ∀ a, ((drained s).ax a).motion.moving = false) :
    s.shareAsserted = (yielded (drained s)).supplyReport .share := by
  rw [shareAsserted_eq, if_pos (nothingMoves_iff.mpr h)]

theorem shareAsserted_moving (h : ¬ ∀ a, ((drained s).ax a).motion.moving = false) :
    s.shareAsserted = (drained s).supplyReport .share := by
  rw [shareAsserted_eq, if_neg (fun still => h (nothingMoves_iff.mp still))]

/-- A new level in ACTIVE, DOZE or RESETTING (R114). -/
theorem exec_shareReqChange_runs (running : s.power.inReset = false) {level : Bool} (new : level ≠ s.supply.shareReq)
    (runs : s.power.state.runs = true) : exec (.shareReqChange level) s =
    .next (if level then s.shareAsserted else s.shareReleased).settle := by
  simp only [exec, execShareReqChange, running, new, decide_false, Bool.or_false, Bool.false_eq_true, if_false]
  rcases runs_cases runs with h | h | h <;> rw [h]

/-- A new level in INIT and SLEEP (R115). -/
theorem exec_shareReqChange_follows (running : s.power.inReset = false) {level : Bool} (new : level ≠ s.supply.shareReq)
    (off : s.power.state.runs = false) : exec (.shareReqChange level) s =
    .next (State.settle { s with supply := s.supply.follow level }) := by
  simp only [exec, execShareReqChange, running, new, decide_false, Bool.or_false, Bool.false_eq_true, if_false]
  cases h : s.power.state <;> simp [h, PowerState.runs] at off ⊢

end Handshake

end Sys2Proof.Laws

namespace Sys2Proof.Proofs

open Sys2Proof.Machine Sys2Proof.Laws Sys2Proof.Safety

theorem exec_shareYield {s : State} (running : s.power.inReset = false) : exec .shareYield s = .next s.yieldShare.settle :=
  event_runs running _

/-- Settles O40: the new level by the power state and by what moves after the revocation, and the yielding. -/
theorem shareHandshakeFollowsTheRequest : Obligations.ShareHandshakeFollowsTheRequest := by
  unfold Obligations.ShareHandshakeFollowsTheRequest
  refine ⟨fun level s running => ?change, fun m => ?moving, fun s => ⟨yieldShare_due, yieldShare_undue⟩⟩
  case moving => cases m <;> simp [Motion.moving]
  case change =>
    intro u still ack
    refine ⟨fun taken => ?taken, ?asserted, ?released, fun new off => ?follows, fun draining runs rest => ?due,
      fun undue => ?undue⟩
    case taken => simp [exec, execShareReqChange, taken]
    case asserted =>
      rintro rfl released runs
      have drained_u : drained s = u := rfl
      have request := exec_shareReqChange_runs running (level := true) (by simp [released]) runs
      refine ⟨?_, fun rest => ?_, fun moving => ?_⟩
      · rw [← drained_u, drained_supply]
      · rw [request, if_pos rfl, shareAsserted_still rest]
        rfl
      · rw [request, if_pos rfl, shareAsserted_moving moving]
        rfl
    case released =>
      rintro rfl asserted runs
      exact exec_shareReqChange_runs running (level := false) (by simp [asserted]) runs
    case follows => rw [exec_shareReqChange_follows running new off, follow_level]
    case due => rw [exec_shareYield running, yieldShare_due ⟨draining, runs, rest⟩]
    case undue =>
      rw [exec_shareYield running, yieldShare_undue]
      rintro ⟨draining, runs, rest⟩
      rcases undue with h | h | h
      · exact h draining
      · exact absurd runs (by simp [h])
      · exact h rest

end Sys2Proof.Proofs

/-! ### KEEPOUT_SET and KEEPOUT_GET (R119, R120) -/

namespace Sys2Proof.Laws

open Sys2Proof.Machine Sys2Proof.Safety

/-! #### The contents a KEEPOUT_SET carries -/

/-- Check 3 of R119 on the contents of a KEEPOUT_SET. -/
def GoodKeepout (k : KeepoutArgs) : Prop :=
  k.enabled.toNat ≤ 1 ∧ k.axisA.toNat < 12 ∧ k.axisB.toNat < 12 ∧ k.axisA ≠ k.axisB ∧ k.loA.toNat ≤ k.hiA.toNat ∧
    k.loB.toNat ≤ k.hiB.toNat ∧ 5 ≤ k.guard.toNat ∧ k.guard.toNat ≤ 200

/-- The entry that the contents of a KEEPOUT_SET stand for, between the axes `a` and `b`. -/
def entryBetween (k : KeepoutArgs) (a b : AxisNo) : KeepoutEntry :=
  ⟨k.enabled = 1, a, k.loA.toNat, k.hiA.toNat, b, k.loB.toNat, k.hiB.toNat, k.guard.toNat⟩

theorem byte_eq_iff_fin_eq {n : Nat} {x y : Byte} {a b : Fin n} (hx : x.toNat = a.val) (hy : y.toNat = b.val) :
    x = y ↔ a = b := by
  rw [← BitVec.toNat_inj, hx, hy, Fin.ext_iff]

theorem keepoutOf_good {k : KeepoutArgs} {a b : AxisNo} (good : GoodKeepout k) (numberA : k.axisA.toNat = a.val)
    (numberB : k.axisB.toNat = b.val) : keepoutOf k = some (entryBetween k a b) := by
  obtain ⟨flag, -, -, differ, orderA, orderB, guard⟩ := good
  have apart : a ≠ b := mt (byte_eq_iff_fin_eq numberA numberB).mpr differ
  simp only [keepoutOf, flagOf_eq_some.mpr ⟨flag, rfl⟩, finOf_eq_some.mpr numberA, finOf_eq_some.mpr numberB,
    inRange_eq_some.mpr ⟨guard, rfl⟩, Option.bind_eq_bind, Option.bind_some]
  exact if_pos ⟨apart, orderA, orderB⟩

theorem keepoutOf_bad {k : KeepoutArgs} (bad : ¬ GoodKeepout k) : keepoutOf k = none := by
  rw [Option.eq_none_iff_forall_ne_some]
  intro e found
  simp only [keepoutOf, Option.bind_eq_bind, Option.bind_eq_some_iff, flagOf_eq_some, finOf_eq_some, inRange_eq_some,
    Option.ite_none_right_eq_some] at found
  obtain ⟨_, ⟨flag, -⟩, a, numberA, b, numberB, _, ⟨guard, -⟩, ⟨apart, orderA, orderB⟩, -⟩ := found
  exact bad ⟨flag, numberA ▸ a.isLt, numberB ▸ b.isLt, mt (byte_eq_iff_fin_eq numberA numberB).mp apart, orderA, orderB, guard⟩

/-- Checks 4 and 5 of R119: both axes are configured and each region lies within its travel. -/
theorem entryFits_iff {s : State} {e : KeepoutEntry} : s.entryFits e = true ↔
    ∃ c d, (s.ax e.axisA).config = some c ∧ (s.ax e.axisB).config = some d ∧ e.hiA ≤ c.travel ∧ e.hiB ≤ d.travel := by
  cases hA : (s.ax e.axisA).config with
  | none => simp [State.entryFits, hA]
  | some c =>
    cases hB : (s.ax e.axisB).config with
    | none => simp [State.entryFits, hB]
    | some d => simp [State.entryFits, hA, hB, travel_config hA, travel_config hB]

section NewEntry

variable {s : State} {present : Byte} {k : KeepoutArgs}

theorem newEntry_malformed (h : 2 ≤ present.toNat) : s.newEntry present k = none := by
  rw [State.newEntry, flagOf_eq_none.mpr h]

theorem newEntry_empty : s.newEntry 0 k = some none := rfl

theorem newEntry_bad (bad : ¬ GoodKeepout k) : s.newEntry 1 k = none := by
  rw [State.newEntry, flagOf_eq_some.mpr ⟨le_rfl, rfl⟩, keepoutOf_bad bad]
  rfl

theorem newEntry_good {a b : AxisNo} (good : GoodKeepout k) (numberA : k.axisA.toNat = a.val)
    (numberB : k.axisB.toNat = b.val) : s.newEntry 1 k =
      if s.entryFits (entryBetween k a b) then some (some (entryBetween k a b)) else none := by
  rw [State.newEntry, flagOf_eq_some.mpr ⟨le_rfl, rfl⟩, keepoutOf_good good numberA numberB]
  rfl

end NewEntry

/-! #### KEEPOUT_SET by its checks -/

/-- The axes that an entry names are in IDLE or FAULT (check 6 of R119). -/
def EntryRests (s : State) (e : Option KeepoutEntry) : Prop :=
  ∀ k, e = some k → ∀ a, a = k.axisA ∨ a = k.axisB → (s.ax a).motion = .idle ∨ (s.ax a).motion = .fault

theorem entryAxes_rest_iff {s : State} {e : Option KeepoutEntry} :
    (entryAxes e).all (fun a => (s.ax a).motion.resting) = true ↔ EntryRests s e := by
  cases e <;> simp [entryAxes, EntryRests, resting_iff]

theorem entryRests_none (s : State) : EntryRests s none := fun _ h => nomatch h

section KeepoutSet

variable {s : State} {tag entry present : Byte} {k : KeepoutArgs} {n : EntryNo} {e : Option KeepoutEntry}

theorem keepoutSetTaken_badArg (awake : s.resetting = false) (bad : s.newEntry present k = none) :
    keepoutSetTaken tag entry present k s = s.reply 0x20 tag .badArg [] := by
  rw [keepoutSetTaken, awake, bad]
  cases finOf 24 entry <;> rfl

theorem keepoutSetTaken_good (awake : s.resetting = false) (number : entry.toNat = n.val)
    (new : s.newEntry present k = some e) : keepoutSetTaken tag entry present k s =
      if (entryAxes s.entries[n] ++ entryAxes e).all (fun a => (s.ax a).motion.resting) then
        State.reply { s with entries := s.entries.set n e } 0x20 tag .ok []
      else s.reply 0x20 tag .busy [] := by
  rw [keepoutSetTaken, awake, finOf_eq_some.mpr number, new]
  rfl

theorem entries_rest_iff : (entryAxes s.entries[n] ++ entryAxes e).all (fun a => (s.ax a).motion.resting) = true ↔
    EntryRests s s.entries[n] ∧ EntryRests s e := by
  rw [List.all_append, Bool.and_eq_true, entryAxes_rest_iff, entryAxes_rest_iff]

theorem keepoutSetTaken_busy (awake : s.resetting = false) (number : entry.toNat = n.val)
    (new : s.newEntry present k = some e) (moving : ¬ (EntryRests s s.entries[n] ∧ EntryRests s e)) :
    keepoutSetTaken tag entry present k s = s.reply 0x20 tag .busy [] := by
  rw [keepoutSetTaken_good awake number new, if_neg (mt entries_rest_iff.mp moving)]

theorem keepoutSetTaken_ok (awake : s.resetting = false) (number : entry.toNat = n.val)
    (new : s.newEntry present k = some e) (old : EntryRests s s.entries[n]) (rest : EntryRests s e) :
    keepoutSetTaken tag entry present k s = State.reply { s with entries := s.entries.set n e } 0x20 tag .ok [] := by
  rw [keepoutSetTaken_good awake number new, if_pos (entries_rest_iff.mpr ⟨old, rest⟩)]

end KeepoutSet

/-! #### The reply to KEEPOUT_GET -/

section EntryReply

variable {s : State} {e : KeepoutEntry}

/-- Axis A of an entry occupies its guarded region, or has no position (R121). -/
theorem occupied_axisA : s.occupied e e.axisA e.guard = true ↔ (s.ax e.axisA).pos = none ∨
    ∃ p, (s.ax e.axisA).pos = some p ∧ e.loA ≤ p + e.guard ∧ p ≤ e.hiA + e.guard := by
  rw [State.occupied, occupies_iff, KeepoutEntry.region, if_pos rfl]

/-- Axis B of an entry occupies its guarded region, or has no position (R121). -/
theorem occupied_axisB (differ : e.axisA ≠ e.axisB) : s.occupied e e.axisB e.guard = true ↔ (s.ax e.axisB).pos = none ∨
    ∃ p, (s.ax e.axisB).pos = some p ∧ e.loB ≤ p + e.guard ∧ p ≤ e.hiB + e.guard := by
  rw [State.occupied, occupies_iff, KeepoutEntry.region, if_neg differ]

/-- The contents of an entry as KEEPOUT_GET answers them (R120). -/
def contentBytes (e : KeepoutEntry) : List Byte :=
  b1 e.axisA.val ++ b2 e.loA ++ b2 e.hiA ++ b1 e.axisB.val ++ b2 e.loB ++ b2 e.hiB ++ b1 e.guard

theorem bFlag_eq (b : Bool) : bFlag b = [if b then 1 else 0] := by cases b <;> rfl

theorem entryReply_disabled (off : e.enabled = false) :
    s.entryReply (some e) = [0, 0] ++ contentBytes e ++ [0xFF, 0xFF, 0xFF] := by
  simp only [State.entryReply, off]
  rfl

/-- An enabled entry answers the two occupations, and their conjunction as its conflict (R121). -/
theorem entryReply_enabled (on : e.enabled = true) {oa ob : Bool} (occupiedA : s.occupied e e.axisA e.guard = oa)
    (occupiedB : s.occupied e e.axisB e.guard = ob) : s.entryReply (some e) =
      [0, 1] ++ contentBytes e ++ [if oa then 1 else 0, if ob then 1 else 0, if oa && ob then 1 else 0] := by
  have conflict : s.conflict e = (oa && ob) := by rw [State.conflict, on, occupiedA, occupiedB, Bool.true_and]
  simp only [State.entryReply, on, occupiedA, occupiedB, conflict, bFlag_eq]
  rfl

end EntryReply

theorem keepoutGetTaken_ok {s : State} {tag entry : Byte} {n : EntryNo} (awake : s.resetting = false)
    (number : entry.toNat = n.val) : keepoutGetTaken tag entry s = s.reply 0x21 tag .ok (s.entryReply s.entries[n]) := by
  rw [keepoutGetTaken, awake, finOf_eq_some.mpr number]
  rfl

end Sys2Proof.Laws

namespace Sys2Proof.Proofs

open Sys2Proof.Machine Sys2Proof.Laws Sys2Proof.Safety

/-- Settles O28: the new contents by checks 3 to 5, then the axes of the old and the new entry at rest. -/
theorem keepoutSetReplacesAnEntry : Obligations.KeepoutSetReplacesAnEntry := by
  unfold Obligations.KeepoutSetReplacesAnEntry
  intro tag entry present args s n listens number u rests answers takes good
  have awake : u.resetting = false := resetting_listens listens
  refine ⟨fun malformed => ?_, ?empty, ?empties, ?bad, ?entry⟩
  · exact exec_answers listens rfl (keepoutSetTaken_badArg awake (newEntry_malformed malformed))
  case empty =>
    rintro rfl moving
    exact exec_answers listens rfl (keepoutSetTaken_busy awake number newEntry_empty (fun both => moving both.1))
  case empties =>
    rintro rfl old
    exact exec_answers listens rfl (keepoutSetTaken_ok awake number newEntry_empty old (entryRests_none u))
  case bad =>
    rintro rfl bad
    exact exec_answers listens rfl (keepoutSetTaken_badArg awake (newEntry_bad bad))
  case entry =>
    rintro a b rfl wellFormed numberA numberB e fits
    have new : u.newEntry 1 args = if u.entryFits e then some (some e) else none :=
      newEntry_good wellFormed numberA numberB
    have within : u.entryFits e = true ↔ fits := entryFits_iff
    refine ⟨fun beyond => ?_, fun fit moving => ?_, fun fit old rest => ?_⟩
    · rw [if_neg (mt within.mp beyond)] at new
      exact exec_answers listens rfl (keepoutSetTaken_badArg awake new)
    · rw [if_pos (within.mpr fit)] at new
      exact exec_answers listens rfl (keepoutSetTaken_busy awake number new moving)
    · rw [if_pos (within.mpr fit)] at new
      exact exec_answers listens rfl (keepoutSetTaken_ok awake number new old rest)

/-- Settles O29: the reply by the entry's contents, with its judgements where it is enabled. -/
theorem keepoutGetAnswersTheEntry : Obligations.KeepoutGetAnswersTheEntry := by
  unfold Obligations.KeepoutGetAnswersTheEntry
  intro tag entry s
  refine ⟨fun n listens number => ?answered, fun listens out => ?_, fun resets => ?_⟩
  case answered =>
    intro u answers inside
    have reply : answers (u.entryReply u.entries[n]) :=
      exec_answers listens rfl (keepoutGetTaken_ok (resetting_listens listens) number)
    refine ⟨fun empty => ?_, fun e held => ⟨fun off => ?_, fun oa ob on differ hA hB => ?_⟩⟩
    · rwa [empty] at reply
    · rwa [held, entryReply_disabled off] at reply
    · have occupiedA : u.occupied e e.axisA e.guard = oa := Bool.eq_iff_iff.mpr (occupied_axisA.trans hA.symm)
      have occupiedB : u.occupied e e.axisB e.guard = ob := Bool.eq_iff_iff.mpr ((occupied_axisB differ).trans hB.symm)
      rwa [held, entryReply_enabled on occupiedA occupiedB] at reply
  · exact exec_answers listens rfl (by rw [keepoutGetTaken, resetting_listens listens, finOf_eq_none.mpr out]; rfl)
  · exact exec_resets resets rfl (by rw [keepoutGetTaken, resetting_resets resets]; rfl)

end Sys2Proof.Proofs

/-! ### SETUP (R187) -/

namespace Sys2Proof.Laws

open Sys2Proof.Machine Sys2Proof.Safety

/-! #### The values in their ranges -/

theorem cadenceOf_eq_some {h : Half} {n : Nat} :
    cadenceOf h = some n ↔ (h = 0 ∨ (50 ≤ h.toNat ∧ h.toNat ≤ 1000)) ∧ n = h.toNat := by
  unfold cadenceOf
  split
  · next zero => simp [zero, eq_comm]
  · next nonzero => rw [inRange_eq_some, or_iff_right nonzero]

theorem setupOf_eq_some {w c : Half} {b : Byte} {d : Half} {v : Setup} : setupOf w c b d = some v ↔
    (100 ≤ w.toNat ∧ w.toNat ≤ 2000 ∧ (c = 0 ∨ (50 ≤ c.toNat ∧ c.toNat ≤ 1000)) ∧ 1 ≤ b.toNat ∧ b.toNat ≤ 60 ∧
      5 ≤ d.toNat ∧ d.toNat ≤ 300) ∧ v = ⟨w.toNat, c.toNat, b.toNat, d.toNat⟩ := by
  unfold setupOf
  simp only [Option.bind_eq_bind, Option.bind_eq_some_iff, inRange_eq_some, cadenceOf_eq_some, Option.some.injEq]
  constructor
  · rintro ⟨_, ⟨⟨w1, w2⟩, rfl⟩, _, ⟨cadence, rfl⟩, _, ⟨⟨b1, b2⟩, rfl⟩, _, ⟨⟨d1, d2⟩, rfl⟩, rfl⟩
    exact ⟨⟨w1, w2, cadence, b1, b2, d1, d2⟩, rfl⟩
  · rintro ⟨⟨w1, w2, cadence, b1, b2, d1, d2⟩, rfl⟩
    exact ⟨_, ⟨⟨w1, w2⟩, rfl⟩, _, ⟨cadence, rfl⟩, _, ⟨⟨b1, b2⟩, rfl⟩, _, ⟨⟨d1, d2⟩, rfl⟩, rfl⟩

/-! #### The timers that have passed a new value -/

/-- The setup values replaced, and a changed cadence's timer restarted (R184, R187), before the other timers act. -/
def storeSetup (s : State) (v : Setup) : State :=
  { s with link := { s.link with
      setup := v, cadence := if v.cadence = s.link.setup.cadence then s.link.cadence else none } }

/-- The dwell timer runs and has passed an idle dwell (R195). -/
def DwellPast (s : State) (dwell : Nat) : Prop :=
  s.power.state = .active ∧ ∃ n, s.power.dwell = some n ∧ dwell * 100 ≤ n

theorem newDwell_past {s : State} {dwell : Nat} (past : DwellPast s dwell) : s.newDwell dwell = s.enterDoze := by
  obtain ⟨active, n, timer, passed⟩ := past
  rw [State.newDwell, timer]
  exact if_pos ⟨active, passed⟩

theorem newDwell_present {s : State} {dwell : Nat} (present : ¬ DwellPast s dwell) : s.newDwell dwell = s := by
  unfold State.newDwell
  split
  · rfl
  · next n timer => exact if_neg (fun h => present ⟨h.1, n, timer, h.2⟩)

theorem newBlockTimeout_unpassed {s : State} {timeout : Nat} (h : ∀ a, s.blockedPast timeout a = false) :
    s.newBlockTimeout timeout = s :=
  foldl_undue (p := fun t a => t.blockedPast timeout a) (f := State.blockExpires) (fun a _ => h a)

/-- The state after the block timers that a SETUP finds beyond a changed block timeout. -/
def blocksExpired (s : State) (v : Setup) : State :=
  if v.blockTimeout = s.link.setup.blockTimeout then storeSetup s v else (storeSetup s v).newBlockTimeout v.blockTimeout

theorem blocksExpired_unpassed {s : State} {v : Setup}
    (h : v.blockTimeout = s.link.setup.blockTimeout ∨ ∀ a, s.blockedPast v.blockTimeout a = false) :
    blocksExpired s v = storeSetup s v := by
  unfold blocksExpired
  split
  · rfl
  · next changed => exact newBlockTimeout_unpassed (h.resolve_left changed)

theorem applySetup_eq (s : State) (v : Setup) : s.applySetup v =
    if v.dwell = s.link.setup.dwell then blocksExpired s v else (blocksExpired s v).newDwell v.dwell := rfl

theorem applySetup_past {s : State} {v : Setup} (changed : v.dwell ≠ s.link.setup.dwell)
    (past : DwellPast (blocksExpired s v) v.dwell) : s.applySetup v = (blocksExpired s v).enterDoze := by
  rw [applySetup_eq, if_neg changed, newDwell_past past]

theorem applySetup_present {s : State} {v : Setup}
    (h : ¬ (v.dwell ≠ s.link.setup.dwell ∧ DwellPast (blocksExpired s v) v.dwell)) :
    s.applySetup v = blocksExpired s v := by
  rw [applySetup_eq]
  split
  · rfl
  · next changed => exact newDwell_present (fun past => h ⟨changed, past⟩)

end Sys2Proof.Laws

namespace Sys2Proof.Proofs

open Sys2Proof.Machine Sys2Proof.Laws Sys2Proof.Safety

/-- An own link whose timer has passed the block timeout expires (R130). -/
theorem expire_own {s : State} {a : AxisNo} {l : BlockLink} {timeout : Nat} (blocked : (s.ax a).motion = .blocked)
    (link : (s.ax a).link = some l) :
    (if s.blockedPast timeout a then s.blockExpires a else s) = if timeout * 1000 ≤ l.timer ∧ l.copy = false then
      (s.raiseFault a .blockTimeout (.partner l.partner) (some l.entry) none).passSince s else s := by
  have past : s.blockedPast timeout a = true ↔ timeout * 1000 ≤ l.timer := by simp [State.blockedPast, link]
  by_cases own : l.copy = false
  · simp only [past, own, and_true, blockExpires_own blocked link own]
  · rw [blockExpires_none (.inr fun k found => ?_), ite_self, if_neg (fun h => own h.2)]
    rw [link, Option.some.injEq] at found
    simpa [← found] using own

/-- Where an axis is not BLOCKED with a link, no block timer expires (R130). -/
theorem expire_unblocked {s : State} {a : AxisNo} {timeout : Nat}
    (h : ∀ l, (s.ax a).motion = .blocked → (s.ax a).link = some l → False) :
    (if s.blockedPast timeout a then s.blockExpires a else s) = s := by
  have still : s.blockExpires a = s := blockExpires_none (by
    by_cases blocked : (s.ax a).motion = .blocked
    · exact .inr (fun l link => (h l blocked link).elim)
    · exact .inl blocked)
  rw [still, ite_self]

/-- Settles O17: the answer by the ranges, and the replacement by the timers that have passed a new value. -/
theorem setupReplacesTheValues : Obligations.SetupReplacesTheValues := by
  unfold Obligations.SetupReplacesTheValues
  intro tag w c b d s listens u good v t
  have awake : u.resetting = false := resetting_listens listens
  refine ⟨fun bad => ?refused, fun inRanges => ?taken, fun _ unpassed undozed => ?unchanged,
    fun _ unpassed changed active past => ?dozes, ?expires⟩
  case refused =>
    have none : setupOf w c b d = none :=
      Option.eq_none_iff_forall_ne_some.mpr (fun k found => bad (setupOf_eq_some.mp found).1)
    refine exec_answers listens rfl ?_
    rw [setupTaken, awake, none]
    rfl
  case taken =>
    refine exec_answers listens rfl ?_
    rw [setupTaken, awake, setupOf_eq_some.mpr ⟨inRanges, rfl⟩]
    rfl
  case unchanged =>
    have stored : blocksExpired u v = t := blocksExpired_unpassed unpassed
    rw [← stored]
    refine applySetup_present ?_
    rw [stored]
    rintro ⟨changed, active, n, timer, passed⟩
    have running : n < d.toNat * 100 := (undozed.resolve_left changed).resolve_left (not_not.mpr active) n timer
    exact absurd passed (Nat.not_le.mpr running)
  case dozes =>
    have stored : blocksExpired u v = t := blocksExpired_unpassed unpassed
    rw [← stored]
    exact applySetup_past changed (stored ▸ ⟨active, past⟩)
  case expires =>
    intro expired x past
    have walk : expired = t.newBlockTimeout b.toNat := by
      refine congrArg (fun f => allAxes.foldl f t) (funext₂ fun q a => ?_)
      split
      · next l blocked link => exact (expire_own blocked link).symm
      · next other => exact (expire_unblocked (fun l blocked link => other l blocked link)).symm
    have settled : blocksExpired u v = x := congrArg (fun y => if b.toNat = u.link.setup.blockTimeout then t else y) walk.symm
    rw [← settled]
    refine ⟨fun h => ?_, fun h => ?_⟩
    · obtain ⟨changed, dozes⟩ := h
      exact applySetup_past changed (settled ▸ dozes)
    · exact applySetup_present (settled ▸ h)

end Sys2Proof.Proofs

/-! ### Validation of a plan (R146, R147) -/

namespace Sys2Proof.Laws

open Sys2Proof.Machine Sys2Proof.Safety

/-! #### The entry checks -/

section EntryChecks

variable {s : State} {slot : Slot} {i : Nat} {e : PlanEntry}

theorem slotEntry_eq_place {k : Fin 64} (place : k.val = slot.start + i) : s.slotEntry slot i = s.places[k] := by
  rw [State.slotEntry, ← place, Vector.getElem?_eq_getElem k.isLt]
  rfl

/-- An AFTER gate that names a move of a kind. -/
def namesMove (p : Nat → Bool) : Gate → Bool
  | .after k _ => p k
  | .whenGe _ _ | .whenLe _ _ | .mark _ => false

theorem any_namesMove_iff {gs : List Gate} {p : Nat → Bool} :
    gs.any (namesMove p) = true ↔ ∃ k d, Gate.after k d ∈ gs ∧ p k = true := by
  rw [List.any_eq_true]
  constructor
  · rintro ⟨g, mem, names⟩
    cases g
    case after k d => exact ⟨k, d, mem, names⟩
    all_goals exact absurd names Bool.false_ne_true
  · rintro ⟨k, d, mem, names⟩
    exact ⟨.after k d, mem, names⟩

/-- A gate's place is unreachable: its axis is unconfigured, or has a shorter travel (R146 check 6). -/
theorem watchFits_eq_false {a : AxisNo} {p : Nat} :
    ((s.ax a).config.isSome && decide (p ≤ s.travel a)) = false ↔ ∀ c, (s.ax a).config = some c → c.travel < p := by
  cases config : (s.ax a).config with
  | none => simp
  | some c => simp [travel_config config]

theorem any_unwatched_iff {gs : List Gate} : gs.any (fun g => !s.watchFits g) = true ↔
    ∃ a p, (Gate.whenGe a p ∈ gs ∨ Gate.whenLe a p ∈ gs) ∧ ∀ c, (s.ax a).config = some c → c.travel < p := by
  simp only [List.any_eq_true, Bool.not_eq_true', ← watchFits_eq_false]
  constructor
  · rintro ⟨g, mem, unwatched⟩
    cases g with
    | whenGe a p => exact ⟨a, p, .inl mem, unwatched⟩
    | whenLe a p => exact ⟨a, p, .inr mem, unwatched⟩
    | after k d => exact Bool.noConfusion unwatched
    | mark m => exact Bool.noConfusion unwatched
  · rintro ⟨a, p, mem | mem, unwatched⟩
    · exact ⟨.whenGe a p, mem, unwatched⟩
    · exact ⟨.whenLe a p, mem, unwatched⟩

theorem gangPending_iff_config {a : AxisNo} : s.gangPending a = true ↔ ∃ c b, (s.ax a).config = some c ∧
    c.partner = some b ∧ ∀ d, (s.ax b).config = some d → d.partner ≠ some a := by
  have unnamed (b : AxisNo) : s.names b ≠ some a ↔ ∀ d, (s.ax b).config = some d → d.partner ≠ some a := by
    simp only [ne_eq, names_eq_some, not_exists, not_and]
  simp only [gangPending_iff, unnamed]
  constructor
  · rintro ⟨⟨b, named⟩, unnamed⟩
    obtain ⟨c, config, partner⟩ := names_eq_some.mp named
    exact ⟨c, b, config, partner, unnamed b named⟩
  · rintro ⟨c, b, config, partner, unnamed⟩
    have named : s.names a = some b := names_eq_some.mpr ⟨c, config, partner⟩
    refine ⟨⟨b, named⟩, fun d also => ?_⟩
    rw [named, Option.some.injEq] at also
    exact also ▸ unnamed

theorem checkMove_empty (empty : s.slotEntry slot i = none) : s.checkMove slot i = some .emptyEntry := by
  simp only [State.checkMove, empty]

theorem checkMove_entry (entry : s.slotEntry slot i = some e) : s.checkMove slot i =
    if (s.ax e.axis).config.isNone then some .axisUnconfigured
    else if s.gangPending e.axis then some .gangPending
    else if e.gates.any (namesMove fun k => decide (slot.length ≤ k)) then some .afterRange
    else if e.gates.any (namesMove fun k => decide (k = i)) then some .afterSelf
    else if e.gates.any (fun g => !s.watchFits g) then some .whenRange
    else none := by
  simp only [State.checkMove, entry]
  rfl

end EntryChecks

/-! #### Moves reached by AFTER gates -/

/-- An AFTER gate of a move names another. -/
def After (s : State) (slot : Slot) (i k : Nat) : Prop := ∃ e d, s.slotEntry slot i = some e ∧ Gate.after k d ∈ e.gates

section Reached

open Relation

variable {s : State} {slot : Slot}

theorem mem_afterMoves {i k : Nat} : k ∈ s.afterMoves slot i ↔ After s slot i k := by
  unfold State.afterMoves After
  cases s.slotEntry slot i with
  | none => simp
  | some e =>
    simp only [Option.map_some, Option.getD_some, List.mem_filterMap, Option.some.injEq, exists_eq_left',
      exists_and_left]
    constructor
    · rintro ⟨g, mem, names⟩
      cases g
      case after j d =>
        cases names
        exact ⟨d, mem⟩
      all_goals cases names
    · rintro ⟨d, mem⟩
      exact ⟨.after k d, mem, rfl⟩

/-- A plan whose moves pass the entry checks names in its AFTER gates moves of its own alone (R146 check 4). -/
theorem after_lt (pass : ∀ i, i < slot.length → s.checkMove slot i = none) {i k : Nat} (own : i < slot.length)
    (after : After s slot i k) : k < slot.length := by
  obtain ⟨e, d, entry, mem⟩ := after
  have passes := pass i own
  rw [checkMove_entry entry] at passes
  split_ifs at passes with _ _ beyond
  by_contra far
  exact beyond (any_namesMove_iff.mpr ⟨k, d, mem, decide_eq_true (Nat.le_of_not_lt far)⟩)

/-- The moves that one more edge reaches. -/
def newMoves (s : State) (slot : Slot) (seen : List Nat) : List Nat :=
  (seen.flatMap (s.afterMoves slot)).filter (fun k => !seen.contains k)

theorem mem_newMoves {seen : List Nat} {k : Nat} :
    k ∈ newMoves s slot seen ↔ (∃ j ∈ seen, After s slot j k) ∧ k ∉ seen := by
  simp [newMoves, mem_afterMoves]

theorem reachedFrom_succ (n : Nat) (seen : List Nat) : s.reachedFrom slot (n + 1) seen =
    if (newMoves s slot seen).isEmpty then seen
    else s.reachedFrom slot n (seen ++ (newMoves s slot seen).eraseDups) := rfl

theorem mem_reachedFrom_of_mem {k : Nat} (n : Nat) {seen : List Nat} (mem : k ∈ seen) :
    k ∈ s.reachedFrom slot n seen := by
  induction n generalizing seen with
  | zero => exact mem
  | succ n ih =>
    rw [reachedFrom_succ]
    split
    · exact mem
    · exact ih (List.mem_append_left _ mem)

/-- Only what can be reached is collected. -/
theorem reachable_of_mem_reachedFrom {k n : Nat} {seen : List Nat} (mem : k ∈ s.reachedFrom slot n seen) :
    ∃ j ∈ seen, ReflTransGen (After s slot) j k := by
  induction n generalizing seen with
  | zero => exact ⟨k, mem, .refl⟩
  | succ n ih =>
    rw [reachedFrom_succ] at mem
    split at mem
    · exact ⟨k, mem, .refl⟩
    · obtain ⟨j, seen_j, path⟩ := ih mem
      rcases List.mem_append.mp seen_j with old | new
      · exact ⟨j, old, path⟩
      · obtain ⟨⟨i, old, after⟩, -⟩ := mem_newMoves.mp (List.mem_eraseDups.mp new)
        exact ⟨i, old, .head after path⟩

/-- The moves of a plan not yet seen: each step of the collection but the last leaves fewer. -/
def unseen (slot : Slot) (seen : List Nat) : Finset Nat := Finset.range slot.length \ seen.toFinset

theorem card_unseen_lt {seen new : List Nat} {k : Nat} (own : k < slot.length) (fresh : k ∉ seen) (mem : k ∈ new) :
    (unseen slot (seen ++ new)).card < (unseen slot seen).card := by
  refine Finset.card_lt_card (Finset.ssubset_iff_of_subset ?_ |>.mpr ⟨k, ?_, ?_⟩)
  · intro j
    simp only [unseen, Finset.mem_sdiff, List.mem_toFinset, List.mem_append]
    tauto
  · simp [unseen, own, fresh]
  · simp [unseen, mem]

/-- With fuel for every move not yet seen, the collection ends closed under AFTER gates. -/
theorem reachedFrom_closed (inside : ∀ j k, j < slot.length → After s slot j k → k < slot.length) {n : Nat}
    {seen : List Nat} (own : ∀ j ∈ seen, j < slot.length) (fuel : (unseen slot seen).card ≤ n) {j k : Nat}
    (mem : j ∈ s.reachedFrom slot n seen) (after : After s slot j k) : k ∈ s.reachedFrom slot n seen := by
  induction n generalizing seen with
  | zero =>
    have all : unseen slot seen = ∅ := Finset.card_eq_zero.mp (Nat.le_zero.mp fuel)
    by_contra fresh
    have left : k ∈ unseen slot seen :=
      Finset.mem_sdiff.mpr ⟨Finset.mem_range.mpr (inside j k (own j mem) after), mt List.mem_toFinset.mp fresh⟩
    simp [all] at left
  | succ n ih =>
    rw [reachedFrom_succ] at mem ⊢
    split
    · next closed =>
      rw [if_pos closed] at mem
      by_contra fresh
      have new := mem_newMoves.mpr ⟨⟨j, mem, after⟩, fresh⟩
      rw [List.isEmpty_iff.mp closed] at new
      exact List.not_mem_nil new
    · next more =>
      rw [if_neg more] at mem
      have own_new (k : Nat) (new : k ∈ newMoves s slot seen) : k < slot.length := by
        obtain ⟨⟨i, old, after⟩, -⟩ := mem_newMoves.mp new
        exact inside i k (own i old) after
      obtain ⟨m, new⟩ := List.exists_mem_of_ne_nil _ (mt List.isEmpty_iff.mpr more)
      have less := card_unseen_lt (own_new m new) (mem_newMoves.mp new).2 (List.mem_eraseDups.mpr new)
      refine ih (fun i seen_i => ?_) (by omega) mem
      exact (List.mem_append.mp seen_i).elim (own i) (fun new => own_new i (List.mem_eraseDups.mp new))

/-- The search finds the moves that lie on a cycle of AFTER gates (R147). -/
theorem onCycle_iff (pass : ∀ i, i < slot.length → s.checkMove slot i = none) {i : Nat} (own : i < slot.length) :
    s.onCycle slot i = true ↔ TransGen (After s slot) i i := by
  rw [State.onCycle, List.contains_iff_mem, TransGen.head'_iff]
  constructor
  · intro mem
    obtain ⟨j, first, path⟩ := reachable_of_mem_reachedFrom mem
    exact ⟨j, mem_afterMoves.mp first, path⟩
  · rintro ⟨j, first, path⟩
    have fuel : (unseen slot (s.afterMoves slot i)).card ≤ slot.length :=
      (Finset.card_le_card Finset.sdiff_subset).trans (Finset.card_range _).le
    have own_first (k : Nat) (mem : k ∈ s.afterMoves slot i) : k < slot.length := after_lt pass own (mem_afterMoves.mp mem)
    have reached (k : Nat) (path : ReflTransGen (After s slot) j k) :
        k ∈ s.reachedFrom slot slot.length (s.afterMoves slot i) := by
      induction path with
      | refl => exact mem_reachedFrom_of_mem _ (mem_afterMoves.mpr first)
      | tail _ after ih => exact reachedFrom_closed (fun _ _ own => after_lt pass own) own_first fuel ih after
    exact reached i path

theorem reachedFrom_congr {t : State} (same : t.afterMoves slot = s.afterMoves slot) (n : Nat) (seen : List Nat) :
    t.reachedFrom slot n seen = s.reachedFrom slot n seen := by
  induction n generalizing seen with
  | zero => rfl
  | succ n ih =>
    have new : newMoves t slot seen = newMoves s slot seen := by rw [newMoves, same, newMoves]
    rw [reachedFrom_succ, reachedFrom_succ, new, ih]

end Reached

/-! #### The verdict of validation -/

section Validate

variable {s : State} {slot : Slot}

theorem findSome?_range_eq_some {α : Type} {n : Nat} {f : Nat → Option α} {v : α} :
    (List.range n).findSome? f = some v ↔ ∃ i < n, f i = some v ∧ ∀ j < i, f j = none := by
  rw [← List.map_coe_finRange_eq_range, List.findSome?_map,
    findSome_eq_some_iff_least (List.pairwise_lt_finRange n) List.mem_finRange]
  constructor
  · rintro ⟨i, here, below⟩
    exact ⟨i, i.isLt, here, fun j less => below ⟨j, less.trans i.isLt⟩ less⟩
  · rintro ⟨i, own, here, below⟩
    exact ⟨⟨i, own⟩, here, fun j less => below j less⟩

/-- The lowest move that fails an entry check, with the cause (R146). -/
def entryFailure (s : State) (slot : Slot) : Option (Nat × BadPlan) :=
  (List.range slot.length).findSome? (fun i => (s.checkMove slot i).map (fun c => (i, c)))

theorem entryFailure_eq_some {i : Nat} {c : BadPlan} : entryFailure s slot = some (i, c) ↔
    i < slot.length ∧ s.checkMove slot i = some c ∧ ∀ j, j < i → s.checkMove slot j = none := by
  simp only [entryFailure, findSome?_range_eq_some, Option.map_eq_some_iff, Option.map_eq_none_iff, Prod.mk.injEq]
  constructor
  · rintro ⟨_, own, ⟨_, fails, rfl, rfl⟩, below⟩
    exact ⟨own, fails, below⟩
  · rintro ⟨own, fails, below⟩
    exact ⟨i, own, ⟨c, fails, rfl, rfl⟩, below⟩

theorem entryFailure_none (pass : ∀ i, i < slot.length → s.checkMove slot i = none) : entryFailure s slot = none := by
  simp only [entryFailure, List.findSome?_eq_none_iff, List.mem_range, Option.map_eq_none_iff]
  exact pass

theorem validate_of_some {v : Nat × BadPlan} (fails : entryFailure s slot = some v) : s.validate slot = some v := by
  unfold entryFailure at fails
  simp only [State.validate, fails]

theorem validate_of_none (passes : entryFailure s slot = none) :
    s.validate slot = ((List.range slot.length).find? (fun i => s.onCycle slot i)).map (fun i => (i, .cycle)) := by
  unfold entryFailure at passes
  simp only [State.validate, passes]

/-- A cause other than CYCLE is that of an entry check (R146). -/
theorem validate_eq_entryFailure {i : Nat} {c : BadPlan} (other : c ≠ .cycle) :
    s.validate slot = some (i, c) ↔ entryFailure s slot = some (i, c) := by
  cases found : entryFailure s slot with
  | some v => rw [validate_of_some found]
  | none =>
    rw [validate_of_none found]
    simp [other.symm]

theorem validate_frameHeard (s : State) (slot : Slot) : s.frameHeard.validate slot = s.validate slot := by
  have checks : s.frameHeard.checkMove slot = s.checkMove slot := by
    rw [frameHeard_eq]
    rfl
  have after : s.frameHeard.afterMoves slot = s.afterMoves slot := by
    rw [frameHeard_eq]
    rfl
  simp only [State.validate, checks, State.onCycle, after, reachedFrom_congr after]

variable (pass : ∀ i, i < slot.length → s.checkMove slot i = none)

include pass

theorem validate_eq_cycle {i : Nat} {c : BadPlan} : s.validate slot = some (i, c) ↔
    c = .cycle ∧ i < slot.length ∧ Relation.TransGen (After s slot) i i ∧
      ∀ j, j < i → ¬ Relation.TransGen (After s slot) j j := by
  simp only [validate_of_none (entryFailure_none pass), Option.map_eq_some_iff, List.find?_range_eq_some, List.mem_range,
    Prod.mk.injEq, Bool.not_eq_true', ← Bool.not_eq_true]
  constructor
  · rintro ⟨_, ⟨cyclic, own, below⟩, rfl, rfl⟩
    exact ⟨rfl, own, (onCycle_iff pass own).mp cyclic,
      fun j less => mt (onCycle_iff pass (less.trans own)).mpr (below j less)⟩
  · rintro ⟨rfl, own, cyclic, below⟩
    exact ⟨i, ⟨(onCycle_iff pass own).mpr cyclic, own,
      fun j less => mt (onCycle_iff pass (less.trans own)).mp (below j less)⟩, rfl, rfl⟩

theorem validate_eq_none : s.validate slot = none ↔
    ∀ i, i < slot.length → ¬ Relation.TransGen (After s slot) i i := by
  simp only [validate_of_none (entryFailure_none pass), Option.map_eq_none_iff, List.find?_eq_none, List.mem_range]
  exact forall₂_congr fun i own => not_congr (onCycle_iff pass own)

end Validate

end Sys2Proof.Laws

namespace Sys2Proof.Proofs

open Sys2Proof.Machine Sys2Proof.Safety Sys2Proof.Laws

/-- Settles O33: the entry checks one by one, and the cycle search, which has fuel for every move of the plan. -/
theorem cycleCheckFindsTheLowestCycle : Obligations.CycleCheckFindsTheLowestCycle := by
  unfold Obligations.CycleCheckFindsTheLowestCycle
  refine ⟨fun s slot i => ⟨fun k => slotEntry_eq_place, checkMove_empty, fun e entry => ?entry⟩,
    fun s slot i c other => (validate_eq_entryFailure other).trans entryFailure_eq_some,
    fun s slot pass => ⟨validate_eq_none pass, fun i c => validate_eq_cycle pass⟩, rfl,
    fun tag slot s n i listens number defined fails => ?run⟩
  case entry =>
    intro configured pending beyond itself unwatched
    have isConfigured : ¬ (s.ax e.axis).config.isNone = true ↔ configured := not_congr Option.isNone_iff_eq_none
    have isPending : s.gangPending e.axis = true ↔ pending := gangPending_iff_config
    have isBeyond : e.gates.any (namesMove fun k => decide (slot.length ≤ k)) = true ↔ beyond := by
      simp only [any_namesMove_iff, decide_eq_true_eq, beyond]
    have isItself : e.gates.any (namesMove fun k => decide (k = i)) = true ↔ itself := by
      simp only [any_namesMove_iff, decide_eq_true_eq, exists_and_right, exists_eq_right, itself]
    have isUnwatched : e.gates.any (fun g => !s.watchFits g) = true ↔ unwatched := any_unwatched_iff
    rw [checkMove_entry entry, ← isConfigured, ← isPending, ← isBeyond, ← isItself, ← isUnwatched]
    refine ⟨fun unknown => ?_, fun known pend => ?_, fun known whole far => ?_, fun known whole near self => ?_,
      fun known whole near other late => ?_, fun known whole near other watched => ?_⟩
    · rw [if_pos (not_not.mp unknown)]
    · rw [if_neg known, if_pos pend]
    · rw [if_neg known, if_neg whole, if_pos far]
    · rw [if_neg known, if_neg whole, if_neg near, if_pos self]
    · rw [if_neg known, if_neg whole, if_neg near, if_neg other, if_pos late]
    · rw [if_neg known, if_neg whole, if_neg near, if_neg other, if_neg watched]
  case run =>
    have slots : s.frameHeard.slots = s.slots := by rw [frameHeard_eq]
    exact exec_answers listens rfl (runTaken_badPlan (resetting_listens listens) (finOf_eq_some.mpr number)
      (by rwa [slots]) (by rwa [slots, validate_frameHeard]))

end Sys2Proof.Proofs

/-! ### The plan store and the slots (R135 to R140) -/

namespace Sys2Proof.Laws

open Sys2Proof.Machine Sys2Proof.Safety

/-! #### The fields of a move entry (R136) -/

/-- A target carried by a kind and a value (R136). -/
def TargetSent (kind : Byte) (value : Half) (t : Target) : Prop :=
  kind = 0 ∧ value.toNat ≤ 16000 ∧ t = .abs value.toNat ∨
    (∃ k : Fin 4, kind = 1 ∧ value.toNat = k.val ∧ t = .stop k) ∨
    kind = 2 ∧ value = 0 ∧ t = .endLow ∨ kind = 3 ∧ value = 0 ∧ t = .endHigh ∨
    kind = 4 ∧ -16000 ≤ value.toInt ∧ value.toInt ≤ 16000 ∧ t = .rel value.toInt

theorem targetOf_eq_some {kind : Byte} {value : Half} {t : Target} :
    targetOf kind value = some t ↔ TargetSent kind value t := by
  constructor
  · intro sent
    simp only [targetOf] at sent
    split_ifs at sent with abs stop within low zero high zero rel within
    · obtain ⟨p, within, rfl⟩ := Option.map_eq_some_iff.mp sent
      obtain ⟨⟨-, le⟩, rfl⟩ := inRange_eq_some.mp within
      exact .inl ⟨abs, le, rfl⟩
    · cases sent
      exact .inr (.inl ⟨⟨value.toNat, within⟩, stop, rfl, rfl⟩)
    · cases sent
      exact .inr (.inr (.inl ⟨low, zero, rfl⟩))
    · cases sent
      exact .inr (.inr (.inr (.inl ⟨high, zero, rfl⟩)))
    · cases sent
      exact .inr (.inr (.inr (.inr ⟨rel, within.1, within.2, rfl⟩)))
  · rintro (⟨rfl, le, rfl⟩ | ⟨k, rfl, number, rfl⟩ | ⟨rfl, rfl, rfl⟩ | ⟨rfl, rfl, rfl⟩ | ⟨rfl, lo, hi, rfl⟩)
    · exact Option.map_eq_some_iff.mpr ⟨_, inRange_eq_some.mpr ⟨⟨Nat.zero_le _, le⟩, rfl⟩, rfl⟩
    · exact (dif_pos (number ▸ k.isLt)).trans (congrArg (fun n => some (Target.stop n)) (Fin.ext number))
    · rfl
    · rfl
    · simp [targetOf, lo, hi]

/-- A gate carried by its four bytes (R136). -/
def GateSent (g : GateArgs) (h : Gate) : Prop :=
  g.kind = 1 ∧ g.a.toNat ≤ 31 ∧ g.b.toNat ≤ 1000 ∧ h = .after g.a.toNat g.b.toNat ∨
    (∃ a : AxisNo, g.a.toNat = a.val ∧ g.b.toNat ≤ 16000 ∧
      (g.kind = 2 ∧ h = .whenGe a g.b.toNat ∨ g.kind = 3 ∧ h = .whenLe a g.b.toNat)) ∨
    (∃ m : MarkNo, g.kind = 4 ∧ g.a.toNat = m.val ∧ g.b = 0 ∧ h = .mark m)

/-- A WHEN gate carried by the number of its axis and a position. -/
def watchOf (watch : AxisNo → Nat → Gate) (a : Byte) (b : Half) : Option Gate :=
  match finOf 12 a with
  | some x => (inRange 0 16000 b.toNat).map (watch x)
  | none => none

theorem watchOf_eq_some {watch : AxisNo → Nat → Gate} {a : Byte} {b : Half} {h : Gate} :
    watchOf watch a b = some h ↔ ∃ x : AxisNo, a.toNat = x.val ∧ b.toNat ≤ 16000 ∧ h = watch x b.toNat := by
  unfold watchOf
  cases axis : finOf 12 a with
  | none =>
    simp only [reduceCtorEq, false_iff]
    rintro ⟨x, number, -⟩
    rw [finOf_eq_some.mpr number] at axis
    cases axis
  | some x =>
    rw [finOf_eq_some] at axis
    simp only [Option.map_eq_some_iff, inRange_eq_some, Nat.zero_le, true_and]
    constructor
    · rintro ⟨_, ⟨le, rfl⟩, rfl⟩
      exact ⟨x, axis, le, rfl⟩
    · rintro ⟨y, number, le, rfl⟩
      obtain rfl : x = y := Fin.ext (axis.symm.trans number)
      exact ⟨_, ⟨le, rfl⟩, rfl⟩

theorem gateOf_eq_some {g : GateArgs} {h : Gate} : gateOf g = some h ↔ GateSent g h := by
  obtain ⟨kind, a, b⟩ := g
  unfold GateSent
  constructor
  · intro sent
    simp only [gateOf] at sent
    split_ifs at sent with after within ge le mark zero
    · cases sent
      exact .inl ⟨after, Nat.le_of_lt_succ within.1, within.2, rfl⟩
    · obtain ⟨x, number, within, is⟩ := watchOf_eq_some (watch := .whenGe).mp sent
      exact .inr (.inl ⟨x, number, within, .inl ⟨ge, is⟩⟩)
    · obtain ⟨x, number, within, is⟩ := watchOf_eq_some (watch := .whenLe).mp sent
      exact .inr (.inl ⟨x, number, within, .inr ⟨le, is⟩⟩)
    · obtain ⟨m, number, rfl⟩ := Option.map_eq_some_iff.mp sent
      exact .inr (.inr ⟨m, mark, finOf_eq_some.mp number, zero, rfl⟩)
  · rintro (⟨rfl, lo, hi, rfl⟩ | ⟨x, number, within, ⟨rfl, rfl⟩ | ⟨rfl, rfl⟩⟩ | ⟨m, rfl, number, rfl, rfl⟩)
    · simp [gateOf, Nat.lt_succ_of_le lo, hi]
    · exact watchOf_eq_some (watch := .whenGe).mpr ⟨x, number, within, rfl⟩
    · exact watchOf_eq_some (watch := .whenLe).mpr ⟨x, number, within, rfl⟩
    · exact Option.map_eq_some_iff.mpr ⟨m, finOf_eq_some.mpr number, rfl⟩

/-- A set-mark as it is carried: absent as 0xFF (R136). -/
def MarkSent (b : Byte) (m : Option MarkNo) : Prop :=
  b = 0xFF ∧ m = none ∨ ∃ k : MarkNo, b.toNat = k.val ∧ m = some k

theorem setMarkOf_eq_some {b : Byte} {m : Option MarkNo} : setMarkOf b = some m ↔ MarkSent b m := by
  unfold setMarkOf MarkSent
  split
  · next absent =>
    subst absent
    simp only [Option.some.injEq, true_and, eq_comm (a := none)]
    refine ⟨.inl, fun sent => sent.resolve_right ?_⟩
    rintro ⟨k, number, -⟩
    exact absurd k.isLt (number ▸ by decide)
  · next present =>
    simp only [Option.map_eq_some_iff, finOf_eq_some, present, false_and, false_or, eq_comm (b := m)]

/-- A list of parts is well formed exactly where each part is. -/
theorem collect_eq_some {α β : Type} {f : α → Option β} {collect : List α → Option (List β)} (nil : collect [] = some [])
    (cons : ∀ a as, collect (a :: as) = (f a).bind fun x => (collect as).map (x :: ·)) {as : List α} {xs : List β} :
    collect as = some xs ↔ List.Forall₂ (fun a x => f a = some x) as xs := by
  induction as generalizing xs with
  | nil => rw [nil, List.forall₂_nil_left_iff, Option.some.injEq, eq_comm]
  | cons a as ih =>
    simp only [cons, Option.bind_eq_some_iff, Option.map_eq_some_iff, ih, List.forall₂_cons_left_iff]
    grind

theorem gatesOf_eq_some {gs : List GateArgs} {hs : List Gate} :
    gatesOf gs = some hs ↔ List.Forall₂ GateSent gs hs := by
  have sent : GateSent = fun g h => gateOf g = some h := funext₂ fun _ _ => propext gateOf_eq_some.symm
  rw [sent]
  refine collect_eq_some (f := gateOf) (collect := gatesOf) rfl fun g gs => ?_
  rw [gatesOf]
  cases gateOf g <;> cases gatesOf gs <;> rfl

theorem entriesOf_eq_some {es : List EntryArgs} {xs : List (Option PlanEntry)} :
    entriesOf es = some xs ↔ List.Forall₂ (fun e x => entryOf e = some x) es xs := by
  refine collect_eq_some (f := entryOf) (collect := entriesOf) rfl fun e es => ?_
  rw [entriesOf]
  cases entryOf e <;> cases entriesOf es <;> rfl

/-! #### A move entry (R136) -/

section Entry

variable {e : EntryArgs} {y : PlanEntry}

theorem entryOf_eq_some_none : entryOf e = some none ↔ e.axis = 0xFF := by
  unfold entryOf
  split
  · next empty => simp [empty]
  · next move =>
    simp only [Option.bind_eq_bind, Option.bind_eq_some_iff, Option.some.injEq, reduceCtorEq, and_false, exists_false]
    exact iff_of_false id move

theorem packed_profile {p : Fin 8} : finOf 8 (e.packed &&& 0x0F#8) = some p ↔ e.packed.toNat % 16 = p.val := by
  rw [finOf_eq_some, BitVec.toNat_and]
  exact Eq.congr_left (Nat.and_two_pow_sub_one_eq_mod e.packed.toNat 4)

theorem packed_priority : (e.packed.extractLsb' 4 2).toNat = e.packed.toNat / 16 % 4 := by
  rw [BitVec.extractLsb'_toNat, Nat.shiftRight_eq_div_pow]

/-- The form of a move entry (R136): the fields as they were sent. -/
theorem entryOf_eq_some_some : entryOf e = some (some y) ↔ e.axis.toNat = y.axis.val ∧
    TargetSent e.kind e.value y.target ∧ e.packed.toNat % 16 = y.profile.val ∧ y.priority = e.packed.toNat / 16 % 4 ∧
      List.Forall₂ GateSent e.gates y.gates ∧ MarkSent e.setMark y.setMark := by
  unfold entryOf
  split
  · next empty =>
    simp only [Option.some.injEq, reduceCtorEq, false_iff]
    rintro ⟨number, -⟩
    exact absurd y.axis.isLt (by rw [← number, empty]; decide)
  · simp only [Option.bind_eq_bind, Option.bind_eq_some_iff, finOf_eq_some (k := 12), packed_profile, packed_priority,
      targetOf_eq_some, gatesOf_eq_some, setMarkOf_eq_some, Option.some.injEq]
    constructor
    · rintro ⟨a, number, t, target, p, profile, gs, gates, m, mark, rfl⟩
      exact ⟨number, target, profile, rfl, gates, mark⟩
    · rintro ⟨number, target, profile, priority, gates, mark⟩
      exact ⟨_, number, _, target, _, profile, _, gates, _, mark, by rw [← priority]⟩

end Entry

/-! #### Slots in use (R138) -/

section InUse

variable {s : State} {n : SlotNo} {r : RunnerNo}

/-- A runner runs a slot. -/
def Runs (s : State) (n : SlotNo) (r : RunnerNo) : Prop := ∃ run, s.run r = some run ∧ run.slot = n

/-- The test of `State.runnerOf` on one runner. -/
def runsSlot (s : State) (n : SlotNo) (r : RunnerNo) : Bool :=
  match s.run r with
  | none => false
  | some run => decide (run.slot = n)

theorem runsSlot_iff : runsSlot s n r = true ↔ Runs s n r := by
  unfold runsSlot Runs
  cases s.run r <;> simp

theorem runnerOf_eq : s.runnerOf n = allRunners.find? (runsSlot s n) := rfl

theorem runnerOf_eq_some : s.runnerOf n = some r ↔ Runs s n r ∧ ∀ q, q < r → ¬ Runs s n q := by
  have e : allRunners = List.finRange 3 := by decide
  rw [runnerOf_eq, e, ← Fin.find?_eq_find?_finRange, Fin.find?_eq_some_iff]
  simp only [runsSlot_iff, ← Bool.not_eq_true]

theorem runnerOf_eq_none : s.runnerOf n = none ↔ ∀ r, ¬ Runs s n r := by
  simp only [runnerOf_eq, List.find?_eq_none, mem_allRunners, true_imp_iff, runsSlot_iff]

theorem runnerOf_isSome : (s.runnerOf n).isSome = true ↔ ∃ r, Runs s n r := by
  rw [← not_iff_not, Option.not_isSome_iff_eq_none, runnerOf_eq_none, not_exists]

/-- A place lies in the range of a slot in use (R138). -/
def Protected (s : State) (i : Nat) : Prop :=
  ∃ r run, s.run r = some run ∧ (s.slots[run.slot]).start ≤ i ∧ i < (s.slots[run.slot]).start + (s.slots[run.slot]).length

theorem placeProtected_iff {i : Nat} : s.placeProtected i = true ↔ Protected s i := by
  simp only [State.placeProtected, List.any_eq_true, mem_allRunners, true_and]
  refine exists_congr fun r => ?_
  cases s.run r <;> simp

theorem anyProtected_iff {start count : Nat} :
    (List.range count).any (fun k => s.placeProtected (start + k)) = true ↔
      ∃ i, start ≤ i ∧ i < start + count ∧ Protected s i := by
  simp only [List.any_eq_true, List.mem_range, placeProtected_iff]
  constructor
  · rintro ⟨k, less, held⟩
    exact ⟨start + k, Nat.le_add_right _ _, Nat.add_lt_add_left less _, held⟩
  · rintro ⟨i, lo, hi, held⟩
    obtain ⟨k, rfl⟩ := Nat.exists_eq_add_of_le lo
    exact ⟨k, Nat.lt_of_add_lt_add_left hi, held⟩

end InUse

/-! #### Places replaced (R137) -/

section Places

variable {places : Vector (Option PlanEntry) 64} {i : Nat} {es : List (Option PlanEntry)} {k : Fin 64}

theorem setPlaces_outside (out : k.val < i ∨ i + es.length ≤ k.val) : (setPlaces places i es)[k] = places[k] := by
  induction es generalizing places i with
  | nil => rfl
  | cons e es ih =>
    rw [List.length_cons] at out
    rw [setPlaces, ih (by omega)]
    exact Vector.getElem_setIfInBounds_ne k.isLt (by omega)

theorem setPlaces_inside {e : Option PlanEntry} (lo : i ≤ k.val) (sent : es[k.val - i]? = some e) :
    (setPlaces places i es)[k] = e := by
  induction es generalizing places i with
  | nil => simp at sent
  | cons x es ih =>
    rw [setPlaces]
    rcases Nat.eq_or_lt_of_le lo with rfl | less
    · rw [Nat.sub_self, List.getElem?_cons_zero, Option.some.injEq] at sent
      rw [setPlaces_outside (.inl (Nat.lt_succ_self _)), ← sent]
      exact Vector.getElem_setIfInBounds_self k.isLt
    · have next : k.val - i = k.val - (i + 1) + 1 := by omega
      rw [next, List.getElem?_cons_succ] at sent
      exact ih less sent

end Places

/-! #### The answers of PLAN_WRITE and PLAN_DEFINE -/

section Write

variable {u : State} {tag start count : Byte} {es : List EntryArgs} {xs : List (Option PlanEntry)}

/-- The range of a PLAN_WRITE or a PLAN_READ (R137, R139). -/
def InPlaces (start count : Byte) : Prop :=
  start.toNat < 64 ∧ 1 ≤ count.toNat ∧ start.toNat + count.toNat ≤ 64

theorem outOfPlaces_iff : (64 ≤ start.toNat ∨ count = 0 ∨ 64 < start.toNat + count.toNat) ↔ ¬ InPlaces start count := by
  have zero : count = 0 ↔ count.toNat = 0 := byte_eq_iff count 0 (by decide)
  rw [zero, InPlaces]
  omega

theorem planWriteFits_count (fits : planWriteFits count es = true) : count.toNat = es.length := by
  simp only [planWriteFits, Bool.and_eq_true, beq_iff_eq] at fits
  exact fits.1.1

variable (awake : u.resetting = false) (fits : planWriteFits count es = true)

include awake fits

theorem planWriteTaken_outside (out : ¬ InPlaces start count) :
    planWriteTaken tag start count es u = u.reply 0x28 tag .badArg [] := by
  simp only [planWriteTaken, State.refuse, fits, awake, if_pos (outOfPlaces_iff.mpr out)]
  rfl

variable (inside : InPlaces start count)

include inside

theorem planWriteTaken_malformed (bad : entriesOf es = none) :
    planWriteTaken tag start count es u = u.reply 0x28 tag .badArg [] := by
  simp only [planWriteTaken, State.refuse, fits, awake, if_neg (mt outOfPlaces_iff.mp (not_not.mpr inside)), bad]
  rfl

theorem planWriteTaken_wellFormed (good : entriesOf es = some xs) : planWriteTaken tag start count es u =
    if (List.range count.toNat).any (fun k => u.placeProtected (start.toNat + k)) then u.reply 0x28 tag .isProtected []
    else State.reply { u with places := setPlaces u.places start.toNat xs } 0x28 tag .ok [] := by
  simp only [planWriteTaken, State.refuse, fits, awake, if_neg (mt outOfPlaces_iff.mp (not_not.mpr inside)), good]
  rfl

end Write

section Define

variable {u : State} {tag slot start length clear timeout : Byte} {n : SlotNo}

/-- Check 2 of R140. -/
def InSlot (start length timeout : Byte) : Prop :=
  start.toNat < 64 ∧ length.toNat ≤ 32 ∧ start.toNat + length.toNat ≤ 64 ∧ timeout.toNat ≤ 120

/-- The record of a PLAN_DEFINE; length 0 undefines the slot (R140). -/
def slotSent (start length clear timeout : Byte) : Slot :=
  if length = 0 then ⟨0, 0, 0, 0⟩ else ⟨start.toNat, length.toNat, clear, timeout.toNat⟩

theorem planDefineTaken_outside (awake : u.resetting = false) (out : ¬ InSlot start length timeout) :
    planDefineTaken tag slot start length clear timeout u = u.reply 0x2A tag .badArg [] := by
  have none : slotOf start length clear timeout = none := if_neg out
  cases named : finOf 8 slot <;> simp [planDefineTaken, State.refuse, awake, named, none]

variable (awake : u.resetting = false) (named : finOf 8 slot = some n) (inside : InSlot start length timeout)

include awake named inside

theorem planDefineTaken_inside : planDefineTaken tag slot start length clear timeout u =
    if (u.runnerOf n).isSome then u.reply 0x2A tag .isProtected []
    else State.reply { u with slots := u.slots.set n (slotSent start length clear timeout) } 0x2A tag .ok [] := by
  have record : slotOf start length clear timeout = some (slotSent start length clear timeout) := if_pos inside
  simp only [planDefineTaken, State.refuse, awake, named, record]
  rfl

end Define

end Sys2Proof.Laws

namespace Sys2Proof.Proofs

open Sys2Proof.Machine Sys2Proof.Safety Sys2Proof.Laws

/-- Settles O31: the answers by the checks in their order, the places one by one, an entry field by field. -/
theorem planWriteAndDefineReplace : Obligations.PlanWriteAndDefineReplace := by
  unfold Obligations.PlanWriteAndDefineReplace
  refine ⟨fun tag start count es s listens fits => ?write, fun es xs => entriesOf_eq_some, fun e x => ?entry,
    fun tag slot start length clear timeout s n listens number => ?define⟩
  case write =>
    have awake := resetting_listens listens
    intro u answers inRange protectedPlace
    have good (xs : List (Option PlanEntry)) (inside : inRange) (sent : entriesOf es = some xs) :=
      planWriteTaken_wellFormed (tag := tag) awake fits inside sent
    refine ⟨fun out => exec_answers listens rfl (planWriteTaken_outside awake fits out),
      fun inside bad => exec_answers listens rfl (planWriteTaken_malformed awake fits inside bad),
      fun xs inside sent held => ?_, fun xs inside sent free => ?_⟩
    · exact exec_answers listens rfl ((good xs inside sent).trans (if_pos (anyProtected_iff.mpr held)))
    · have unheld : ¬ (List.range count.toNat).any (fun k => u.placeProtected (start.toNat + k)) = true := by
        rw [anyProtected_iff]
        rintro ⟨i, lo, hi, held⟩
        exact free i lo hi held
      refine ⟨setPlaces u.places start.toNat xs, exec_answers listens rfl ((good xs inside sent).trans (if_neg unheld)),
        fun k e lo => setPlaces_inside lo, fun k out => setPlaces_outside ?_⟩
      rwa [← (entriesOf_eq_some.mp sent).length_eq, ← planWriteFits_count fits]
  case entry =>
    cases x with
    | none => simp [entryOf_eq_some_none]
    | some y =>
      simp only [reduceCtorEq, and_false, false_or, Option.some.injEq, exists_eq_left']
      exact entryOf_eq_some_some
  case define =>
    have awake := resetting_listens listens
    have named : finOf 8 slot = some n := finOf_eq_some.mpr number
    intro u answers inRange used record
    have inUse : (u.runnerOf n).isSome = true ↔ used := runnerOf_isSome
    refine ⟨fun out => exec_answers listens rfl (planDefineTaken_outside awake out), fun inside held => ?_,
      fun inside free => ?_⟩
    · exact exec_answers listens rfl ((planDefineTaken_inside awake named inside).trans (if_pos (inUse.mpr held)))
    · exact exec_answers listens rfl ((planDefineTaken_inside awake named inside).trans (if_neg (mt inUse.mp free)))

end Sys2Proof.Proofs

/-! ### PLAN_READ (R139) -/

namespace Sys2Proof.Laws

open Sys2Proof.Machine Sys2Proof.Safety

/-! #### The bytes of an entry (R135, R192) -/

section Bytes

theorem b1_toNat (b : Byte) : b1 b.toNat = [b] := by simp [b1, byteOf]

theorem halfBytes_eq (h : Half) : halfBytes h = b2 h.toNat := by
  have hi : hiByte h = byteOf (h.toNat / 256) := congrArg byteOf (Nat.shiftRight_eq_div_pow h.toNat 8)
  rw [halfBytes, hi]
  rfl

theorem target_bytes {kind : Byte} {value : Half} {t : Target} (sent : TargetSent kind value t) :
    t.bytes = kind :: b2 value.toNat := by
  rcases sent with ⟨rfl, -, rfl⟩ | ⟨k, rfl, number, rfl⟩ | ⟨rfl, rfl, rfl⟩ | ⟨rfl, rfl, rfl⟩ | ⟨rfl, -, -, rfl⟩
  · rfl
  · rw [number]
    rfl
  · rfl
  · rfl
  · rw [Target.bytes, bInt, BitVec.ofInt_toInt, halfBytes_eq]
    rfl

/-- The four bytes of a gate. -/
def gateArgBytes (g : GateArgs) : List Byte := [g.kind, g.a] ++ b2 g.b.toNat

theorem gate_bytes {g : GateArgs} {h : Gate} (sent : GateSent g h) : h.bytes = gateArgBytes g := by
  obtain ⟨kind, a, b⟩ := g
  rcases sent with ⟨rfl, -, -, rfl⟩ | ⟨x, number, -, ⟨rfl, rfl⟩ | ⟨rfl, rfl⟩⟩ | ⟨m, rfl, number, rfl, rfl⟩
  · simp [Gate.bytes, gateArgBytes, b1_toNat]
  · simp [Gate.bytes, gateArgBytes, ← number, b1_toNat]
  · simp [Gate.bytes, gateArgBytes, ← number, b1_toNat]
  · simp [Gate.bytes, gateArgBytes, ← number, b1_toNat]

theorem gates_bytes {gs : List GateArgs} {hs : List Gate} (sent : List.Forall₂ GateSent gs hs) :
    hs.flatMap Gate.bytes = gs.flatMap gateArgBytes := by
  induction sent with
  | nil => rfl
  | cons head _ ih => rw [List.flatMap_cons, List.flatMap_cons, gate_bytes head, ih]

theorem setMark_bytes {b : Byte} {m : Option MarkNo} (sent : MarkSent b m) : bOpt1 (m.map Fin.val) = [b] := by
  rcases sent with ⟨rfl, rfl⟩ | ⟨k, number, rfl⟩
  · rfl
  · rw [Option.map_some, ← number]
    exact b1_toNat b

/-- A place holds the bytes of the entry that was written (R135). -/
theorem placeBytes_entryOf {e : EntryArgs} {x : PlanEntry} (sent : entryOf e = some (some x))
    (count : e.packed.toNat / 64 = e.gates.length) : placeBytes (some x) =
      [e.axis, e.kind] ++ b2 e.value.toNat ++ [e.packed, e.setMark] ++ e.gates.flatMap gateArgBytes := by
  obtain ⟨axis, target, profile, priority, gates, mark⟩ := entryOf_eq_some_some.mp sent
  have packed : x.profile.val + 16 * x.priority + 64 * x.gates.length = e.packed.toNat := by
    rw [← gates.length_eq]
    omega
  simp only [placeBytes, packed, ← axis, b1_toNat, target_bytes target, gates_bytes gates, setMark_bytes mark]
  simp

end Bytes

/-! #### The two forms of the reply (R139) -/

section Read

/-- The entries that fit are a run of whole entries from the first one, as long as the room allows. -/
theorem fitEntries_eq (room : Nat) (es : List (Option PlanEntry)) :
    let k := (fitEntries room es).1
    k ≤ es.length ∧ (fitEntries room es).2 = (es.take k).flatMap placeBytes ∧
      ((es.take k).flatMap placeBytes).length ≤ room ∧
      (k < es.length → room < ((es.take (k + 1)).flatMap placeBytes).length) := by
  induction es generalizing room with
  | nil => simp [fitEntries]
  | cons e es ih =>
    by_cases fits : (placeBytes e).length ≤ room
    · obtain ⟨few, bytes, short, long⟩ := ih (room - (placeBytes e).length)
      simp only [fitEntries, if_pos fits, List.take_succ_cons, List.flatMap_cons, List.length_append, List.length_cons]
      refine ⟨by omega, by rw [bytes], by omega, fun more => ?_⟩
      have := long (by omega)
      omega
    · simp only [fitEntries, if_neg fits]
      exact ⟨Nat.zero_le _, rfl, Nat.zero_le _, fun _ => by simpa using fits⟩

variable {u : State} {tag first count slot : Byte} {n : SlotNo}

/-- The bytes of the places from one on. -/
def bytesFrom (u : State) (first : Byte) (k : Nat) : List Byte :=
  ((u.places.toList.drop first.toNat).take k).flatMap placeBytes

theorem planReadTaken_outside (awake : u.resetting = false) (out : ¬ InPlaces first count) :
    planReadTaken tag first (some count) u = u.reply 0x29 tag .badArg [] := by
  simp only [planReadTaken, State.refuse, awake, if_pos (outOfPlaces_iff.mpr out)]
  rfl

theorem planReadTaken_entries (awake : u.resetting = false) (inside : InPlaces first count) :
    ∃ k, k ≤ count.toNat ∧ (bytesFrom u first k).length ≤ 57 ∧ planReadTaken tag first (some count) u =
        u.reply 0x29 tag .ok ([first, BitVec.ofNat 8 k] ++ bytesFrom u first k) ∧
      (k < count.toNat → 57 < (bytesFrom u first (k + 1)).length) := by
  obtain ⟨few, bytes, short, long⟩ := fitEntries_eq 57 (u.placesFrom first.toNat count.toNat)
  have held : (u.placesFrom first.toNat count.toNat).length = count.toNat := by
    obtain ⟨-, -, ends⟩ := inside
    simp only [State.placesFrom, List.length_take, List.length_drop, Vector.length_toList]
    omega
  have taken (k : Nat) (le : k ≤ count.toNat) :
      ((u.placesFrom first.toNat count.toNat).take k).flatMap placeBytes = bytesFrom u first k := by
    rw [State.placesFrom, List.take_take, Nat.min_eq_left le, bytesFrom]
  rw [held] at few long
  rw [taken _ few] at bytes short
  refine ⟨_, few, short, ?_, fun more => taken _ more ▸ long more⟩
  simp only [planReadTaken, awake, if_neg (mt outOfPlaces_iff.mp (not_not.mpr inside)), bytes]
  rfl

theorem planReadTaken_slot (awake : u.resetting = false) (named : finOf 8 slot = some n) :
    planReadTaken tag slot none u = u.reply 0x29 tag .ok (u.slotReply n) := by
  simp only [planReadTaken, awake, named]
  rfl

/-- The bytes of a slot's record in the slot form (R139). -/
def slotBytes (d : Slot) : List Byte :=
  [if d.length = 0 then 0 else 1, BitVec.ofNat 8 d.start, BitVec.ofNat 8 d.length, d.clearMarks, BitVec.ofNat 8 d.timeout]

theorem slotReply_eq : u.slotReply n =
    slotBytes u.slots[n] ++ bFlag (u.runnerOf n).isSome ++ bOpt1 ((u.runnerOf n).map Fin.val) := by
  simp [State.slotReply, slotBytes, bFlag_eq, b1, byteOf]

theorem slotReply_unused (unused : u.runnerOf n = none) : u.slotReply n = slotBytes u.slots[n] ++ [0, 0xFF] := by
  rw [slotReply_eq, unused, List.append_assoc]
  rfl

theorem slotReply_used {r : RunnerNo} (used : u.runnerOf n = some r) :
    u.slotReply n = slotBytes u.slots[n] ++ [1, BitVec.ofNat 8 r.val] := by
  rw [slotReply_eq, used, List.append_assoc]
  rfl

end Read

end Sys2Proof.Laws

namespace Sys2Proof.Proofs

open Sys2Proof.Machine Sys2Proof.Safety Sys2Proof.Laws

/-- Settles O32: the entry form is a run of whole entries, the slot form the record and its runner, and the bytes of a place
are those of the entry that was sent. -/
theorem planReadAnswersEntriesAndSlots : Obligations.PlanReadAnswersEntriesAndSlots := by
  unfold Obligations.PlanReadAnswersEntriesAndSlots
  refine ⟨fun tag first count s listens => ⟨fun out => ?_, fun inside => ?_⟩, fun tag slot s n listens number => ?slots, rfl,
    fun e x sent count => placeBytes_entryOf sent count⟩
  · exact exec_answers listens rfl (planReadTaken_outside (resetting_listens listens) out)
  · obtain ⟨k, few, short, reply, long⟩ := planReadTaken_entries (tag := tag) (resetting_listens listens) inside
    exact ⟨k, few, short, exec_answers listens rfl reply, long⟩
  case slots =>
    have answer := planReadTaken_slot (tag := tag) (resetting_listens listens) (finOf_eq_some.mpr number)
    refine ⟨fun unused => ?_, fun r used first => ?_⟩
    · exact exec_answers listens rfl (answer.trans (congrArg _ (slotReply_unused (runnerOf_eq_none.mpr unused))))
    · exact exec_answers listens rfl (answer.trans (congrArg _ (slotReply_used (runnerOf_eq_some.mpr ⟨used, first⟩))))

end Sys2Proof.Proofs

/-! ### The events of the runners (R143, R161, R165, R168, R169) -/

namespace Sys2Proof.Laws

open Sys2Proof.Machine Sys2Proof.Safety

/-! #### A runner comes to rest (R165, R168) -/

section Rest

variable {s : State} {r : RunnerNo} {run : Run}

theorem claimAtRest_iff : s.claimAtRest run = true ↔
    ∀ a ∈ run.claim, (s.ax a).motion = .idle ∨ (s.ax a).motion = .fault := by
  simp only [State.claimAtRest, List.all_eq_true, resting_iff]

theorem restRunner_free (free : s.run r = none) : s.restRunner r = s := by
  simp only [State.restRunner, free]

variable (is : s.run r = some run)

include is

theorem restRunner_moving (moving : ¬ ∀ a ∈ run.claim, (s.ax a).motion = .idle ∨ (s.ax a).motion = .fault) :
    s.restRunner r = s := by
  simp only [State.restRunner, is, if_neg (mt claimAtRest_iff.mp moving)]

theorem restRunner_pausing (rests : ∀ a ∈ run.claim, (s.ax a).motion = .idle ∨ (s.ax a).motion = .fault)
    (state : run.state = .pausing) : s.restRunner r = (s.setRun r (some { run with state := .paused })).report
      (.runPaused r run.slot run.reasons run.firstFault run.planError run.doneCount run.elapsed) := by
  simp only [State.restRunner, is, if_pos (claimAtRest_iff.mpr rests), state, State.runPaused]

theorem restRunner_halting (rests : ∀ a ∈ run.claim, (s.ax a).motion = .idle ∨ (s.ax a).motion = .fault)
    (state : run.state = .halting) {k : EndKind} (kind : run.endKind = some k) (plain : k ≠ .reset) :
    s.restRunner r = s.endRun r k := by
  simp only [State.restRunner, is, if_pos (claimAtRest_iff.mpr rests), state, kind]

/-- A run that waits for the soft reset, or has no end kind, is not ended by coming to rest (R172). -/
theorem restRunner_reset (state : run.state = .halting) (kind : run.endKind = some .reset ∨ run.endKind = none) :
    s.restRunner r = s := by
  rcases kind with kind | kind <;> simp [State.restRunner, is, state, kind]

theorem restRunner_going (state : run.state = .running ∨ run.state = .paused) : s.restRunner r = s := by
  rcases state with state | state <;> simp [State.restRunner, is, state]

end Rest

/-! #### An AFTER delay ends (R142, R143) -/

section Delay

variable {s : State} {r : RunnerNo} {run : Run} {i g : Nat}

theorem afterExpiryEffect_free (free : s.run r = none) : afterExpiryEffect r i g s = s := by
  simp only [afterExpiryEffect, free]

theorem expire_of_not_pending {m : RunMove} (done : m.state ≠ .pending) : m.expire g = m := by
  unfold RunMove.expire
  cases state : m.state
  case pending => exact absurd state done
  all_goals rfl

theorem expire_timing {m : RunMove} {n : Nat} (state : m.state = .pending) (gate : m.gates[g]? = some (.timing n)) :
    m.expire g = ⟨if ∀ x ∈ m.gates.set g .opened, x = .opened then .ready else .pending, m.gates.set g .opened⟩ := by
  have gates : m.gates.modify g GateState.expire = m.gates.set g .opened := by
    rw [List.modify_eq_set_getElem?, gate]
    rfl
  simp only [RunMove.expire, state, gates, List.all_eq_true, decide_eq_true_eq]

variable (is : s.run r = some run)

include is

theorem afterExpiryEffect_stopped (state : run.state ≠ .running) : afterExpiryEffect r i g s = s := by
  simp only [afterExpiryEffect, is, if_neg state]

theorem afterExpiryEffect_running (state : run.state = .running) :
    afterExpiryEffect r i g s = s.setRun r (some { run with moves := run.moves.modify i (RunMove.expire g) }) := by
  simp only [afterExpiryEffect, is, if_pos state]

theorem afterExpiryEffect_opens (state : run.state = .running) {m : RunMove} (move : run.moves[i]? = some m)
    (pending : m.state = .pending) {n : Nat} (gate : m.gates[g]? = some (.timing n)) :
    afterExpiryEffect r i g s = s.setRun r (some { run with
      moves := run.moves.set i
        ⟨if ∀ x ∈ m.gates.set g .opened, x = .opened then .ready else .pending, m.gates.set g .opened⟩ }) := by
  rw [afterExpiryEffect_running is state, List.modify_eq_set_getElem?, move, ← expire_timing pending gate]
  rfl

theorem afterExpiryEffect_undue (undue : ∀ m, run.moves[i]? = some m → m.state ≠ .pending) :
    afterExpiryEffect r i g s = s := by
  by_cases state : run.state = .running
  · have same : run.moves.modify i (RunMove.expire g) = run.moves := by
      rw [List.modify_eq_set_getElem?]
      cases move : run.moves[i]? with
      | none => rfl
      | some m =>
        obtain ⟨less, rfl⟩ := List.getElem?_eq_some_iff.mp move
        exact (congrArg (run.moves.set i) (expire_of_not_pending (undue _ move))).trans (List.set_getElem_self less)
    rw [afterExpiryEffect_running is state, same, ← is, setRun_self]
  · exact afterExpiryEffect_stopped is state

end Delay

/-! #### The elapsed time (R169) -/

section Timeout

variable {s : State} {r : RunnerNo} {run : Run}

theorem tick_running (state : run.state = .running) : run.tick.elapsed =
    min (if run.timeout = 0 then 4294967295 else run.timeout * 100) (run.elapsed + 1) := by
  rw [Run.tick, if_pos state]
  rfl

theorem tick_stopped (state : run.state ≠ .running) : run.tick = run := if_neg state

theorem timeoutEffect_free (free : s.run r = none) : timeoutEffect r s = s := by
  simp only [timeoutEffect, free]

theorem timeoutEffect_eq (is : s.run r = some run) : timeoutEffect r s =
    if run.state = .running ∧ run.timeout ≠ 0 ∧ run.timeout * 100 ≤ run.elapsed then s.haltRunner r .timeout else s := by
  simp only [timeoutEffect, is]

end Timeout

end Sys2Proof.Laws

namespace Sys2Proof.Proofs

open Sys2Proof.Machine Sys2Proof.Safety Sys2Proof.Laws

section RunnerEvents

variable {s : State} (running : s.power.inReset = false) (r : RunnerNo)

include running

theorem exec_afterDelayExpiry (i g : Nat) : exec (.afterDelayExpiry r i g) s = .next (afterExpiryEffect r i g s).settle :=
  event_runs running _

theorem exec_runTimeout : exec (.runTimeout r) s = .next (timeoutEffect r s).settle := event_runs running _

/-- RUNNER_PAUSED and HALTING_END name the same moment: the runner's coming to rest. -/
theorem exec_rests {c : Instr} (named : c = .runnerPaused r ∨ c = .haltingEnd r) :
    exec c s = .next (s.restRunner r).settle := by
  rcases named with rfl | rfl <;> exact event_runs running (fun s => s.restRunner r)

end RunnerEvents

/-- Settles O60: each event is the settling of its effect, and each effect follows the runner's state. -/
theorem runnerEventsFollowTheRunnerState : Obligations.RunnerEventsFollowTheRunnerState := by
  unfold Obligations.RunnerEventsFollowTheRunnerState
  refine ⟨fun s r live => ⟨fun free => ?free, fun run is => ?held⟩,
    fun s r => ⟨restRunner_free, fun run is => ⟨fun state rests => restRunner_pausing is rests state,
      fun k state kind plain rests => (restRunner_halting is rests state kind plain).trans (endRun_eq is k), ?still⟩⟩⟩
  case free =>
    have rest := restRunner_free free
    refine ⟨fun i g => ?_, ?_, ?_, ?_⟩
    · rw [exec_afterDelayExpiry live, afterExpiryEffect_free free]
    · rw [exec_runTimeout live, timeoutEffect_free free]
    · rw [exec_rests live r (.inl rfl), rest]
    · rw [exec_rests live r (.inr rfl), rest]
  case held =>
    intro rests
    refine ⟨fun i g m n state move pending gate => ?_, fun i g state => ?_, fun state timed past => ?_, fun undue => ?_,
      tick_running, tick_stopped, fun i g undue => ?_, fun c named => ⟨fun state rest => ?_,
      fun k state kind plain rest => ?_, fun state kind => ?_⟩, fun still => ?_⟩
    · rw [exec_afterDelayExpiry live, afterExpiryEffect_opens is state move pending gate]
    · rw [exec_afterDelayExpiry live, afterExpiryEffect_stopped is state]
    · rw [exec_runTimeout live, timeoutEffect_eq is, if_pos ⟨state, timed, past⟩, haltRunner_eq is]
    · rw [exec_runTimeout live, timeoutEffect_eq is, if_neg]
      rintro ⟨state, timed, past⟩
      rcases undue with h | h | h
      · exact h state
      · exact timed h
      · exact absurd past (Nat.not_le.mpr h)
    · rw [exec_afterDelayExpiry live, afterExpiryEffect_undue is undue]
    · rw [exec_rests live r named, restRunner_pausing is rest state]
    · rw [exec_rests live r named, restRunner_halting is rest state kind plain, endRun_eq is]
    · rw [exec_rests live r named, restRunner_reset is state kind]
    · have rest : s.restRunner r = s := still.elim (restRunner_moving is) (restRunner_going is)
      rw [exec_rests live r (.inl rfl), exec_rests live r (.inr rfl), rest]
      exact ⟨rfl, rfl⟩
  case still =>
    rintro (moving | running | paused | ⟨halting, kind⟩)
    · exact restRunner_moving is moving
    · exact restRunner_going is (.inl running)
    · exact restRunner_going is (.inr paused)
    · exact restRunner_reset is halting kind

end Sys2Proof.Proofs

/-! ### The law of the buffers -/

namespace Sys2Proof.Safety

open Sys2Proof.Machine Sys2Proof.Laws

section Buffers

variable {s t : State}

theorem BuffersLawful.of_link (law : BuffersLawful s) (h : t.link = s.link) : BuffersLawful t := by
  unfold BuffersLawful
  rw [h]
  exact law

theorem BuffersLawful.undisturbed (law : BuffersLawful s) (h : Undisturbed s t) : BuffersLawful t :=
  ⟨h.reports law.1, by rw [h.intake]; exact law.2⟩

/-- Reports leave the queue at its front, waiting requests the intake buffer at theirs. -/
theorem BuffersLawful.shrink (law : BuffersLawful s) (reports : t.link.reports.length ≤ s.link.reports.length)
    (intake : t.link.intake.length ≤ s.link.intake.length) : BuffersLawful t :=
  ⟨reports.trans law.1, intake.trans law.2⟩

/-! #### The settling and the two forms of a meaning -/

theorem yieldShare_buffersLawful (law : BuffersLawful s) : BuffersLawful s.yieldShare := by
  have yielded : BuffersLawful { s with supply := { s.supply with handshake := .yielded, shareAck := true, avail := 0 } } := law
  unfold State.yieldShare
  split
  · exact yielded.undisturbed (.report _ _)
  · exact law

/-- A completed soft reset empties the report queue before it tells anything (R182, R202). -/
theorem completeReset_buffersLawful (law : BuffersLawful s) : BuffersLawful s.completeReset := by
  by_cases due : s.power.state = .resetting ∧ s.nothingMoves = true
  · obtain ⟨resetting, still⟩ := due
    obtain ⟨axes, chans, anew⟩ := restarted_eq s
    have restarted : BuffersLawful (restarted s) := by
      rw [anew]
      exact ⟨Nat.zero_le _, law.2⟩
    rw [completeReset_due resetting (nothingMoves_iff.mp still)]
    exact restarted.undisturbed ((Undisturbed.report _ _).trans (.report _ _))
  · rw [State.completeReset, if_neg due]
    exact law

theorem settle_buffersLawful (law : BuffersLawful s) : BuffersLawful s.settle := by
  have concluded : BuffersLawful s.engine.restRunners.concludeOps :=
    law.undisturbed (Controls.conclude (Controls.refl (F := False) s)).undisturbed
  have reset := completeReset_buffersLawful (yieldShare_buffersLawful concluded)
  unfold State.settle
  split
  · exact law
  · exact reset.shrink (clocks_reports _) (congrArg List.length (clocks_intake _)).le

/-- A frame is admitted where the intake buffer has a place left (R177). -/
theorem admitFrame_buffersLawful (law : BuffersLawful s) (f : Frame) : BuffersLawful (s.admitFrame f) := by
  unfold State.admitFrame
  split
  · next room => exact ⟨law.1, by simpa using Nat.succ_le_of_lt room⟩
  · exact law

theorem offerFrame_buffersLawful (law : BuffersLawful s) (f : Frame) {taken : State → State}
    (ht : ∀ u, BuffersLawful u → BuffersLawful (taken u)) : BuffersLawful (s.offerFrame f taken) := by
  have heard := law.undisturbed (frameHeard_undisturbed s)
  unfold State.offerFrame
  dsimp only
  split
  · exact ht _ heard
  · exact admitFrame_buffersLawful heard f

/-- A request keeps the law where its taking does. -/
theorem offer_buffersLawful (law : BuffersLawful s) (f : Option Frame) {taken : State → State}
    (ht : ∀ u, BuffersLawful u → BuffersLawful (taken u)) : BuffersLawful (s.offer f taken) := by
  unfold State.offer
  split
  · exact law
  · split
    · exact law
    · exact settle_buffersLawful (law.undisturbed (wakeBy_undisturbed s .link))
    all_goals
      split
      · exact law
      · exact settle_buffersLawful (offerFrame_buffersLawful law _ ht)

/-- An event keeps the law where its effect does. -/
theorem event_buffersLawful (law : BuffersLawful s) {effect : State → State} (e : s.event effect = .next t)
    (he : BuffersLawful (effect s)) : BuffersLawful t := by
  cases e
  split
  · exact law
  · exact settle_buffersLawful he

/-! #### Requests and frames -/

/-- What follows the computing afresh of the available budget is control (R104, R107). -/
theorem recompute_buffersLawful (law : BuffersLawful s) : BuffersLawful s.recompute := by
  have computed : BuffersLawful { s with supply := { s.supply with
      avail := availOf s.supply.base s.supply.band s.supply.thermal s.supply.handshake } } := law
  exact computed.undisturbed (recompute_controls s).undisturbed

theorem takeRequest_buffersLawful (law : BuffersLawful s) (i : Instr) : BuffersLawful (takeRequest i s) := by
  by_cases set : ∃ tag b, i = .budgetSet tag b
  · obtain ⟨tag, b, rfl⟩ := set
    simp only [takeRequest, budgetSetTaken]
    repeat' split
    · exact law.undisturbed (reply_undisturbed s _ _ _ _)
    · exact law.undisturbed (reply_undisturbed s _ _ _ _)
    · refine BuffersLawful.undisturbed (recompute_buffersLawful ?_) (reply_undisturbed _ _ _ _ _)
      exact law.of_link rfl
  · exact law.undisturbed (takeRequest_undisturbed s i (fun tag b e => set ⟨tag, b, e⟩))

theorem takeFrame_buffersLawful (law : BuffersLawful s) (f : Frame) : BuffersLawful (takeFrame f s) := by
  unfold takeFrame
  split
  · exact takeRequest_buffersLawful law _
  · exact law
  · exact law

/-- The entry to SLEEP empties the intake buffer (R177). -/
theorem enterSleep_buffersLawful (law : BuffersLawful s) : BuffersLawful s.enterSleep := by
  obtain ⟨chans, entered⟩ := enterSleep_eq s
  rw [entered]
  exact ⟨law.1, Nat.zero_le _⟩

theorem sleepEntryEffect_buffersLawful (law : BuffersLawful s) : BuffersLawful (sleepEntryEffect s) := by
  unfold sleepEntryEffect
  extract_lets sent
  split
  · exact enterSleep_buffersLawful law
  · exact law

theorem takeNext_buffersLawful (law : BuffersLawful s) : BuffersLawful s.takeNext := by
  unfold State.takeNext
  split
  · split
    · exact law
    · next f fs waiting =>
      have taken : BuffersLawful { s with link := { s.link with intake := fs } } :=
        law.shrink le_rfl (by rw [waiting]; exact Nat.le_succ _)
      exact takeFrame_buffersLawful taken f
  · exact law

theorem transmitEndEffect_buffersLawful (law : BuffersLawful s) : BuffersLawful (transmitEndEffect s) := by
  unfold transmitEndEffect
  split
  · exact law
  · have idle : BuffersLawful { s with link := { s.link with tx := none } } := law
    dsimp only
    split
    · exact enterSleep_buffersLawful idle
    · exact takeNext_buffersLawful (idle.shrink (startTx_reports _) (congrArg List.length (startTx_kept _).intake).le)

theorem byteEffect_buffersLawful (law : BuffersLawful s) (b : Byte) (e : Bool) : BuffersLawful (byteEffect b e s) := by
  have stored (rx : Rx) : BuffersLawful (s.setRx rx) := law
  have received : BuffersLawful (s.receive b e) := by
    unfold State.receive
    dsimp only
    split
    · exact stored _
    · split
      · exact stored _
      · next f _ => exact offerFrame_buffersLawful (stored _) f (fun u hu => takeFrame_buffersLawful hu f)
  unfold byteEffect
  split
  · exact law
  · exact law.undisturbed (wakeBy_undisturbed s _)
  all_goals exact received

/-! #### The events of the supply monitor and of the wake -/

theorem sampleVoltage_buffersLawful (law : BuffersLawful s) (mv : Nat) : BuffersLawful (s.sampleVoltage mv) := by
  have sampled (m : Supply) : BuffersLawful { s with supply := m } := law
  unfold State.sampleVoltage
  dsimp only
  split
  · exact sampled _
  · exact (recompute_buffersLawful (sampled _)).undisturbed (supplyChange_undisturbed _ _)

theorem sampleTemperature_buffersLawful (law : BuffersLawful s) (n : Int) : BuffersLawful (s.sampleTemperature n) := by
  have sampled (m : Supply) : BuffersLawful { s with supply := m } := law
  unfold State.sampleTemperature
  dsimp only
  split
  · exact sampled _
  · exact (recompute_buffersLawful (sampled _)).undisturbed (supplyChange_undisturbed _ _)

/-- A request revokes, and is reported (R114). -/
theorem shareAsserted_buffersLawful (law : BuffersLawful s) : BuffersLawful s.shareAsserted := by
  have requested : BuffersLawful { s with supply :=
      { s.supply with shareReq := true, handshake := .draining, avail := 0 } } := law
  have drained : BuffersLawful (drained s) := requested.undisturbed (Controls.refl (F := False) _).revoke.undisturbed
  rw [shareAsserted_eq]
  refine BuffersLawful.undisturbed ?_ (.report _ _)
  split
  · exact drained
  · exact drained

theorem shareReleased_buffersLawful (law : BuffersLawful s) : BuffersLawful s.shareReleased := by
  refine BuffersLawful.undisturbed (recompute_buffersLawful ?_) (.report _ _)
  exact law.of_link rfl

theorem shareReqChange_buffersLawful (law : BuffersLawful s) {level : Bool} (e : execShareReqChange level s = .next t) :
    BuffersLawful t := by
  have followed : BuffersLawful { s with supply := s.supply.follow level } := law
  cases e
  split
  · exact law
  · split
    · exact settle_buffersLawful followed
    · exact settle_buffersLawful followed
    all_goals
      cases level
      · exact settle_buffersLawful (shareReleased_buffersLawful law)
      · exact settle_buffersLawful (shareAsserted_buffersLawful law)

/-- A wake credits, then reports (R200). -/
theorem wakeEndEffect_buffersLawful (law : BuffersLawful s) : BuffersLawful (wakeEndEffect s) := by
  have doubted (u : State) : Undisturbed u u.suspectUnwatched := .foldl u _ _ (fun t a => .ite (.suspect t a _) (.refl t))
  have closed (u : State) : Undisturbed u u.closeRested :=
    .foldl u _ _ (fun t a => .ite ((Controls.refl (F := False) t).closeEpisode a).undisturbed (.refl t))
  unfold wakeEndEffect
  split
  · next c o _ _ _ =>
    have credited := law.undisturbed (.modAll s allAxes (Axis.credit s.power.sleepTime))
    unfold State.wake
    dsimp only
    generalize s.modAll allAxes (Axis.credit s.power.sleepTime) = u at credited ⊢
    have begun : BuffersLawful { u with
        supply := u.supply.atWake, link := { u.link with rx := .hunt },
        power := { u.power with state := .active, dwell := none, sleepOpts := none, wakeCause := none } } := credited
    have told (v : State) (q r : Report) := (Undisturbed.report v q).trans (.report (v.report q) r)
    refine (begun.undisturbed (told _ _ _)).undisturbed (Undisturbed.trans (.ite (.refl _) (doubted _)) (closed _))
  · exact law

end Buffers

end Sys2Proof.Safety

/-! ### Every step keeps the law of the buffers -/

namespace Sys2Proof.Proofs

open Sys2Proof.Machine Sys2Proof.Laws Sys2Proof.Safety

/-- The power-on values are lawful (R194). -/
theorem powerOn_buffersLawful (s : State) (held : Bool) : BuffersLawful (s.powerOn held) := by
  have reset : BuffersLawful State.reset := ⟨Nat.zero_le _, Nat.zero_le _⟩
  exact reset.of_link rfl

section Step

variable {s t : State}

/-- Every command keeps the law of the buffers: a request where its taking does, an event where its effect does, and most
effects are control. -/
theorem exec_buffersLawful (law : BuffersLawful s) (i : Instr) (e : exec i s = .next t) : BuffersLawful t := by
  have c := Controls.refl (F := True) s
  have control {effect : State → State} (e : s.event effect = .next t) (h : Undisturbed s (effect s)) : BuffersLawful t :=
    event_buffersLawful law e (law.undisturbed h)
  have taken (u : State) (hu : BuffersLawful u) := takeRequest_buffersLawful hu i
  cases i with
  | ident | status | setup | reset | axisSet | axisGet | ack | jog | home | check | profileWrite | profileRead | profileSwap
  | scaleSet | keepoutSet | keepoutGet | planWrite | planRead | planDefine | run | pause | resume | halt | mark | runGet
  | budgetSet | power =>
    cases e
    exact offer_buffersLawful law _ taken
  | unknownKind tag kind p =>
    cases e
    exact offer_buffersLawful law _ (fun u hu => takeFrame_buffersLawful hu _)
  | byteReceived b fe => exact event_buffersLawful law e (byteEffect_buffersLawful law b fe)
  | transmitEnd => exact event_buffersLawful law e (transmitEndEffect_buffersLawful law)
  | sleepEntry => exact event_buffersLawful law e (sleepEntryEffect_buffersLawful law)
  | wakeTimeEnd => exact event_buffersLawful law e (wakeEndEffect_buffersLawful law)
  | resettingComplete => exact event_buffersLawful law e (completeReset_buffersLawful law)
  | shareYield => exact event_buffersLawful law e (yieldShare_buffersLawful law)
  | shareReqChange level => exact shareReqChange_buffersLawful law e
  | supplySample mv n =>
    cases e
    split
    · exact law
    · exact settle_buffersLawful (sampleTemperature_buffersLawful (sampleVoltage_buffersLawful law mv) n)
  | wakeEvent w =>
    cases e
    exact settle_buffersLawful (law.undisturbed (wakeEffect_undisturbed s w))
  | powerOnReset =>
    cases e
    exact powerOn_buffersLawful s true
  | initStart =>
    cases e
    split
    · exact powerOn_buffersLawful s false
    · exact law
  | interByteGap => exact control e (.ite (.write rfl rfl rfl) (.refl s))
  | cadenceExpiry => exact control e (cadenceEffect_undisturbed s)
  | supervisionLapse => exact control e (lapseEffect_undisturbed s)
  | hallEdge a step => exact control e (hallEffect_undisturbed s a step)
  | handMoveRest a => exact control e (.ite (c.closeEpisode a).undisturbed (.modAx s a _))
  | blankingEnd a => exact control (effect := fun s => s.modAx a _) e (.modAx s a _)
  | obstructionCurrent a => exact control e (Controls.ite (c.obstruct a _) c).undisturbed
  | stall a =>
    unfold exec execStall at e
    refine control e (.ite ?_ (.refl s))
    split
    · exact stallDriving_undisturbed s a
    · exact stallReversing_undisturbed s a
  | controlledStopRampEnd a => exact control (effect := fun s => s.modAx a _) e (.modAx s a _)
  | standstill a =>
    unfold exec execStandstill at e
    refine control e ?_
    split
    · exact .ite (.refl s) (standstillStopping_undisturbed s a _)
    · exact .ite (.refl s) (c.standstillBackoff trivial a _).undisturbed
    · exact .refl s
  | checkPulseEnd a n => exact control e (pulseEnd_undisturbed s a n)
  | escalation a => exact control e (.ite (.modAll s _ _) (.refl s))
  | heatTick => exact control e (heatTickEffect_undisturbed s)
  | jogWindowExpiry a => exact control e (c.windowExpiry a).undisturbed
  | blockTimeout a => exact control (effect := fun s => s.blockExpires a) e (c.blockExpires a).undisturbed
  | settleCloseEnd n => exact control e (settleCloseEffect_undisturbed s n)
  | settleOpenEnd n => exact control e (settleOpenEffect_undisturbed s n)
  | shortTrip n => exact control e (shortTripEffect_undisturbed s n)
  | cooldownEnd n => exact control e (cooldownEffect_undisturbed s n)
  | afterDelayExpiry r m g => exact control e (afterExpiryEffect_undisturbed s r m g)
  | runTimeout r => exact control e (timeoutEffect_undisturbed s r)
  | runnerPaused r => exact control (effect := fun s => s.restRunner r) e (c.restRunner r).undisturbed
  | haltingEnd r => exact control (effect := fun s => s.restRunner r) e (c.restRunner r).undisturbed
  | inhibitChange level => exact control e (inhibitEffect_undisturbed s level)
  | idleDwellExpiry => exact control e (.ite (enterDoze_undisturbed s) (.refl s))
  | driveStageReady => exact control e (stageReadyEffect_undisturbed s)
  | initEnd => exact control e (initEndEffect_undisturbed s)

end Step

/-- Settles O7: the queue's rest has the same buffers, and every command keeps the law. -/
theorem buffersStayLawful : Obligations.BuffersStayLawful := by
  unfold Obligations.BuffersStayLawful
  intro s t law e
  unfold step at e
  split at e
  · cases e
    exact law
  · next i rest _ => exact exec_buffersLawful (s := { s with pending := rest }) law i e

end Sys2Proof.Proofs
/-! ### Two-byte fields (R192) -/

namespace Sys2Proof.Laws

open Sys2Proof.Machine

theorem toNat_half (hi lo : Byte) : (half hi lo).toNat = hi.toNat * 256 + lo.toNat := by
  have joined : (half hi lo).toNat = hi.toNat <<< 8 ||| lo.toNat := BitVec.toNat_append hi lo
  rw [joined, ← Nat.shiftLeft_add_eq_or_of_lt lo.isLt, Nat.shiftLeft_eq]

theorem toNat_hiByte (h : Half) : (hiByte h).toNat = h.toNat / 256 := by
  have lt : h.toNat / 256 < 256 := by omega
  rw [hiByte, BitVec.extractLsb'_toNat, Nat.shiftRight_eq_div_pow]
  exact Nat.mod_eq_of_lt lt

theorem toNat_loByte (h : Half) : (loByte h).toNat = h.toNat % 256 := by
  rw [loByte, BitVec.extractLsb'_toNat]
  rfl

theorem half_bytes (h : Half) : half (hiByte h) (loByte h) = h := by
  apply BitVec.eq_of_toNat_eq
  rw [toNat_half, toNat_hiByte, toNat_loByte, Nat.div_add_mod']

theorem hiByte_half (hi lo : Byte) : hiByte (half hi lo) = hi := by
  apply BitVec.eq_of_toNat_eq
  rw [toNat_hiByte, toNat_half]
  omega

theorem loByte_half (hi lo : Byte) : loByte (half hi lo) = lo := by
  apply BitVec.eq_of_toNat_eq
  rw [toNat_loByte, toNat_half]
  omega

theorem half_zero_shiftLeft (b : Byte) : half b 0 <<< 8 = 0#16 := by
  apply BitVec.eq_of_toNat_eq
  rw [BitVec.toNat_shiftLeft, toNat_half, Nat.shiftLeft_eq]
  simp
  omega

end Sys2Proof.Laws

/-! ### The CRC (R176) -/

namespace Sys2Proof.Laws

open Sys2Proof.Machine

/-- One bit of a message taken into the CRC (R176). -/
def crcTake (c : Half) (bit : Bool) : Half := if c.msb != bit then (c <<< 1) ^^^ 0x1021#16 else c <<< 1

/-- A register that holds the next message bits added to it moves as the register that takes the first of them. -/
theorem crcBit_xor (c y : Half) : crcBit (c ^^^ y) = crcTake c y.msb ^^^ (y <<< 1) := by
  rw [crcBit, crcTake, BitVec.msb_xor, BitVec.shiftLeft_xor_distrib]
  change (if (c.msb != y.msb) = true then _ else _) = _
  split
  · rw [BitVec.xor_assoc, BitVec.xor_comm (y <<< 1), BitVec.xor_assoc]
  · rfl

/-- Adding the bits all at once or one by one is the same. -/
theorem crcBits_xor (n : Nat) (c y : Half) :
    crcBits n (c ^^^ y) = ((List.range n).map y.getMsbD).foldl crcTake c ^^^ (y <<< n) := by
  induction n generalizing c y with
  | zero => simp [crcBits]
  | succ n ih =>
    have rest : (List.range n).map (y <<< 1).getMsbD = (List.range n).map (y.getMsbD ∘ Nat.succ) :=
      List.map_congr_left (fun i _ => by simp)
    rw [crcBits, crcBit_xor, ih, rest, List.range_succ_eq_map, List.map_cons, List.foldl_cons, List.map_map,
      ← BitVec.shiftLeft_add, Nat.add_comm 1 n, BitVec.msb_eq_getMsbD_zero]

theorem crcByte_eq (c : Half) (b : Byte) : crcByte c b = ((List.range 8).map b.getMsbD).foldl crcTake c := by
  have bits : (List.range 8).map (half b 0).getMsbD = (List.range 8).map b.getMsbD := by
    refine List.map_congr_left (fun i mem => ?_)
    have small : i < 8 := List.mem_range.mp mem
    rw [half, BitVec.getMsbD_append, if_neg (Nat.not_le.mpr small)]
  rw [crcByte, crcBits_xor, bits, half_zero_shiftLeft, BitVec.xor_zero]

theorem foldl_flatMap_bits (bytes : List Byte) (c : Half) :
    bytes.foldl crcByte c = (bytes.flatMap (fun b => (List.range 8).map b.getMsbD)).foldl crcTake c := by
  rw [List.foldl_flatMap]
  exact List.foldl_ext _ _ _ (fun c b _ => crcByte_eq c b)

/-- What is on the line after the transmitter's turn was there before, or is a frame. -/
theorem startTx_tx (s : State) : s.startTx.link.tx = s.link.tx ∨
    ∃ (f : Frame) (b : Bool), s.startTx.link.tx = some ⟨f.bytes, b⟩ := by
  unfold State.startTx
  split
  · split
    · exact .inr ⟨_, _, rfl⟩
    · exact .inr ⟨_, _, rfl⟩
    · exact .inl rfl
  · exact .inl rfl

end Sys2Proof.Laws

namespace Sys2Proof.Proofs

open Sys2Proof.Machine Sys2Proof.Laws

/-- Settles O9: the bits of each byte in their order, the check value by computing it, and the two places that use the CRC. -/
theorem crcIsThatOfTheSpec : Obligations.CrcIsThatOfTheSpec := by
  unfold Obligations.CrcIsThatOfTheSpec
  exact ⟨fun bytes => foldl_flatMap_bits bytes _, by decide +kernel, fun f => rfl, startTx_tx,
    fun len kind tag payload hi lo => rfl⟩

end Sys2Proof.Proofs

/-! ### The receiver (R174, R175) -/

namespace Sys2Proof.Laws

open Sys2Proof.Machine

/-- The receive state after some bytes, and the frame that the last of them completed. -/
def received (p : Rx × Option Frame) (bytes : List Byte) : Rx × Option Frame := bytes.foldl (fun p b => rxByte p.1 b) p

theorem received_append (p : Rx × Option Frame) (as bs : List Byte) : received p (as ++ bs) = received (received p as) bs :=
  List.foldl_append

theorem rxByte_body_more {len : Nat} {stored : List Byte} (b : Byte) (more : stored.length + 1 < len) :
    rxByte (.body len stored) b = (.body len (stored ++ [b]), none) := by
  simp [rxByte, Nat.not_le.mpr more]

theorem rxByte_body_last {len : Nat} {stored : List Byte} (b : Byte) (last : stored.length + 1 = len) :
    rxByte (.body len stored) b = (.crc len (stored ++ [b]) none, none) := by
  simp [rxByte, last]

/-- Fewer bytes than the length says stay in BODY. -/
theorem received_body_more (len : Nat) (bs stored : List Byte) (more : stored.length + bs.length < len) :
    received (.body len stored, none) bs = (.body len (stored ++ bs), none) := by
  induction bs generalizing stored with
  | nil => simp [received]
  | cons b bs ih =>
    rw [List.length_cons] at more
    rw [received, List.foldl_cons, rxByte_body_more b (by omega)]
    exact (ih _ (by simp; omega)).trans (by simp)

/-- As many bytes as the length says lead to CRC. -/
theorem received_body_last {len : Nat} {bs : List Byte} (some : bs ≠ []) (last : bs.length = len) :
    received (.body len [], none) bs = (.crc len bs none, none) := by
  obtain ⟨init, b, rfl⟩ := (List.eq_nil_or_concat bs).resolve_left some
  rw [List.concat_eq_append, List.length_append, List.length_singleton] at last
  rw [List.concat_eq_append, received_append, received_body_more len init [] (by simp; omega)]
  exact rxByte_body_last b (by simpa using last)

theorem toNat_lengthByte {f : Frame} (fits : f.payload.length ≤ 60) :
    (byteOf (f.payload.length + 2)).toNat = f.payload.length + 2 := by
  simp [byteOf]
  omega

/-- The sync byte and the length byte of a frame lead to BODY. -/
theorem received_head {f : Frame} (fits : f.payload.length ≤ 60) :
    received (.hunt, none) [0x5A, byteOf (f.payload.length + 2)] = (.body (f.payload.length + 2) [], none) := by
  have length := toNat_lengthByte fits
  simp [received, rxByte, length, fits]

/-- The two bytes of the CRC that follow the body of a frame: the second completes it. -/
theorem received_crc {f : Frame} (n : Nat) :
    let r := received (.crc (f.payload.length + 2) (f.kind :: f.tag :: f.payload) none, none)
      ((halfBytes (crc f.body)).take n)
    (2 ≤ n → r = (.hunt, some f)) ∧ (n < 2 → r.2 = none) := by
  match n with
  | 0 => exact ⟨fun h => absurd h (by decide), fun _ => rfl⟩
  | 1 => exact ⟨fun h => absurd h (by decide), fun _ => rfl⟩
  | n + 2 => exact ⟨fun _ => by simp [received, halfBytes, rxByte, half_bytes, Frame.body, frameOf], fun h => by omega⟩

/-- A frame on the line: sync and length, the bytes that the length counts, the CRC. -/
theorem bytes_parts (f : Frame) : f.bytes = [0x5A, byteOf (f.payload.length + 2)] ++
    ((f.kind :: f.tag :: f.payload) ++ halfBytes (crc f.body)) := rfl

theorem length_bytes (f : Frame) : f.bytes.length = f.payload.length + 6 := by
  simp [bytes_parts, halfBytes]

/-- The receiver after the first bytes of a frame. -/
theorem received_take {f : Frame} (fits : f.payload.length ≤ 60) (n : Nat) :
    let r := received (.hunt, none) (f.bytes.take n)
    (f.bytes.length ≤ n → r = (.hunt, some f)) ∧ (n < f.bytes.length → r.2 = none) := by
  rw [length_bytes]
  match n with
  | 0 => exact ⟨fun h => by omega, fun _ => rfl⟩
  | 1 => exact ⟨fun h => by omega, fun _ => rfl⟩
  | m + 2 =>
    have head : f.bytes.take (m + 2) = [0x5A, byteOf (f.payload.length + 2)] ++
        ((f.kind :: f.tag :: f.payload).take m ++ (halfBytes (crc f.body)).take (m - (f.payload.length + 2))) := by
      rw [bytes_parts, List.take_append, List.take_append]
      simp
    simp only [head]
    rw [received_append, received_head fits, received_append]
    by_cases early : m < f.payload.length + 2
    · have body := received_body_more (f.payload.length + 2) ((f.kind :: f.tag :: f.payload).take m) [] (by simp; omega)
      rw [body, Nat.sub_eq_zero_of_le early.le]
      exact ⟨fun h => by omega, fun _ => rfl⟩
    · rw [List.take_of_length_le (by simp; omega), received_body_last (List.cons_ne_nil _ _) (by rfl)]
      obtain ⟨last, before⟩ := received_crc (f := f) (m - (f.payload.length + 2))
      exact ⟨fun h => last (by omega), fun h => before (by omega)⟩

end Sys2Proof.Laws

namespace Sys2Proof.Proofs

open Sys2Proof.Machine Sys2Proof.Laws

/-- Settles O11: the receiver after each number of bytes. -/
theorem receiverAssemblesEveryFrame : Obligations.ReceiverAssemblesEveryFrame := by
  unfold Obligations.ReceiverAssemblesEveryFrame
  intro f n fits within
  obtain ⟨whole, part⟩ := received_take fits n
  exact ⟨fun h => whole h.ge, part⟩

end Sys2Proof.Proofs
/-! ### Frames of requests and their decoding (R179, R192) -/

namespace Sys2Proof.Laws

open Sys2Proof.Machine Sys2Proof.Safety

/-! #### Gates and entries -/

theorem halfBytes_half (hi lo : Byte) : halfBytes (half hi lo) = [hi, lo] := by
  rw [halfBytes, hiByte_half, loByte_half]

theorem takeGates_bytes (gs : List GateArgs) (rest : List Byte) :
    takeGates gs.length (gs.flatMap GateArgs.bytes ++ rest) = some (gs, rest) := by
  induction gs with
  | nil => rfl
  | cons g gs ih =>
    simp [GateArgs.bytes, halfBytes, takeGates, ih, half_bytes]

theorem takeGates_eq_some {n : Nat} {bs rest : List Byte} {gs : List GateArgs} (taken : takeGates n bs = some (gs, rest)) :
    gs.length = n ∧ bs = gs.flatMap GateArgs.bytes ++ rest := by
  fun_induction takeGates n bs generalizing gs with
  | case1 bs =>
    cases taken
    exact ⟨rfl, rfl⟩
  | case2 n k a hi lo bs hs rest' tail ih =>
    cases taken
    obtain ⟨count, bytes⟩ := ih tail
    exact ⟨by rw [List.length_cons, count], by simp [GateArgs.bytes, halfBytes_half, bytes]⟩
  | case3 => cases taken
  | case4 => cases taken

/-- The gate count stands in the top two bits of byte 4 (R192). -/
theorem gateCount_eq (e : EntryArgs) : e.gateCount = e.packed.toNat / 64 := by
  have lt : e.packed.toNat / 64 < 4 := by omega
  rw [EntryArgs.gateCount, BitVec.extractLsb'_toNat, Nat.shiftRight_eq_div_pow]
  exact Nat.mod_eq_of_lt lt

theorem consistent_iff {e : EntryArgs} : e.consistent = true ↔ e.packed.toNat / 64 = e.gates.length := by
  rw [EntryArgs.consistent, beq_iff_eq, gateCount_eq]

theorem takeEntries_bytes {es : List EntryArgs} (declared : ∀ e ∈ es, e.consistent = true) :
    takeEntries es.length (es.flatMap EntryArgs.bytes) = some es := by
  induction es with
  | nil => rfl
  | cons e es ih =>
    obtain ⟨own, rest⟩ := List.forall_mem_cons.mp declared
    have gates : (e.packed.extractLsb' 6 2).toNat = e.gates.length := beq_iff_eq.mp own
    simp [EntryArgs.bytes, halfBytes, takeEntries, gates, takeGates_bytes, ih rest, half_bytes]

theorem takeEntries_eq_some {n : Nat} {bs : List Byte} {es : List EntryArgs} (taken : takeEntries n bs = some es) :
    es.length = n ∧ (∀ e ∈ es, e.consistent = true) ∧ bs = es.flatMap EntryArgs.bytes := by
  fun_induction takeEntries n bs generalizing es with
  | case1 =>
    cases taken
    exact ⟨rfl, by simp, rfl⟩
  | case2 n ax k hi lo packed mark bs gs rest gates fs tail ih =>
    cases taken
    obtain ⟨count, declared, bytes⟩ := ih tail
    obtain ⟨gateCount, gateBytes⟩ := takeGates_eq_some gates
    refine ⟨by rw [List.length_cons, count], List.forall_mem_cons.mpr ⟨beq_iff_eq.mpr gateCount.symm, declared⟩, ?_⟩
    simp [EntryArgs.bytes, halfBytes_half, gateBytes, bytes]
  | _ => cases taken

/-! #### Lengths -/

theorem length_gates (gs : List GateArgs) : (gs.flatMap GateArgs.bytes).length = 4 * gs.length := by
  induction gs with
  | nil => rfl
  | cons g gs ih =>
    rw [List.flatMap_cons, List.length_append, ih, List.length_cons]
    simp [GateArgs.bytes, halfBytes]
    omega

theorem length_entries {es : List EntryArgs} (declared : ∀ e ∈ es, e.consistent = true) :
    (es.flatMap EntryArgs.bytes).length = entriesSize es := by
  induction es with
  | nil => rfl
  | cons e es ih =>
    obtain ⟨own, rest⟩ := List.forall_mem_cons.mp declared
    have gates : e.gateCount = e.gates.length := beq_iff_eq.mp own
    have size : entriesSize (e :: es) = e.size + entriesSize es := rfl
    rw [List.flatMap_cons, List.length_append, ih rest, size]
    have head : e.bytes.length = 6 + (e.gates.flatMap GateArgs.bytes).length := Nat.add_comm _ 6
    rw [head, length_gates, EntryArgs.size, gates]

/-- The entry count and the gate counts are those declared, and the payload has room (R179). -/
theorem planWriteFits_iff {count : Byte} {es : List EntryArgs} : planWriteFits count es = true ↔
    count.toNat = es.length ∧ (∀ e ∈ es, e.consistent = true) ∧ 2 + entriesSize es ≤ 60 := by
  simp [planWriteFits, and_assoc]

/-- The frame of a well-formed request fits the 60 payload bytes (R179). -/
theorem length_frame {c : Instr} {f : Frame} (good : c.wellFormed = true) (frame : c.frame? = some f) :
    f.payload.length ≤ 60 := by
  cases c with
  | planWrite tag st n es =>
    cases frame
    obtain ⟨-, declared, room⟩ := planWriteFits_iff.mp good
    rw [← length_entries declared, Nat.add_comm] at room
    exact room
  | unknownKind tag kind p =>
    cases frame
    exact of_decide_eq_true (Bool.and_eq_true_iff.mp good).2
  | axisGet tag a o | planRead tag a o | runGet tag a o =>
    cases frame
    cases o <;> exact Nat.le_of_ble_eq_true rfl
  | _ =>
    cases frame <;> exact Nat.le_of_ble_eq_true rfl

/-! #### The link checks -/

theorem decodeAxisArgs_bytes (c : AxisArgs) : decodeAxisArgs c.bytes = some c := by
  simp [decodeAxisArgs, AxisArgs.bytes, halfBytes, half_bytes]

theorem decodeProfileArgs_bytes (p : ProfileArgs) : decodeProfileArgs p.bytes = some p := by
  simp [decodeProfileArgs, ProfileArgs.bytes, halfBytes, half_bytes]

theorem decodeKeepoutArgs_bytes (k : KeepoutArgs) : decodeKeepoutArgs k.bytes = some k := by
  simp [decodeKeepoutArgs, KeepoutArgs.bytes, halfBytes, half_bytes]

theorem unknown_of_wellFormed {tag kind : Byte} {p : List Byte} (good : (Instr.unknownKind tag kind p).wellFormed = true) :
    requestKinds.contains kind = false := by
  simpa using (Bool.and_eq_true_iff.mp good).1

/-- The payload of every well-formed request of the catalogue is read back with every field as it was sent. -/
theorem decodePayload_frame {c : Instr} {f : Frame} (good : c.wellFormed = true) (frame : c.frame? = some f)
    (known : requestKinds.contains f.kind = true) : decodePayload f.kind f.tag f.payload = some c := by
  cases c with
  | planWrite tag st n es =>
    cases frame
    obtain ⟨count, declared, -⟩ := planWriteFits_iff.mp good
    have entries := takeEntries_bytes declared
    rw [← count] at entries
    exact congrArg (Option.map (Instr.planWrite tag st n)) entries
  | unknownKind tag kind p =>
    cases frame
    exact absurd ((unknown_of_wellFormed good).symm.trans known) Bool.false_ne_true
  | axisGet tag a o | planRead tag a o | runGet tag a o =>
    cases frame
    cases o <;> rfl
  | axisSet tag a args =>
    cases frame
    exact congrArg (Option.map (Instr.axisSet tag a)) (decodeAxisArgs_bytes args)
  | profileWrite tag bank i vals =>
    cases frame
    exact congrArg (Option.map (Instr.profileWrite tag bank i)) (decodeProfileArgs_bytes vals)
  | keepoutSet tag e present args =>
    cases frame
    exact congrArg (Option.map (Instr.keepoutSet tag e present)) (decodeKeepoutArgs_bytes args)
  | _ =>
    cases frame <;> simp [decodePayload, halfBytes, half_bytes]

theorem decode_request {c : Instr} {f : Frame} (good : c.wellFormed = true) (frame : c.frame? = some f)
    (known : requestKinds.contains f.kind = true) : f.decode = .request c := by
  rw [Frame.decode, if_pos known, decodePayload_frame good frame known]
  rfl

theorem decode_unknown {f : Frame} (unknown : requestKinds.contains f.kind = false) : f.decode = .unknownKind :=
  if_neg (Bool.eq_false_iff.mp unknown)

theorem optByte_eq (o : Option Byte) : optByte o = o.toList := by cases o <;> rfl

end Sys2Proof.Laws

namespace Sys2Proof.Proofs

open Sys2Proof.Machine Sys2Proof.Laws

/-- Settles O10: lengths and decoding of the frames, and the layouts written out. -/
theorem requestFramesDecode : Obligations.RequestFramesDecode := by
  unfold Obligations.RequestFramesDecode
  refine ⟨fun c f good frame => ⟨length_frame good frame, decode_request good frame, decode_unknown⟩, ?layouts, ?fits⟩
  case layouts =>
    intro two opt tag a b c d e h i j o x p k es
    have last (kind : Byte) : (⟨kind, tag, a :: optByte o⟩ : Frame) = ⟨kind, tag, [a] ++ opt o⟩ := by rw [optByte_eq]; rfl
    exact ⟨rfl, rfl, rfl, rfl, rfl, congrArg some (last 0x11), rfl, rfl, rfl, rfl, rfl, rfl, rfl, rfl, rfl, rfl, rfl,
      congrArg some (last 0x29), rfl, rfl, rfl, rfl, rfl, rfl, congrArg some (last 0x35), rfl, rfl⟩
  case fits =>
    intro count es
    have size : EntryArgs.size = fun e => 6 + 4 * (e.packed.toNat / 64) := funext fun e => by
      rw [EntryArgs.size, gateCount_eq]
    simp only [planWriteFits_iff, consistent_iff, entriesSize, size]

end Sys2Proof.Proofs
/-! ### Frames offered, taken and admitted (R175, R177, R178) -/

namespace Sys2Proof.Laws

open Sys2Proof.Machine Sys2Proof.Safety

section Offers

variable {s : State} {f : Frame}

theorem canTakeNow_iff : (s.frameHeard.link.intake.isEmpty && s.frameHeard.canTake) = true ↔ Takes s := by
  simp only [frameHeard_intake, State.canTake, frameHeard_slot, frameHeard_power, Bool.and_eq_true, List.isEmpty_iff,
    Option.isNone_iff_eq_none]
  exact ⟨fun ⟨intake, slot, opts⟩ => ⟨intake, slot, opts⟩, fun ⟨intake, slot, opts⟩ => ⟨intake, slot, opts⟩⟩

theorem offerFrame_taken (now : Takes s) (taken : State → State) : s.offerFrame f taken = taken s.frameHeard :=
  if_pos (canTakeNow_iff.mpr now)

theorem offerFrame_waits (later : ¬ Takes s) (taken : State → State) : s.offerFrame f taken = s.frameHeard.admitFrame f :=
  if_neg (mt canTakeNow_iff.mp later)

theorem admitFrame_room (room : s.link.intake.length < 4) :
    s.admitFrame f = { s with link := { s.link with intake := s.link.intake ++ [f] } } := if_pos room

theorem admitFrame_full (full : 4 ≤ s.link.intake.length) : s.admitFrame f = s := if_neg (Nat.not_lt.mpr full)

theorem frameHeard_off (off : s.link.supervision = .off) : s.frameHeard = s := by
  simp only [State.frameHeard, off]

theorem frameHeard_on (on : s.link.supervision ≠ .off) :
    s.frameHeard = { s with link := { s.link with supervision := .watching 0 s.link.setup.window } } := by
  unfold State.frameHeard
  split
  · next off => exact absurd off on
  · rfl
  · rfl

theorem runs_iff {p : PowerState} : p.runs = true ↔ p = .active ∨ p = .doze ∨ p = .resetting :=
  ⟨runs_cases, by rintro (rfl | rfl | rfl) <;> rfl⟩

theorem offer_init (running : s.power.inReset = false) (init : s.power.state = .init) (f : Option Frame)
    (taken : State → State) : s.offer f taken = s := by
  simp [State.offer, running, init]

theorem offer_sleep (running : s.power.inReset = false) (asleep : s.power.state = .sleep) (f : Option Frame)
    (taken : State → State) : s.offer f taken = (s.wakeBy .link).settle := by
  simp [State.offer, running, asleep]

end Offers

/-! #### Bytes -/

section Bytes

variable {s : State} {b : Byte}

theorem byteEffect_runs (runs : s.power.state.runs = true) (e : Bool) : byteEffect b e s = s.receive b e := by
  rcases runs_cases runs with h | h | h <;> simp only [byteEffect, h]

theorem receive_stored {rx : Rx} (next : rxByte s.link.rx b = (rx, none)) : s.receive b false = s.setRx rx := by
  simp only [State.receive, next]
  rfl

theorem receive_frame {rx : Rx} {f : Frame} (next : rxByte s.link.rx b = (rx, some f)) :
    s.receive b false = (s.setRx rx).offerFrame f (takeFrame f) := by
  simp only [State.receive, next]
  rfl

end Bytes

/-! #### Requests are frames (log 5) -/

/-- A request command is the offer of its frame. -/
theorem exec_offers {c : Instr} {f : Frame} (frame : c.frame? = some f) :
    ∃ taken, (∀ s, exec c s = .next (s.offer (some f) taken)) ∧ (c.wellFormed = true → taken = takeFrame f) := by
  have taken (known : requestKinds.contains f.kind = true) (good : c.wellFormed = true) : takeRequest c = takeFrame f := by
    funext s
    rw [takeFrame, decode_request good frame known]
  cases c with
  | unknownKind tag kind p =>
    cases frame
    exact ⟨_, fun s => rfl, fun _ => rfl⟩
  | _ =>
    cases frame <;> exact ⟨_, fun s => rfl, fun good => taken rfl good⟩

/-- A request that can be taken at once is the taking of its frame (R178). -/
theorem exec_taken {c : Instr} {f : Frame} {s : State} (good : c.wellFormed = true) (frame : c.frame? = some f)
    (running : s.power.inReset = false) (runs : s.power.state.runs = true) (now : Takes s) :
    exec c s = .next (takeFrame f s.frameHeard).settle := by
  obtain ⟨taken, offers, whole⟩ := exec_offers frame
  rw [offers, offer_runs running runs now, whole good]

end Sys2Proof.Laws

namespace Sys2Proof.Proofs

open Sys2Proof.Machine Sys2Proof.Laws Sys2Proof.Safety

section Receive

variable {s : State} (running : s.power.inReset = false)

include running

theorem exec_byteReceived (b : Byte) (e : Bool) : exec (.byteReceived b e) s = .next (byteEffect b e s).settle :=
  event_runs running _

theorem exec_interByteGap : exec .interByteGap s = .next (if s.power.state.runs then s.setRx .hunt else s).settle :=
  event_runs running _

theorem exec_byteReceived_runs (runs : s.power.state.runs = true) (b : Byte) (e : Bool) :
    exec (.byteReceived b e) s = .next (s.receive b e).settle := by
  rw [exec_byteReceived running, byteEffect_runs runs]

end Receive

/-- Settles O12: the receive table row by row, then each event by the power state. -/
theorem receiverFollowsItsTable : Obligations.ReceiverFollowsItsTable := by
  unfold Obligations.ReceiverFollowsItsTable
  refine ⟨fun b => rfl, fun b => rfl, fun len stored b => rxByte_body_more b, fun len stored b => rxByte_body_last b,
    fun len stored b => rfl, fun len stored hi b => rfl, fun b s running runs => ?receives, fun b e s running init => ?init,
    fun b e s running asleep => ?sleep⟩
  case receives =>
    refine ⟨exec_byteReceived_runs running runs b true, ?_, fun rx next => ?_, fun rx f next => ?frame⟩
    · rw [exec_interByteGap running, if_pos runs]
      rfl
    · rw [exec_byteReceived_runs running runs, receive_stored next]
      rfl
    case frame =>
      intro u
      have received := exec_byteReceived_runs running runs b false
      rw [receive_frame next] at received
      have same : Takes (s.setRx rx) ↔ Takes s := ⟨fun ⟨i, l, o⟩ => ⟨i, l, o⟩, fun ⟨i, l, o⟩ => ⟨i, l, o⟩⟩
      have waiting : u.link.intake = s.link.intake := frameHeard_intake _
      refine ⟨fun now => ?_, fun later room => ?_, fun later full => ?_⟩
      · rw [received, offerFrame_taken (same.mpr now)]
        rfl
      · rw [received, offerFrame_waits (mt same.mp later)]
        exact congrArg (fun t : State => Host.Outcome.next t.settle) (admitFrame_room (waiting ▸ room))
      · rw [received, offerFrame_waits (mt same.mp later)]
        exact congrArg (fun t : State => Host.Outcome.next t.settle) (admitFrame_full (waiting ▸ full))
  case init =>
    rw [exec_byteReceived running, exec_interByteGap running, byteEffect, init]
    exact ⟨rfl, rfl⟩
  case sleep =>
    rw [exec_byteReceived running, exec_interByteGap running, byteEffect, asleep]
    exact ⟨rfl, rfl⟩

/-- Settles O13: a request is the offer of its frame, by the power state and by what is ahead of it. -/
theorem requestsWaitTheirTurn : Obligations.RequestsWaitTheirTurn := by
  unfold Obligations.RequestsWaitTheirTurn
  refine ⟨fun c f s frame running => ?_, fun c f s => exec_taken, fun p => runs_iff⟩
  obtain ⟨taken, offers, -⟩ := exec_offers frame
  have waiting : s.frameHeard.link.intake = s.link.intake := frameHeard_intake s
  refine ⟨fun runs later room => ?_, fun runs later full => ?_, fun init => ?_, fun asleep => ?_, frameHeard_off,
    frameHeard_on⟩
  · rw [offers, offer_waits running runs later, admitFrame_room (waiting ▸ room), waiting]
  · rw [offers, offer_waits running runs later, admitFrame_full (waiting ▸ full)]
  · rw [offers, offer_init running init]
  · rw [offers, offer_sleep running asleep]
    rfl

end Sys2Proof.Proofs
/-! ### The link checks (R179) and the refusals of RESETTING (R201) -/

namespace Sys2Proof.Laws

open Sys2Proof.Machine Sys2Proof.Safety

/-! #### The lengths that fit a kind -/

section Lengths

variable {α : Type} (p : List Byte)

theorem reads_none (x : α) : (match p with | [] => some x | _ => none) = none ↔ p.length ∉ [0] := by
  cases p <;> simp

theorem reads_one (x : Byte → α) : (match p with | [a] => some (x a) | _ => none) = none ↔ p.length ∉ [1] := by
  rcases p with _ | ⟨a, _ | ⟨b, p⟩⟩ <;> simp

theorem reads_two (x : Byte → Byte → α) : (match p with | [a, b] => some (x a b) | _ => none) = none ↔ p.length ∉ [2] := by
  rcases p with _ | ⟨a, _ | ⟨b, _ | ⟨c, p⟩⟩⟩ <;> simp

theorem reads_four (x : Byte → Byte → Byte → Byte → α) :
    (match p with | [a, b, c, d] => some (x a b c d) | _ => none) = none ↔ p.length ∉ [4] := by
  rcases p with _ | ⟨a, _ | ⟨b, _ | ⟨c, _ | ⟨d, _ | ⟨e, p⟩⟩⟩⟩⟩ <;> simp

theorem reads_five (x : Byte → Byte → Byte → Byte → Byte → α) :
    (match p with | [a, b, c, d, e] => some (x a b c d e) | _ => none) = none ↔ p.length ∉ [5] := by
  rcases p with _ | ⟨a, _ | ⟨b, _ | ⟨c, _ | ⟨d, _ | ⟨e, _ | ⟨f, p⟩⟩⟩⟩⟩⟩ <;> simp

theorem reads_seven (x : Byte → Byte → Byte → Byte → Byte → Byte → Byte → α) :
    (match p with | [a, b, c, d, e, f, g] => some (x a b c d e f g) | _ => none) = none ↔ p.length ∉ [7] := by
  rcases p with _ | ⟨a, _ | ⟨b, _ | ⟨c, _ | ⟨d, _ | ⟨e, _ | ⟨f, _ | ⟨g, _ | ⟨h, p⟩⟩⟩⟩⟩⟩⟩⟩ <;> simp

/-- A last field that may be left out. -/
theorem reads_optional (x : Byte → α) (y : Byte → Byte → α) :
    (match p with | [a] => some (x a) | [a, b] => some (y a b) | _ => none) = none ↔ p.length ∉ [1, 2] := by
  rcases p with _ | ⟨a, _ | ⟨b, _ | ⟨c, p⟩⟩⟩ <;> simp

theorem decodeAxisArgs_eq_none : decodeAxisArgs p = none ↔ p.length ≠ 30 := by
  constructor
  · intro unread length
    let [_, _, _, _, _, _, _, _, _, _, _, _, _, _, _, _, _, _, _, _, _, _, _, _, _, _, _, _, _, _] := p
    cases unread
  · intro length
    unfold decodeAxisArgs
    split
    · exact absurd rfl length
    · rfl

theorem decodeProfileArgs_eq_none : decodeProfileArgs p = none ↔ p.length ≠ 14 := by
  constructor
  · intro unread length
    let [_, _, _, _, _, _, _, _, _, _, _, _, _, _] := p
    cases unread
  · intro length
    unfold decodeProfileArgs
    split
    · exact absurd rfl length
    · rfl

theorem decodeKeepoutArgs_eq_none : decodeKeepoutArgs p = none ↔ p.length ≠ 12 := by
  constructor
  · intro unread length
    let [_, _, _, _, _, _, _, _, _, _, _, _] := p
    cases unread
  · intro length
    unfold decodeKeepoutArgs
    split
    · exact absurd rfl length
    · rfl

/-- The payload lengths that section 10.8 allows each kind but PLAN_WRITE. -/
def kindLengths : List (Byte × List Nat) :=
  [(0x01, [0]), (0x02, [0]), (0x03, [7]), (0x04, [0]), (0x10, [31]), (0x11, [1, 2]), (0x12, [1]), (0x13, [5]), (0x14, [1]),
    (0x15, [1]), (0x18, [16]), (0x19, [2]), (0x1A, [0]), (0x1B, [2]), (0x20, [14]), (0x21, [1]), (0x29, [1, 2]), (0x2A, [5]),
    (0x30, [1]), (0x31, [1]), (0x32, [1]), (0x33, [1]), (0x34, [2]), (0x35, [1, 2]), (0x38, [2]), (0x3A, [4])]

theorem decodePayload_axisSet (tag : Byte) : decodePayload 0x10 tag p = none ↔ p.length ∉ [31] := by
  cases p with
  | nil => exact iff_of_true rfl (by simp)
  | cons a rest =>
    refine Option.map_eq_none_iff.trans ((decodeAxisArgs_eq_none rest).trans ?_)
    simp

theorem decodePayload_profileWrite (tag : Byte) : decodePayload 0x18 tag p = none ↔ p.length ∉ [16] := by
  rcases p with _ | ⟨b, _ | ⟨i, rest⟩⟩
  · exact iff_of_true rfl (by simp)
  · exact iff_of_true rfl (by simp)
  · refine Option.map_eq_none_iff.trans ((decodeProfileArgs_eq_none rest).trans ?_)
    simp

theorem decodePayload_keepoutSet (tag : Byte) : decodePayload 0x20 tag p = none ↔ p.length ∉ [14] := by
  rcases p with _ | ⟨e, _ | ⟨present, rest⟩⟩
  · exact iff_of_true rfl (by simp)
  · exact iff_of_true rfl (by simp)
  · refine Option.map_eq_none_iff.trans ((decodeKeepoutArgs_eq_none rest).trans ?_)
    simp

/-- The length of a payload decides whether it is read (R179). -/
theorem decodePayload_eq_none (tag : Byte) {row : Byte × List Nat} (mem : row ∈ kindLengths) :
    decodePayload row.1 tag p = none ↔ p.length ∉ row.2 := by
  simp only [kindLengths, List.mem_cons, List.not_mem_nil, or_false] at mem
  rcases mem with rfl | rfl | rfl | rfl | rfl | rfl | rfl | rfl | rfl | rfl | rfl | rfl | rfl | rfl | rfl | rfl | rfl |
    rfl | rfl | rfl | rfl | rfl | rfl | rfl | rfl | rfl
  · exact reads_none p (Instr.ident tag)
  · exact reads_none p (Instr.status tag)
  · exact reads_seven p (fun w v c d b e f => Instr.setup tag (half w v) (half c d) b (half e f))
  · exact reads_none p (Instr.reset tag)
  · exact decodePayload_axisSet p tag
  · exact reads_optional p (fun a => Instr.axisGet tag a none) (fun a f => .axisGet tag a (some f))
  · exact reads_one p (Instr.ack tag)
  · exact reads_five p (fun a d m n l => Instr.jog tag a d m (half n l))
  · exact reads_one p (Instr.home tag)
  · exact reads_one p (Instr.check tag)
  · exact decodePayload_profileWrite p tag
  · exact reads_two p (Instr.profileRead tag)
  · exact reads_none p (Instr.profileSwap tag)
  · exact reads_two p (Instr.scaleSet tag)
  · exact decodePayload_keepoutSet p tag
  · exact reads_one p (Instr.keepoutGet tag)
  · exact reads_optional p (fun a => Instr.planRead tag a none) (fun a n => .planRead tag a (some n))
  · exact reads_five p (Instr.planDefine tag)
  · exact reads_one p (Instr.run tag)
  · exact reads_one p (Instr.pause tag)
  · exact reads_one p (Instr.resume tag)
  · exact reads_one p (Instr.halt tag)
  · exact reads_two p (Instr.mark tag)
  · exact reads_optional p (fun r => Instr.runGet tag r none) (fun r f => .runGet tag r (some f))
  · exact reads_two p (fun b c => Instr.budgetSet tag (half b c))
  · exact reads_four p (Instr.power tag)

variable {p}

/-- A PLAN_WRITE payload that is read is the frame of a request whose counts agree (R179, R192). -/
theorem decodePayload_planWrite {tag : Byte} {c : Instr} (fits : p.length ≤ 60) (read : decodePayload 0x28 tag p = some c) :
    ∃ start count es, planWriteFits count es = true ∧ (Instr.planWrite tag start count es).frame? = some ⟨0x28, tag, p⟩ := by
  rcases p with _ | ⟨start, _ | ⟨count, rest⟩⟩
  · cases read
  · cases read
  · obtain ⟨es, entries, -⟩ := Option.map_eq_some_iff.mp read
    obtain ⟨number, declared, rfl⟩ := takeEntries_eq_some entries
    have room : 2 + entriesSize es ≤ 60 := by
      rw [← length_entries declared, Nat.add_comm]
      exact fits
    exact ⟨start, count, es, planWriteFits_iff.mpr ⟨number.symm, declared, room⟩, rfl⟩

/-- The lengths that fit a PLAN_WRITE are those that its count and its entries give. -/
theorem decodePayload_planWrite_eq_none {tag : Byte} (fits : p.length ≤ 60) : decodePayload 0x28 tag p = none ↔
    ∀ (start count : Byte) (es : List EntryArgs), planWriteFits count es = true →
      (Instr.planWrite tag start count es).frame? ≠ some ⟨0x28, tag, p⟩ := by
  constructor
  · intro unread start count es good frame
    have read := decodePayload_frame (c := .planWrite tag start count es) good frame rfl
    rw [unread] at read
    cases read
  · intro none_fits
    by_contra unread
    obtain ⟨c, read⟩ := Option.ne_none_iff_exists'.mp unread
    obtain ⟨start, count, es, good, frame⟩ := decodePayload_planWrite fits read
    exact none_fits start count es good frame

end Lengths

/-! #### Replies and refusals (R180, R201) -/

/-- The request kinds lie below 0x80, the reply kinds above. -/
theorem toNat_requestKind {k : Byte} (known : requestKinds.contains k = true) : k.toNat < 128 := by
  have below : ∀ k ∈ requestKinds, k.toNat < 128 := by decide
  exact below k (List.contains_iff_mem.mp known)

theorem takeFrame_unknown {f : Frame} (unknown : requestKinds.contains f.kind = false) (s : State) :
    takeFrame f s = s.refuse f.kind f.tag .unknownKind := by
  rw [takeFrame, decode_unknown unknown]

theorem takeFrame_badLength {f : Frame} (known : requestKinds.contains f.kind = true)
    (unread : decodePayload f.kind f.tag f.payload = none) (s : State) :
    takeFrame f s = s.refuse f.kind f.tag .badLength := by
  rw [takeFrame, Frame.decode, if_pos known, unread]
  rfl

/-- Check 1 of every request but IDENT and STATUS (R201). -/
theorem takeRequest_resetting {c : Instr} {f : Frame} {s : State} (good : c.wellFormed = true) (frame : c.frame? = some f)
    (known : requestKinds.contains f.kind = true) (notIdent : f.kind ≠ 0x01) (notStatus : f.kind ≠ 0x02)
    (resetting : s.resetting = true) : takeRequest c s = s.reply f.kind f.tag .busy [] := by
  cases c with
  | ident => cases frame; exact absurd rfl notIdent
  | status => cases frame; exact absurd rfl notStatus
  | unknownKind tag kind p =>
    cases frame
    exact absurd ((unknown_of_wellFormed good).symm.trans known) Bool.false_ne_true
  | planWrite tag start count es =>
    cases frame
    have fits : planWriteFits count es = true := good
    exact (if_neg (by rw [fits]; decide)).trans (if_pos resetting)
  | _ => cases frame <;> exact if_pos resetting

end Sys2Proof.Laws

namespace Sys2Proof.Proofs

open Sys2Proof.Machine Sys2Proof.Laws Sys2Proof.Safety

/-- Settles O14: the two link checks, the lengths by kind, the form of a reply, and the first check in RESETTING. -/
theorem linkChecksAndResettingRefuse : Obligations.LinkChecksAndResettingRefuse := by
  unfold Obligations.LinkChecksAndResettingRefuse
  refine ⟨⟨fun tag kind payload s good running runs now => ?unknown, fun f s known unread => ?length,
      fun tag start count es s misfit running runs now => ?planWrite⟩,
    fun c f s good frame known notIdent notStatus resets => ?busy, fun s kind tag result data => ⟨rfl, rfl⟩, by rfl,
    fun kind => List.contains_iff_mem, fun tag p => ⟨fun row mem => decodePayload_eq_none p tag mem,
      decodePayload_planWrite_eq_none⟩⟩
  case unknown =>
    rw [exec_taken good rfl running runs now, takeFrame_unknown (unknown_of_wellFormed good)]
    rfl
  case length =>
    have kind : replyKind f.kind = f.kind + 0x80 := if_pos (toNat_requestKind known)
    rw [takeFrame_badLength known unread, ← kind]
    rfl
  case planWrite =>
    have refused : planWriteTaken tag start count es s.frameHeard = s.frameHeard.refuse 0x28 tag .badLength :=
      if_pos (by rw [misfit]; rfl)
    have taken : exec (.planWrite tag start count es) s = .next (planWriteTaken tag start count es s.frameHeard).settle :=
      congrArg Host.Outcome.next (offer_runs running runs now _ _)
    rw [taken, refused]
    rfl
  case busy =>
    have taken : takeFrame f s.frameHeard = takeRequest c s.frameHeard := by
      rw [takeFrame, decode_request good frame known]
    rw [exec_taken good frame resets.running (runs_iff.mpr (.inr (.inr resets.resetting))) resets.toTakes, taken,
      takeRequest_resetting good frame known notIdent notStatus (resetting_resets resets)]

end Sys2Proof.Proofs

/-! ### IDENT and STATUS (R188, R189) -/

namespace Sys2Proof.Proofs

open Sys2Proof.Machine Sys2Proof.Laws Sys2Proof.Safety

/-- Settles O16: both are taken wherever requests are, and answer the data listed. -/
theorem identAndStatusAnswer : Obligations.IdentAndStatusAnswer := by
  unfold Obligations.IdentAndStatusAnswer
  refine ⟨fun tag s running runs now => ?_, fun tag s running runs now => ?_⟩
  · exact congrArg Host.Outcome.next (offer_runs running runs now _ (identTaken tag))
  · intro u bit
    have taken : exec (.status tag) s = .next (statusTaken tag u).settle :=
      congrArg Host.Outcome.next (offer_runs running runs now _ (statusTaken tag))
    rw [taken, statusTaken, State.statusReply]
    simp only [bFlag_eq]
    rfl

end Sys2Proof.Proofs

/-! ### A step (log 6) -/

namespace Sys2Proof.Proofs

open Sys2Proof.Machine

/-- Settles O1: the two branches of a step. -/
theorem stepRunsFrontCommand : Obligations.StepRunsFrontCommand := by
  unfold Obligations.StepRunsFrontCommand
  exact ⟨fun c rest s front => by rw [step, front], fun s empty => by rw [step, empty]⟩

end Sys2Proof.Proofs
/-! ### The transmitter and the reports (R178, R181, R183, R184) -/

namespace Sys2Proof.Laws

open Sys2Proof.Machine Sys2Proof.Safety

/-! #### The end of a frame on the line -/

section Transmit

variable {s : State}

theorem takeNext_empty (empty : s.link.intake = []) : s.takeNext = s := by
  simp only [State.takeNext, empty, ite_self]

/-- Once a POWER has been taken, no request is (R178). -/
theorem takeNext_leaving {o : SleepOpts} (leaving : s.power.sleepOpts = some o) : s.takeNext = s :=
  if_neg (by simp [State.canTake, leaving])

theorem takeNext_oldest {g : Frame} {gs : List Frame} (oldest : s.link.intake = g :: gs) (slot : s.link.slot = none)
    (opts : s.power.sleepOpts = none) (runs : s.power.state.runs = true) :
    s.takeNext = takeFrame g { s with link := { s.link with intake := gs } } := by
  simp only [State.takeNext, State.canTake, oldest, slot, opts, runs]
  rfl

/-- The part with the line idle again. -/
def lineFreed (s : State) : State := { s with link := { s.link with tx := none } }

/-- The reply in the slot goes out, and with a POWER taken its end is the entry to SLEEP. -/
theorem startTx_freed {r : Reply} {leaving : Bool} (slot : s.link.slot = some r) (runs : s.power.state.runs = true)
    (opts : s.power.sleepOpts.isSome = leaving) : (lineFreed s).startTx =
      { s with link := { s.link with slot := none, tx := some ⟨r.frame.bytes, leaving⟩ } } := by
  subst opts
  exact startTx_reply (s := lineFreed s) slot rfl runs

theorem transmitEndEffect_idle (idle : s.link.tx = none) : transmitEndEffect s = s := by
  simp only [transmitEndEffect, idle]

/-- But for the reply to a POWER, the end of a frame lets the next one begin, and the oldest request be taken. -/
theorem transmitEndEffect_next {f : TxFrame} (busy : s.link.tx = some f)
    (stays : s.power.sleepOpts = none ∨ f.sleepReply = false) :
    transmitEndEffect s = (lineFreed s).startTx.takeNext := by
  simp only [transmitEndEffect, busy]
  refine if_neg ?_
  rcases stays with opts | report
  · simp [opts]
  · simp [report]

end Transmit

/-! #### POSITIONS (R184) -/

section Positions

theorem cadenceEffect_stopped {s : State} (stopped : s.link.cadence = none) : cadenceEffect s = s := by
  simp only [cadenceEffect, stopped]

theorem cadenceEffect_due {s : State} {n : Nat} (running : s.link.cadence = some n) : cadenceEffect s =
    State.report { s with link := { s.link with cadence := some 0 } } (.positions (s.listedAxes.map s.posItem)) := by
  simp only [cadenceEffect, running]

theorem mem_listedAxes {s : State} {a : AxisNo} : a ∈ s.listedAxes ↔
    (s.ax a).motion = .driving ∨ (s.ax a).motion = .stopping ∨ (s.ax a).motion = .backoff := by
  simp [State.listedAxes, mem_allAxes, listed_iff]

theorem listedAxes_increase (s : State) : s.listedAxes.Pairwise (fun a b => a < b) := by
  have increase : allAxes.Pairwise (fun a b => a < b) := by decide
  exact increase.filter _

variable {x : Axis}

theorem listedRemaining_move (moving : x.motion = .driving ∨ x.motion = .stopping) : x.listedRemaining = x.remaining := by
  rcases moving with h | h <;> simp only [Axis.listedRemaining, h]

theorem listedRemaining_backoff {k : Backoff} {p : Nat} (motion : x.motion = .backoff) (backoff : x.backoff = some k)
    (pos : x.pos = some p) : x.listedRemaining = some k.remaining := by
  simp only [Axis.listedRemaining, motion, backoff, pos]

theorem listedRemaining_unplaced (pos : x.pos = none) : x.listedRemaining = none := by
  have remaining : x.remaining = none := by
    unfold Axis.remaining
    rw [pos]
    cases x.move <;> rfl
  unfold Axis.listedRemaining
  rw [pos]
  split
  · next none => cases none
  · rfl
  · exact remaining

theorem phaseCode_driving {ph : Phase} (motion : x.motion = .driving) (phase : x.phase = some ph) :
    x.phaseCode = ph.code := by
  simp only [Axis.phaseCode, motion, phase]
  rfl

theorem bOpt2_eq (o : Option Nat) : bOpt2 o = o.elim [0xFF, 0xFF] b2 := by cases o <;> rfl

theorem posItem_bytes (p : PosItem) : p.bytes =
    BitVec.ofNat 8 (p.axis.val + 16 * p.phase + (if p.escalated then 128 else 0)) ::
      ((p.pos.elim [0xFF, 0xFF] b2) ++ (p.remaining.elim [0xFF, 0xFF] b2)) := by
  rw [PosItem.bytes, bOpt2_eq, bOpt2_eq]
  rfl

end Positions

end Sys2Proof.Laws

namespace Sys2Proof.Proofs

open Sys2Proof.Machine Sys2Proof.Laws Sys2Proof.Safety

section Transmit

variable {s : State} {f : TxFrame} (running : s.power.inReset = false) (busy : s.link.tx = some f)

include running

theorem exec_transmitEnd_idle (idle : s.link.tx = none) : exec .transmitEnd s = .next s.settle :=
  (event_runs running _).trans (by rw [transmitEndEffect_idle idle])

include busy

/-- The end of a frame, by the frame that begins to be sent and the request that is taken then. -/
theorem exec_transmitEnd_next {t v : State} (stays : s.power.sleepOpts = none ∨ f.sleepReply = false)
    (begun : (lineFreed s).startTx = t) (after : t.takeNext = v) : exec .transmitEnd s = .next v.settle :=
  (event_runs running _).trans (by rw [transmitEndEffect_next busy stays, begun, after])

/-- TRANSMIT_END while no POWER has been taken (R178, R181). -/
theorem transmitEnd_staying (opts : s.power.sleepOpts = none) (runs : s.power.state.runs = true) :
    let u : State := { s with link := { s.link with tx := none } }
    (∀ r, s.link.slot = some r → s.link.intake = [] → exec .transmitEnd s = .next (State.settle
      { u with link := { u.link with slot := none, tx := some ⟨r.frame.bytes, false⟩ } })) ∧
    (∀ r g gs, s.link.slot = some r → s.link.intake = g :: gs → exec .transmitEnd s = .next (State.settle
      (takeFrame g { u with link := { u.link with slot := none, tx := some ⟨r.frame.bytes, false⟩, intake := gs } }))) ∧
    (∀ r rs, s.link.slot = none → s.link.intake = [] → s.link.reports = r :: rs → exec .transmitEnd s = .next (State.settle
      { u with link := { u.link with reports := rs, tx := some ⟨r.frame.bytes, false⟩ } })) ∧
    (s.link.slot = none → s.link.intake = [] → s.link.reports = [] → exec .transmitEnd s = .next u.settle) := by
  intro u
  have stays : s.power.sleepOpts = none ∨ f.sleepReply = false := .inl opts
  have isSome : s.power.sleepOpts.isSome = false := by rw [opts]; rfl
  exact ⟨fun r slot empty => exec_transmitEnd_next running busy stays (startTx_freed slot runs isSome) (takeNext_empty empty),
    fun r g gs slot oldest => exec_transmitEnd_next running busy stays (startTx_freed slot runs isSome)
      (takeNext_oldest oldest rfl opts runs),
    fun r rs slot empty reports => exec_transmitEnd_next running busy stays
      (startTx_report (s := lineFreed s) slot reports rfl runs) (takeNext_empty empty),
    fun slot empty reports => exec_transmitEnd_next running busy stays
      (startTx_silent (s := lineFreed s) (.inr ⟨slot, reports⟩)) (takeNext_empty empty)⟩

/-- TRANSMIT_END once a POWER has been taken, but for the end of its reply (R178, R181, R197). -/
theorem transmitEnd_leaving {o : SleepOpts} (opts : s.power.sleepOpts = some o) (report : f.sleepReply = false)
    (runs : s.power.state.runs = true) :
    let u : State := { s with link := { s.link with tx := none } }
    (∀ r, s.link.slot = some r → exec .transmitEnd s = .next (State.settle
      { u with link := { u.link with slot := none, tx := some ⟨r.frame.bytes, true⟩ } })) ∧
    (∀ r rs, s.link.slot = none → s.link.reports = r :: rs → exec .transmitEnd s = .next (State.settle
      { u with link := { u.link with reports := rs, tx := some ⟨r.frame.bytes, false⟩ } })) ∧
    (s.link.slot = none → s.link.reports = [] → exec .transmitEnd s = .next u.settle) := by
  intro u
  have stays : s.power.sleepOpts = none ∨ f.sleepReply = false := .inr report
  have isSome : s.power.sleepOpts.isSome = true := by rw [opts]; rfl
  exact ⟨fun r slot => exec_transmitEnd_next running busy stays (startTx_freed slot runs isSome) (takeNext_leaving opts),
    fun r rs slot reports => exec_transmitEnd_next running busy stays
      (startTx_report (s := lineFreed s) slot reports rfl runs) (takeNext_leaving opts),
    fun slot reports => exec_transmitEnd_next running busy stays
      (startTx_silent (s := lineFreed s) (.inr ⟨slot, reports⟩)) (takeNext_leaving opts)⟩

end Transmit

/-- Settles O46: the end of a frame by what waits, the POSITIONS report item by item, and the bytes of each report. -/
theorem transmitEndAndCadenceExpiry : Obligations.TransmitEndAndCadenceExpiry := by
  unfold Obligations.TransmitEndAndCadenceExpiry
  refine ⟨fun s running => ⟨exec_transmitEnd_idle running, fun f busy opts runs => transmitEnd_staying running busy opts runs,
      fun f o busy opts report runs => transmitEnd_leaving running busy opts report runs⟩,
    ⟨fun s running => ⟨fun stopped => ?stopped, fun n due => ?due⟩, fun s a => mem_listedAxes, listedAxes_increase,
      fun s a => ?item, posItem_bytes, fun items => rfl⟩,
    ⟨fun n => ⟨rfl, rfl, rfl, rfl, rfl, rfl, rfl⟩, fun i => rfl⟩, ?codes, ?frames⟩
  case stopped => exact (event_runs running _).trans (by rw [cadenceEffect_stopped stopped])
  case due => exact (event_runs running _).trans (by rw [cadenceEffect_due due])
  case item =>
    refine ⟨rfl, rfl, rfl, fun stopping => ?_, fun backoff => ?_, fun ph driving phase => ?_, fun moving still => ?_,
      fun m p moving move pos => ?_, fun k p motion backoff pos => ?_, listedRemaining_unplaced⟩
    · simp only [State.posItem, Axis.phaseCode, stopping]
    · simp only [State.posItem, Axis.phaseCode, backoff]
    · refine (phaseCode_driving driving phase).trans ?_
      cases ph <;> rfl
    · exact (listedRemaining_move moving).trans (by simp only [Axis.remaining, still])
    · exact (listedRemaining_move moving).trans (by simp only [Axis.remaining, move, pos])
    · exact listedRemaining_backoff motion backoff pos
  case codes => exact ⟨rfl, rfl, rfl, rfl, rfl, rfl, rfl, fun run => rfl, rfl, rfl, rfl, rfl, rfl, rfl⟩
  case frames =>
    intro flag owner cause firstFault planError reasons
    have flags (b : Bool) : bFlag b = flag b := bFlag_eq b
    have owners (o : OwnerTag) : o.bytes = owner o := by cases o <;> rfl
    have causes (c : Cause) : c.bytes = cause c := by cases c <;> rfl
    have firsts (x : Option (AxisNo × FaultKind)) : firstFaultBytes x = firstFault x := by cases x <;> rfl
    have errors (x : Option (Nat × PlanCause)) : planErrorBytes x = planError x := by cases x <;> rfl
    refine ⟨fun c t => ⟨rfl, fun o => ?_⟩, fun items => rfl, fun r sl i o x y t => ⟨rfl, rfl⟩, fun r sl k t d n x => ?_,
      fun r sl w x p d t => ?_, fun a further due k c p e o => ?_, fun ev a b e copy p q o => ?_, fun op o k ax rs => rfl,
      fun a n p r => rfl, fun c b t h q k av u => ?_, fun a old new c p => rfl⟩
    · simp only [Report.frame, Report.payload, sleepOptsBytes, flags]
      rfl
    · simp only [Report.frame, Report.payload, firsts]
      rfl
    · simp only [Report.frame, Report.payload, firsts, errors]
      rfl
    · simp only [Report.frame, Report.payload, flags, causes, owners]
      rfl
    · simp only [Report.frame, Report.payload, copyByte, flags, owners]
      rfl
    · simp only [Report.frame, Report.payload, flags]
      rfl

end Sys2Proof.Proofs
